-- ==== Sys2Proof/Word.lean ====
section
/-! DEFINITION. The bytes, samples and small fixed collections the model of the FN-4 is written with.
Bit vectors stand only where the manual has bits: the bytes of a control port (R179, R196) and the
10-bit video samples and ancillary words (00_scope "Samples", R198). Counts, frame numbers, delays and
geometry are natural numbers. -/

namespace Sys2Proof

/-- A byte on a control port: the eight low data bits of a character (R179). -/
abbrev Byte := BitVec 8

/-- A two-byte field of a request, most significant byte first on the wire (R196). -/
abbrev Half := BitVec 16

/-- A 10-bit video sample or ancillary data word. -/
abbrev Sample := BitVec 10

/-- `n` like things, numbered from 0. -/
abbrev Bank (n : Nat) (α : Type) := Vector α n

/-- The `i`-th thing of a bank. -/
def Bank.pick {n : Nat} {α : Type} (b : Bank n α) (i : Fin n) : α := b[i]

/-- The bank with its `i`-th thing replaced. -/
def Bank.put {n : Nat} {α : Type} (b : Bank n α) (i : Fin n) (x : α) : Bank n α := b.set i x

/-- A bank of `n` equal things. -/
def Bank.fill (n : Nat) {α : Type} (x : α) : Bank n α := Vector.replicate n x

/-- A channel of the device: CH0 to CH3. -/
abbrev Channel := Fin 4

/-- The four channels in ascending order. -/
def Channel.all : List Channel := [0, 1, 2, 3]

/-- A contact input: GPI 0 to 7. -/
abbrev GpiIx := Fin 8

/-- A tally output: TAL 0 to 3. -/
abbrev TallyIx := Fin 4

/-- A slot of the cue pool (R20). -/
abbrev SlotIx := Fin 256

/-- A slot of a signer ring (R124). -/
abbrev RingIx := Fin 3

/-- The index of a preset record (R81). -/
abbrev PresetIx := Fin 8

/-- The index of an exclusion span (R63). -/
abbrev SpanIx := Fin 4

/-- One of the four markers of a calibration run, numbered from 0 (R157). -/
abbrev MarkerIx := Fin 4

/-- A control port: CP-A, CP-B or CP-C. -/
inductive PortId where
  | a | b | c
deriving DecidableEq, Repr

/-- The three ports in order. -/
def PortId.all : List PortId := [.a, .b, .c]

/-- One thing for each control port. -/
structure Trio (α : Type) where
  a : α
  b : α
  c : α
deriving DecidableEq, Repr

/-- The thing of port `p`. -/
def Trio.pick {α : Type} (t : Trio α) : PortId → α
  | .a => t.a
  | .b => t.b
  | .c => t.c

/-- The trio with the thing of port `p` replaced. -/
def Trio.put {α : Type} (t : Trio α) (p : PortId) (x : α) : Trio α :=
  match p with
  | .a => { t with a := x }
  | .b => { t with b := x }
  | .c => { t with c := x }

/-- A set of control ports, such as a channel's hold set. -/
abbrev PortSet := Trio Bool

/-- The empty set of ports. -/
def PortSet.empty : PortSet := ⟨false, false, false⟩

/-- Whether no port is in the set. -/
def PortSet.isEmpty (t : PortSet) : Bool := !t.a && !t.b && !t.c

end Sys2Proof
end

