-- ==== Sys2Proof/Syntax.lean ====
section
/-! DEFINITION. What reaches the FN-4 from outside: its enumerations, the video, ancillary and timecode
data its inputs carry, the fields of its control requests as they stand on the wire, and `Instr`, with
one constructor for each row of spec/opcode_table.json. -/

namespace Sys2Proof

/-! ## Formats and timecode -/

/-- The station formats F1 to F6 (00_scope, "Station Formats"). -/
inductive Format where
  | f1 | f2 | f3 | f4 | f5 | f6
deriving DecidableEq, Repr, Inhabited

/-- A time label hh:mm:ss:ff, as its four numbers (R8). -/
structure Label where
  hh : Nat
  mm : Nat
  ss : Nat
  ff : Nat
deriving DecidableEq, Repr, Inhabited

/-! ## Video and ancillary data -/

/-- Two horizontally adjacent luma samples and the chroma pair they share
(00_scope, "Samples"). -/
structure Pair where
  y0 : Sample
  y1 : Sample
  cb : Sample
  cr : Sample
deriving DecidableEq, Repr, Inhabited

/-- A picture or field. Sample pair `i` of a line holds columns `2 i` and `2 i + 1`. A pair is the one
the first entry of `listed` gives for its line and pair number, and `base` where no entry names it. -/
structure Picture where
  base : Pair
  listed : List ((Nat × Nat) × Pair)
deriving DecidableEq, Repr, Inhabited

/-- The raster of a received signer picture (R119): for each of its fields, or for the one picture, the number of
samples that each active line held, in order. -/
abbrev Raster := List (List Nat)

/-- The samples that a frame line of a received picture held: of two fields the first holds the even frame lines and
the second the odd ones (R99). -/
def Raster.samples (r : Raster) (y : Nat) : Nat :=
  match r with
  | [lines] => lines.getD y 0
  | [first, second] => if y % 2 = 0 then first.getD (y / 2) 0 else second.getD (y / 2) 0
  | _ => 0

/-- An ancillary data packet as the serial layer hands it over: its 10-bit words, the identifier
pair first, then the data count and the user words (R198). -/
structure Packet where
  words : List Sample
deriving DecidableEq, Repr, Inhabited

/-- What stands on a line of ancillary space, in order from the start of the line: a packet, or a
stretch of empty space of so many words. An item's position is the room taken by the items before it. -/
inductive AncItem where
  | packet (p : Packet)
  | space (words : Nat)
deriving DecidableEq, Repr, Inhabited

/-- The ancillary data of one period: the lines of the vertical ancillary space, the lines of the
horizontal ancillary space (the embedded audio among it), and the label of the embedded timecode, or
none (00_scope, "Scope of This Manual"). -/
structure AncData where
  vertical : List (List AncItem)
  horizontal : List (List AncItem)
  timecode : Option Label
deriving DecidableEq, Repr, Inhabited

/-- One field (F1, F2) or one picture (F3 to F6) of a programme frame, with the ancillary data of
its period. In F1 and F2 the picture's lines are field lines. -/
structure PeriodPart where
  picture : Picture
  anc : AncData
deriving DecidableEq, Repr, Inhabited

/-- A programme frame: its two fields or its two pictures (R99, R138). -/
structure ProgrammeFrame where
  first : PeriodPart
  second : PeriodPart
deriving DecidableEq, Repr, Inhabited

/-- A complete frame that arrived on a programme input, with the format (raster, scan and rate) it
arrived in (R138). -/
structure InputFrame where
  format : Format
  frame : ProgrammeFrame
deriving DecidableEq, Repr, Inhabited

/-! ## Signals of the other connections -/

/-- A contact input as sampled: CLOSED when its contact to ground is closed (Chapter 9). -/
inductive Contact where
  | opened | closed
deriving DecidableEq, Repr, Inhabited

/-- A character received on a control port: whether its stop bit was wrong, its ninth data bit, and
the value of its other eight (R179). -/
structure Character where
  stopError : Bool
  lead : Bool
  value : Byte
deriving DecidableEq, Repr, Inhabited

/-- The straps read at power-on reset (11.6). -/
structure Straps where
  supv : BitVec 2
  baud : BitVec 1
  fmt : BitVec 3
deriving DecidableEq, Repr, Inhabited

/-! ## The orders the manual leaves open

Where rules let events of one instant be taken in either order (R57, R76, R116, R127, R144, R173, R175
and others), the command that brings them together carries the order in which they are taken. -/

/-- At a change of a signer to unavailable, which neighbour takes it first: the window controller, or
the calibration unit (R128, R76). -/
inductive HandOver where
  | windowFirst | calibrationFirst
deriving DecidableEq, Repr, Inhabited

/-- Which of its two receivers takes a step report first (R76): the cue scheduler or the exclusion
span matcher. -/
inductive ReportOrder where
  | cuesFirst | spansFirst
deriving DecidableEq, Repr, Inhabited

/-- The parts of an output frame start, for each channel: the delay line's work and the cue clock's
update and report (`delay`), the scheduler's (`cues`) and the span matcher's (`spans`). -/
inductive FrameTask where
  | delay (c : Channel)
  | cues (c : Channel)
  | spans (c : Channel)
deriving DecidableEq, Repr

/-- The parts of a period start: a signer synchroniser's choice and holding count, the sampling of
one GPI (with the order in which the channels of its mask are reached by a FIRE edge), a calibration
unit's count, and the window controller's advance of a channel with the latches and tallies that
follow it. -/
inductive PeriodTask where
  | synchronise (c : Channel) (h : HandOver)
  | contact (g : GpiIx) (edges : List Channel)
  | calibrate (c : Channel)
  | window (c : Channel)
deriving DecidableEq, Repr

/-! ## Request fields, as bytes on the wire (R197, 11.3) -/

/-- The four bytes of a label field. -/
structure LabelBytes where
  hh : Byte
  mm : Byte
  ss : Byte
  ff : Byte
deriving DecidableEq, Repr, Inhabited

/-- The two bytes of a handle field. -/
structure HandleBytes where
  slot : Byte
  generation : Byte
deriving DecidableEq, Repr, Inhabited

/-- The cue fields of CUE_ADD and CUE_MODIFY. The GPI of a CONTACT cue stands in `trigger.hh`. -/
structure CueFields where
  channel : Byte
  kind : Byte
  trigger : LabelBytes
  action : Byte
  duration : Half
  presetFlag : Byte
  preset : Byte
  lag : Byte
deriving DecidableEq, Repr, Inhabited

/-- A rectangle field. -/
structure RectBytes where
  x : Half
  y : Half
  w : Half
  h : Half
deriving DecidableEq, Repr, Inhabited

/-- A colour field. -/
structure ColourBytes where
  y : Half
  cb : Half
  cr : Half
deriving DecidableEq, Repr, Inhabited

/-- The preset record of PRESET_WRITE (11.4). -/
structure PresetFields where
  window : RectBytes
  border : Byte
  borderColour : ColourBytes
  crop : RectBytes
  key : Byte
  kb : Half
  kr : Half
  inner : Half
  outer : Half
  programme : RectBytes
  fill : ColourBytes
deriving DecidableEq, Repr, Inhabited

/-- The eight configuration fields of CHANNEL_CONFIG (R191). -/
structure ConfigFields where
  source : Byte
  dropMode : Byte
  freewheelLimit : Byte
  lateTolerance : Byte
  holdLimit : Byte
  lossPolicy : Byte
  slewInterval : Byte
  fade : Byte
deriving DecidableEq, Repr, Inhabited

/-- A request of the catalogue of R185 with its payload fields (11.3). -/
inductive Request where
  | statusRead (ch : Byte)
  | attentionRead
  | attentionMask (mask : Half)
  | syncStatsRead (ch clear : Byte)
  | cueAdd (f : CueFields)
  | cueModify (h : HandleBytes) (f : CueFields)
  | cueDelete (h : HandleBytes)
  | cueListRead (ch selector start : Byte)
  | cueSkipNext (ch : Byte)
  | cueClear (ch scope : Byte)
  | cueHold (mask action : Byte)
  | outcomeRead (ch : Byte)
  | windowSet (ch direction : Byte) (duration : Half) (presetFlag preset : Byte)
  | layoutSelect (ch preset : Byte) (duration : Half)
  | suppress (mask action : Byte)
  | presetWrite (ch index : Byte) (f : PresetFields)
  | presetRead (ch index : Byte)
  | spanSet (ch index enable mode : Byte) (start stop : LabelBytes)
  | spanRead (ch : Byte)
  | lagSet (ch lag : Byte)
  | boothLatencySet (ch latency : Byte)
  | calibrate (ch : Byte)
  | clockPreset (ch : Byte) (label : LabelBytes)
  | channelConfig (ch : Byte) (f : ConfigFields)
  | gpiBind (gpi mode mask polarity debounce : Byte)
  | tallySet (tally ch mode onCount offCount : Byte)
  | formatSet (format : Byte)
  | channelReset (ch : Byte)
  | deviceReset
  | configRead (part ch : Byte)
deriving DecidableEq, Repr

/-! ## The commands -/

/-- The commands of the device, one constructor for each row of spec/opcode_table.json. A reading of
the measurement clock is `now`. A request carries the port it arrives on, its tag and its payload
fields. -/
inductive Instr where
  /-- POWER_ON_RESET (R7): release of RESET, with the straps as they stand. -/
  | powerOnReset (straps : Straps)
  /-- REFERENCE_FRAME_START (R2), at a reading of the measurement clock. -/
  | referenceFrameStart (now : Nat)
  /-- REFERENCE_TIMEOUT (R2). -/
  | referenceTimeout
  /-- OUTPUT_FRAME_START (R1): the reading at which it falls, and for each programme input the
  complete frames that began within the output frame now ending, in order of arrival (R138). -/
  | outputFrameStart (now : Nat) (inputs : Bank 4 (List InputFrame)) (order : List FrameTask)
  /-- RELOCK_END (R4). -/
  | relockEnd
  /-- FREEWHEEL_EXPIRED (R14). -/
  | freewheelExpired (c : Channel)
  /-- CLOCK_PRESET_APPLIED (R15). -/
  | clockPresetApplied (c : Channel) (order : ReportOrder)
  /-- SLEW_STEP (R145). -/
  | slewStep (c : Channel)
  /-- PERIOD_START (R77), with the eight contact inputs as they stand (R168). -/
  | periodStart (contacts : Bank 8 Contact) (order : List PeriodTask)
  /-- RAMP_END (R54). -/
  | rampEnd (c : Channel)
  /-- MOVE_END (R69). -/
  | moveEnd (c : Channel)
  /-- PENDING_LAYOUT_TAKEN (R70). -/
  | pendingLayoutTaken (c : Channel)
  /-- HOLD_LIMIT_REACHED (R123). -/
  | holdLimitReached (c : Channel) (h : HandOver)
  /-- DEBOUNCED_STATE_CHANGE (R168): the sample that completes the debounce. -/
  | debouncedStateChange (g : GpiIx) (sample : Contact) (edges : List Channel)
  /-- FLASH_PHASE_CHANGE (R175). -/
  | flashPhaseChange (t : TallyIx)
  /-- MARKER_SEND (R157). -/
  | markerSend (c : Channel)
  /-- CALIBRATION_TIMEOUT (R161). -/
  | calibrationTimeout (c : Channel)
  /-- MARKER_RECEIVED (R158): a packet found in the ancillary data of a signer input. -/
  | markerReceived (c : Channel) (packet : Packet)
  /-- SIGNAL_UP (R122). -/
  | signalUp (c : Channel)
  /-- SIGNAL_DOWN (R122). -/
  | signalDown (c : Channel)
  /-- PICTURE_START (R120), at a reading of the measurement clock. -/
  | pictureStart (c : Channel) (now : Nat)
  /-- PICTURE_COMPLETION (R125), with the raster received, from which the verdict follows (R119), and the
  picture received, its lines the frame lines of the raster. -/
  | pictureCompletion (c : Channel) (raster : Raster) (picture : Picture) (h : HandOver)
  /-- CHARACTER_RECEIVED (R180). -/
  | characterReceived (p : PortId) (ch : Character)
  /-- FRAME_GAP_TIMEOUT (R180). -/
  | frameGapTimeout (p : PortId)
  /-- LINE_BREAK (R182). -/
  | lineBreak (p : PortId)
  /-- REPLY_SENT (R183). -/
  | replySent (p : PortId)
  /-- STATUS_READ (R189). -/
  | statusRead (p : PortId) (tag : Byte) (ch : Byte)
  /-- ATTENTION_READ (R188). -/
  | attentionRead (p : PortId) (tag : Byte)
  /-- ATTENTION_MASK (R186). -/
  | attentionMask (p : PortId) (tag : Byte) (mask : Half)
  /-- SYNC_STATS_READ (R132). -/
  | syncStatsRead (p : PortId) (tag : Byte) (ch clear : Byte)
  /-- CUE_ADD (R25). -/
  | cueAdd (p : PortId) (tag : Byte) (f : CueFields)
  /-- CUE_MODIFY (R29). -/
  | cueModify (p : PortId) (tag : Byte) (h : HandleBytes) (f : CueFields)
  /-- CUE_DELETE (R30). -/
  | cueDelete (p : PortId) (tag : Byte) (h : HandleBytes)
  /-- CUE_LIST_READ (R33). -/
  | cueListRead (p : PortId) (tag : Byte) (ch selector start : Byte)
  /-- CUE_SKIP_NEXT (R32). -/
  | cueSkipNext (p : PortId) (tag : Byte) (ch : Byte)
  /-- CUE_CLEAR (R31). -/
  | cueClear (p : PortId) (tag : Byte) (ch scope : Byte)
  /-- CUE_HOLD (R43). -/
  | cueHold (p : PortId) (tag : Byte) (mask action : Byte)
  /-- OUTCOME_READ (R49). -/
  | outcomeRead (p : PortId) (tag : Byte) (ch : Byte)
  /-- WINDOW_SET (R74). -/
  | windowSet (p : PortId) (tag : Byte) (ch direction : Byte) (duration : Half)
      (presetFlag preset : Byte)
  /-- LAYOUT_SELECT (R75). -/
  | layoutSelect (p : PortId) (tag : Byte) (ch preset : Byte) (duration : Half)
  /-- SUPPRESS (R60). -/
  | suppress (p : PortId) (tag : Byte) (mask action : Byte)
  /-- PRESET_WRITE (R82). -/
  | presetWrite (p : PortId) (tag : Byte) (ch index : Byte) (f : PresetFields)
  /-- PRESET_READ (R89). -/
  | presetRead (p : PortId) (tag : Byte) (ch index : Byte)
  /-- SPAN_SET (R65). -/
  | spanSet (p : PortId) (tag : Byte) (ch index enable mode : Byte) (start stop : LabelBytes)
  /-- SPAN_READ (R66). -/
  | spanRead (p : PortId) (tag : Byte) (ch : Byte)
  /-- LAG_SET (R141). -/
  | lagSet (p : PortId) (tag : Byte) (ch lag : Byte)
  /-- BOOTH_LATENCY_SET (R165). -/
  | boothLatencySet (p : PortId) (tag : Byte) (ch latency : Byte)
  /-- CALIBRATE (R155). -/
  | calibrate (p : PortId) (tag : Byte) (ch : Byte)
  /-- CLOCK_PRESET (R16). -/
  | clockPreset (p : PortId) (tag : Byte) (ch : Byte) (label : LabelBytes)
  /-- CHANNEL_CONFIG (R191). -/
  | channelConfig (p : PortId) (tag : Byte) (ch : Byte) (f : ConfigFields)
  /-- GPI_BIND (R172). -/
  | gpiBind (p : PortId) (tag : Byte) (gpi mode mask polarity debounce : Byte)
  /-- TALLY_SET (R176). -/
  | tallySet (p : PortId) (tag : Byte) (tally ch mode onCount offCount : Byte)
  /-- FORMAT_SET (R5). -/
  | formatSet (p : PortId) (tag : Byte) (format : Byte)
  /-- CHANNEL_RESET (R192). -/
  | channelReset (p : PortId) (tag : Byte) (ch : Byte)
  /-- DEVICE_RESET (R194). -/
  | deviceReset (p : PortId) (tag : Byte)
  /-- CONFIG_READ (R190). -/
  | configRead (p : PortId) (tag : Byte) (part ch : Byte)
  /-- LINE_RETURNED_TO_MARK (R182). -/
  | lineReturnedToMark (p : PortId)
deriving DecidableEq, Repr

end Sys2Proof
end

