-- ==== Sys2Proof/Decode.lean ====
section
/-! DEFINITION. Reading a request frame: which request its code names, whether its length fits, and where
its fields stand (R185 checks 1 and 2, R196, R197, 11.3). The command table gives its rows no bits, so no
table word spells a command. -/

namespace Sys2Proof

/-- The command a table word spells: the rows of the command table have no bits, so there is none. -/
def decodeTableWord (_nbits _w : Nat) : Option Instr := none

/-- What the dispatcher makes of a frame's code and payload (R185 checks 1 and 2). -/
inductive FrameReading where
  | unknown
  | badLength
  | request (r : Request)
deriving DecidableEq, Repr

/-- The payload length of the request a code names (11.3); none for a code that names none. -/
def requestLength (code : Byte) : Option Nat :=
  match code.toNat with
  | 0x01 => some 1
  | 0x02 => some 0
  | 0x03 => some 2
  | 0x04 => some 2
  | 0x10 => some 12
  | 0x11 => some 14
  | 0x12 => some 2
  | 0x13 => some 3
  | 0x14 => some 1
  | 0x15 => some 2
  | 0x16 => some 2
  | 0x17 => some 1
  | 0x20 => some 6
  | 0x21 => some 4
  | 0x22 => some 2
  | 0x23 => some 48
  | 0x24 => some 2
  | 0x25 => some 12
  | 0x26 => some 1
  | 0x30 => some 2
  | 0x31 => some 2
  | 0x32 => some 1
  | 0x33 => some 5
  | 0x38 => some 9
  | 0x39 => some 5
  | 0x3A => some 5
  | 0x3B => some 1
  | 0x3C => some 1
  | 0x3D => some 0
  | 0x3E => some 2
  | _ => none

/-- The byte at an offset of a payload. -/
def byteAt (l : List Byte) (i : Nat) : Byte := l.getD i 0

/-- The two-byte field at an offset, most significant byte first (R196). -/
def halfAt (l : List Byte) (i : Nat) : Half := byteAt l i ++ byteAt l (i + 1)

/-- The label field at an offset. -/
def labelAt (l : List Byte) (i : Nat) : LabelBytes :=
  { hh := byteAt l i, mm := byteAt l (i + 1), ss := byteAt l (i + 2), ff := byteAt l (i + 3) }

/-- The handle field at an offset. -/
def handleAt (l : List Byte) (i : Nat) : HandleBytes :=
  { slot := byteAt l i, generation := byteAt l (i + 1) }

/-- The rectangle field at an offset. -/
def rectAt (l : List Byte) (i : Nat) : RectBytes :=
  { x := halfAt l i, y := halfAt l (i + 2), w := halfAt l (i + 4), h := halfAt l (i + 6) }

/-- The colour field at an offset. -/
def colourAt (l : List Byte) (i : Nat) : ColourBytes :=
  { y := halfAt l i, cb := halfAt l (i + 2), cr := halfAt l (i + 4) }

/-- The cue fields at an offset (11.3). -/
def cueFieldsAt (l : List Byte) (i : Nat) : CueFields :=
  { channel := byteAt l i
    kind := byteAt l (i + 1)
    trigger := labelAt l (i + 2)
    action := byteAt l (i + 6)
    duration := halfAt l (i + 7)
    presetFlag := byteAt l (i + 9)
    preset := byteAt l (i + 10)
    lag := byteAt l (i + 11) }

/-- The preset record at an offset (11.4). -/
def presetFieldsAt (l : List Byte) (i : Nat) : PresetFields :=
  { window := rectAt l i
    border := byteAt l (i + 8)
    borderColour := colourAt l (i + 9)
    crop := rectAt l (i + 15)
    key := byteAt l (i + 23)
    kb := halfAt l (i + 24)
    kr := halfAt l (i + 26)
    inner := halfAt l (i + 28)
    outer := halfAt l (i + 30)
    programme := rectAt l (i + 32)
    fill := colourAt l (i + 40) }

/-- The configuration fields at an offset, in the order of R191. -/
def configFieldsAt (l : List Byte) (i : Nat) : ConfigFields :=
  { source := byteAt l i
    dropMode := byteAt l (i + 1)
    freewheelLimit := byteAt l (i + 2)
    lateTolerance := byteAt l (i + 3)
    holdLimit := byteAt l (i + 4)
    lossPolicy := byteAt l (i + 5)
    slewInterval := byteAt l (i + 6)
    fade := byteAt l (i + 7) }

/-- The request of a code with the fields of a payload of its length (11.3). -/
def requestOf (code : Byte) (l : List Byte) : Option Request :=
  match code.toNat with
  | 0x01 => some (.statusRead (byteAt l 0))
  | 0x02 => some .attentionRead
  | 0x03 => some (.attentionMask (halfAt l 0))
  | 0x04 => some (.syncStatsRead (byteAt l 0) (byteAt l 1))
  | 0x10 => some (.cueAdd (cueFieldsAt l 0))
  | 0x11 => some (.cueModify (handleAt l 0) (cueFieldsAt l 2))
  | 0x12 => some (.cueDelete (handleAt l 0))
  | 0x13 => some (.cueListRead (byteAt l 0) (byteAt l 1) (byteAt l 2))
  | 0x14 => some (.cueSkipNext (byteAt l 0))
  | 0x15 => some (.cueClear (byteAt l 0) (byteAt l 1))
  | 0x16 => some (.cueHold (byteAt l 0) (byteAt l 1))
  | 0x17 => some (.outcomeRead (byteAt l 0))
  | 0x20 => some (.windowSet (byteAt l 0) (byteAt l 1) (halfAt l 2) (byteAt l 4) (byteAt l 5))
  | 0x21 => some (.layoutSelect (byteAt l 0) (byteAt l 1) (halfAt l 2))
  | 0x22 => some (.suppress (byteAt l 0) (byteAt l 1))
  | 0x23 => some (.presetWrite (byteAt l 0) (byteAt l 1) (presetFieldsAt l 2))
  | 0x24 => some (.presetRead (byteAt l 0) (byteAt l 1))
  | 0x25 => some (.spanSet (byteAt l 0) (byteAt l 1) (byteAt l 2) (byteAt l 3) (labelAt l 4)
      (labelAt l 8))
  | 0x26 => some (.spanRead (byteAt l 0))
  | 0x30 => some (.lagSet (byteAt l 0) (byteAt l 1))
  | 0x31 => some (.boothLatencySet (byteAt l 0) (byteAt l 1))
  | 0x32 => some (.calibrate (byteAt l 0))
  | 0x33 => some (.clockPreset (byteAt l 0) (labelAt l 1))
  | 0x38 => some (.channelConfig (byteAt l 0) (configFieldsAt l 1))
  | 0x39 => some (.gpiBind (byteAt l 0) (byteAt l 1) (byteAt l 2) (byteAt l 3) (byteAt l 4))
  | 0x3A => some (.tallySet (byteAt l 0) (byteAt l 1) (byteAt l 2) (byteAt l 3) (byteAt l 4))
  | 0x3B => some (.formatSet (byteAt l 0))
  | 0x3C => some (.channelReset (byteAt l 0))
  | 0x3D => some .deviceReset
  | 0x3E => some (.configRead (byteAt l 0) (byteAt l 1))
  | _ => none

/-- The dispatcher's reading of a frame (R185 checks 1 and 2). -/
def readFrame (code : Byte) (payload : List Byte) : FrameReading :=
  match requestLength code with
  | none => .unknown
  | some n =>
    if payload.length ≠ n then .badLength
    else
      match requestOf code payload with
      | none => .unknown
      | some r => .request r

end Sys2Proof
end

