-- ==== Sys2Proof/Config.lean ====
section
/-! DEFINITION. What the manual leaves to the serial digital video layer, or gives no contents for. Each
is a constant with no body: nothing can be proved of its value, so a statement about the model holds for
every value of it (notes/assumptions/3.md and 4.md). -/

namespace Sys2Proof

/-- How many lines the vertical ancillary space of a period of the format has (00_scope, "Scope of
This Manual": the extent of the space is the serial layer's). -/
opaque Config.verticalLines : Format → Nat

/-- The room, in words, on line `i` of the vertical ancillary space of a period of the format. -/
opaque Config.lineRoom : Format → Nat → Nat

/-- The words that the serial layer's framing adds to a packet's own words. -/
opaque Config.packetFraming : Nat

/-- The two upper bits of a 10-bit ancillary data word that carries an 8-bit value: R198 gives only the
low eight bits. -/
opaque Config.upperBits : Nat → BitVec 2

/-- What a ring slot holds while a picture is being written to it, or after one was discarded (R124).
The manual calls these contents and gives no value to them; R124 keeps the compositor from reading such a
slot. -/
opaque Config.unfinishedPicture : Picture

end Sys2Proof
end

