-- ==== Sys2Proof/Machine/Basics.lean ====
section
/-! DEFINITION. Plain arithmetic and list helpers that the rules use again and again. -/

namespace Sys2Proof.Machine

open Sys2Proof

/-- The largest even number not greater than `n` (00_scope, "Arithmetic"). -/
def evenDown (n : Nat) : Nat := n - n % 2

/-- The smallest even number not less than `n` (R85). -/
def evenUp (n : Nat) : Nat := n + n % 2

/-- `n` brought into `lo`–`hi`. -/
def clampTo (lo hi n : Nat) : Nat := min hi (max lo n)

/-- A count that stays at `top` once it is there (R131, R180). -/
def saturate (top n : Nat) : Nat := min top n

/-- The list with every later entry of a key already met left out. -/
def firstOfKey {α κ : Type} [DecidableEq κ] (key : α → κ) : List κ → List α → List α
  | _, [] => []
  | seen, x :: rest =>
    if key x ∈ seen then firstOfKey key seen rest
    else x :: firstOfKey key (key x :: seen) rest

/-- The distance from frame number `a` to frame number `b`: (b − a) mod the day length
(00_scope, "distance"). -/
def distance (day a b : Nat) : Nat := (((b : Int) - (a : Int)) % (day : Int)).toNat

/-- `a` moved the part `k`/`len` of the way to `b`, the quotient truncated toward zero
(R93, R96). -/
def interpolate (a b k len : Nat) : Nat :=
  ((a : Int) + Int.tdiv (((b : Int) - (a : Int)) * (k : Int)) (len : Int)).toNat

/-- A number as two bytes, most significant first (R196). -/
def bytes2 (n : Nat) : List Byte := [BitVec.ofNat 8 (n / 256), BitVec.ofNat 8 n]

/-- A number as four bytes, most significant first (R196). -/
def bytes4 (n : Nat) : List Byte :=
  [BitVec.ofNat 8 (n / 16777216), BitVec.ofNat 8 (n / 65536), BitVec.ofNat 8 (n / 256),
    BitVec.ofNat 8 n]

/-- A number as one byte. -/
def byte1 (n : Nat) : Byte := BitVec.ofNat 8 n

/-- A flag as one byte: 0 clear, 1 set (11.3). -/
def flagByte (b : Bool) : Byte := if b then 1 else 0

end Sys2Proof.Machine
end

