-- ==== Sys2Proof/Machine/Records.lean ====
section
/-! DEFINITION. The records each block of the FN-4 holds, named as the manual names them. Plain data
throughout. -/

namespace Sys2Proof.Machine

open Sys2Proof

/-! ## Timing and the cue clock (Chapter 1) -/

/-- The reference state (R2). -/
inductive ReferenceState where
  | locked | free
deriving DecidableEq, Repr

/-- The timing unit's state. -/
structure Timing where
  /-- The station format (R5). -/
  format : Format
  /-- The reference state (R2). -/
  reference : ReferenceState
  /-- Count of good reference intervals (R2, R7). -/
  goodIntervals : Nat
  /-- Reading of the measurement clock at the last reference frame start judged, from which the next
  interval is measured (R2). -/
  lastReference : Option Nat
  /-- Relock count (R4). -/
  relockCount : Nat
  /-- Whether the output frame in progress is a relock frame (R4). -/
  relocking : Bool
  /-- Whether the period in progress belongs to a relock, so that every output is black (R4, R115, R153):
settled at the period's start, and at once where a reset ends the frame in progress (R5). -/
  relockPeriod : Bool
  /-- Reading at the last output frame start, from which free-running timing counts (R3). -/
  lastFrameStart : Option Nat
  /-- Whether the output frame in progress is to be extended to a reference frame start (R3): the
reference locked while it was in progress. -/
  extending : Bool
  /-- Whether the outputs carry the blanking that extends a frame completed at its full length, which lasts
until the next period starts (R3). -/
  blanking : Bool
  /-- Whether an output frame is in progress at all (R138). -/
  frameInProgress : Bool
  /-- Whether the next period to start is the first of a frame: after an output frame start, and after a
reset that begins the timing anew (R1). -/
  firstPeriodDue : Bool
  /-- Whether the period in progress is the second of its frame (R1). -/
  secondPeriod : Bool
  /-- The rate of the control ports as the BAUD strap selected it: false 38,400 baud, true 115,200
  (R179). -/
  fastBaud : Bool
deriving DecidableEq, Repr

/-- The clock state (1.3). -/
inductive ClockStatus where
  | valid | freewheel | invalid
deriving DecidableEq, Repr

/-- The timecode source (1.3). -/
inductive Source where
  | embedded | internal
deriving DecidableEq, Repr

/-- Drop mode: DF or NDF (1.3). -/
inductive DropMode where
  | df | ndf
deriving DecidableEq, Repr

/-- The cue clock of a channel (1.3). -/
structure CueClock where
  value : Nat
  status : ClockStatus
  source : Source
  dropMode : DropMode
  freewheelLimit : Nat
  freewheelCount : Nat
  lastValid : Option Nat
  pendingPreset : Option Nat
deriving DecidableEq, Repr

/-- The kind of a step (R17). -/
inductive StepKind where
  | repeated | advance | forward | backward
deriving DecidableEq, Repr

/-- A step report of a cue clock (R17): its state after the update, and, unless that is INVALID, the
clock value, the distance and the kind. -/
structure StepReport where
  status : ClockStatus
  value : Nat
  distance : Nat
  kind : StepKind
deriving DecidableEq, Repr

/-! ## The cue table (Chapter 2) -/

/-- A handle: a slot and a generation (R20). -/
structure Handle where
  slot : SlotIx
  generation : Nat
deriving DecidableEq, Repr

/-- What sets a cue off: a fire time, or a GPI (2.1). -/
inductive Trigger where
  | time (at_ : Nat)
  | contact (g : GpiIx)
deriving DecidableEq, Repr

/-- The action of a cue (2.1). -/
inductive Action where
  | windowIn | windowOut | layout | lag
deriving DecidableEq, Repr

/-- A live cue record (2.1). Its handle is the slot it stands in with that slot's generation, and its
state is PENDING for a TIME cue and WAITING for a CONTACT cue. -/
structure Cue where
  channel : Channel
  origin : PortId
  trigger : Trigger
  action : Action
  duration : Nat
  preset : Option PresetIx
  lag : Nat
  late : Bool
deriving DecidableEq, Repr

/-- A slot of the cue pool: its generation, and the live cue it holds, if any (R20). -/
structure CueSlot where
  generation : Nat
  cue : Option Cue
deriving DecidableEq, Repr

/-- What became of a cue (R47). -/
inductive Result where
  | fired | firedLate | skipped | missed | cancelled | superseded
deriving DecidableEq, Repr

/-- An outcome record (R47). -/
structure OutcomeRecord where
  handle : Handle
  action : Action
  origin : PortId
  result : Result
  label : Option Label
deriving DecidableEq, Repr

/-- The lists, ring, hold set and scan of a channel's scheduler (Chapter 2). -/
structure Scheduler where
  /-- Slots of the channel's TIME cues, in list order (R22). -/
  timed : List SlotIx
  /-- Slots of the channel's CONTACT cues, oldest first (R23). -/
  contact : List SlotIx
  /-- The outcome ring, oldest first (R47). -/
  ring : List OutcomeRecord
  /-- The outcome total (R47). -/
  total : Nat
  hold : PortSet
  resume : Bool
  /-- Whether the clock has reported during a hold since the resume flag was last set: a hold released
without a report leaves the next step as the clock reports it (R44). -/
  reported : Bool
  scan : Option Nat
  lateTolerance : Nat
deriving DecidableEq, Repr

/-! ## Layouts and the window (Chapters 3 and 4) -/

/-- A rectangle (x, y, w, h). -/
structure Rect where
  x : Nat
  y : Nat
  w : Nat
  h : Nat
deriving DecidableEq, Repr

/-- A colour (Y, Cb, Cr) of a layout. -/
structure Colour where
  y : Nat
  cb : Nat
  cr : Nat
deriving DecidableEq, Repr

/-- The fields of a preset record apart from the last writer, and so of the working geometry (4.1,
4.4). -/
structure Layout where
  window : Rect
  border : Nat
  borderColour : Colour
  crop : Rect
  key : Bool
  kb : Nat
  kr : Nat
  inner : Nat
  outer : Nat
  programme : Rect
  fill : Colour
deriving DecidableEq, Repr

/-- A preset record (4.1). -/
structure Preset where
  layout : Layout
  writer : Option PortId
deriving DecidableEq, Repr

/-- The period geometry latched to the compositor (R97). In `layout` stand the period's own values:
its window rectangle, lowered border, fitted crop, key, colours and programme rectangle. -/
structure PeriodGeometry where
  layout : Layout
  inner : Rect
  effective : Rect
  stepX : Nat
  stepY : Nat
  programmeStepX : Nat
  programmeStepY : Nat
  opacity : Nat
deriving DecidableEq, Repr

/-- The window state (3.1). -/
inductive WindowState where
  | off | rising | on | falling
deriving DecidableEq, Repr

/-- A member of a suppression set (R58). -/
inductive Member where
  | span | contact | signer | calibration | portA | portB | portC
deriving DecidableEq, Repr

/-- A suppression set (R58). -/
structure Suppression where
  span : Bool
  contact : Bool
  signer : Bool
  calibration : Bool
  portA : Bool
  portB : Bool
  portC : Bool
deriving DecidableEq, Repr

/-- Whether the member is in the set. -/
def Suppression.has (x : Suppression) : Member → Bool
  | .span => x.span
  | .contact => x.contact
  | .signer => x.signer
  | .calibration => x.calibration
  | .portA => x.portA
  | .portB => x.portB
  | .portC => x.portC

/-- The set with the member put in (`true`) or taken out (`false`). -/
def Suppression.put (x : Suppression) (m : Member) (b : Bool) : Suppression :=
  match m with
  | .span => { x with span := b }
  | .contact => { x with contact := b }
  | .signer => { x with signer := b }
  | .calibration => { x with calibration := b }
  | .portA => { x with portA := b }
  | .portB => { x with portB := b }
  | .portC => { x with portC := b }

/-- The empty suppression set. -/
def Suppression.empty : Suppression := ⟨false, false, false, false, false, false, false⟩

/-- Whether the set has no member. -/
def Suppression.isEmpty (x : Suppression) : Bool :=
  !(x.span || x.contact || x.signer || x.calibration || x.portA || x.portB || x.portC)

/-- The member of a control port (R60). -/
def portMember : PortId → Member
  | .a => .portA
  | .b => .portB
  | .c => .portC

/-- The opacity ramp: start opacity, length and count (3.1). -/
structure Ramp where
  start : Nat
  length : Nat
  count : Nat
deriving DecidableEq, Repr

/-- A move of the working geometry (R69). -/
structure Move where
  source : Layout
  target : Layout
  preset : PresetIx
  length : Nat
  count : Nat
deriving DecidableEq, Repr

/-- A pending layout (R70); `cue` is the handle and origin of the LAYOUT cue it came from. -/
structure PendingLayout where
  preset : PresetIx
  duration : Nat
  cue : Option (Handle × PortId)
deriving DecidableEq, Repr

/-- The mode of an exclusion span (R63). -/
inductive SpanMode where
  | inside | wrap
deriving DecidableEq, Repr

/-- An exclusion span record (R63). -/
structure Span where
  start : Nat
  stop : Nat
  mode : SpanMode
  enabled : Bool
  writer : Option PortId
deriving DecidableEq, Repr

/-- The window record of a channel (3.1). -/
structure Window where
  requested : Bool
  suppression : Suppression
  contactHold : Bool
  state : WindowState
  opacity : Nat
  ramp : Ramp
  geometry : Layout
  lastPreset : PresetIx
  move : Option Move
  pendingLayout : Option PendingLayout
  spans : Bank 4 Span
  /-- The span result: true for MATCH. -/
  spanMatch : Bool
  fade : Nat
deriving DecidableEq, Repr

/-! ## The signer synchroniser (Chapter 6) -/

/-- The lock state (R122). -/
inductive LockState where
  | absent | acquiring | locked | holding | lost | mismatch
deriving DecidableEq, Repr

/-- LOCKED and HOLDING are available (Chapter 6). -/
def LockState.available : LockState → Bool
  | .locked | .holding => true
  | .absent | .acquiring | .lost | .mismatch => false

/-- The loss policy (R129). -/
inductive LossPolicy where
  | withdraw | freeze | backdrop
deriving DecidableEq, Repr

/-- What a slot of the signer ring holds (R124): black from a reset, a complete picture with its
completion order, or contents being written or left by a discarded picture. -/
inductive SlotContents where
  | black
  | picture (p : Picture) (order : Nat)
  | unfinished
deriving DecidableEq, Repr

/-- The signer picture now being received: the interval recorded at its start, if any (R120). -/
structure Incoming where
  interval : Option Nat
deriving DecidableEq, Repr

/-- The signer synchroniser of a channel (Chapter 6). -/
structure Synchroniser where
  lock : LockState
  /-- The SIGNER level (R128). -/
  level : Bool
  ring : Bank 3 SlotContents
  current : RingIx
  newest : RingIx
  write : Option RingIx
  unread : Nat
  lastStart : Option Nat
  history : List Nat
  consecutive : Nat
  holding : Nat
  holdLimit : Nat
  policy : LossPolicy
  repeats : Nat
  drops : Nat
  /-- Completions so far, which number the pictures of the ring in completion order (R124). -/
  completions : Nat
  /-- The picture being received, whether or not it is written (R120, R125). -/
  incoming : Option Incoming
  /-- Whether the link receiver has a stream (R119). -/
  signal : Bool
deriving DecidableEq, Repr

/-! ## Delay line, calibration unit and compositor (Chapters 7, 8 and 5) -/

/-- The frame kind (R139). -/
inductive FrameKind where
  | ordinary | repeated | afterDrop
deriving DecidableEq, Repr

/-- The delay line of a channel (Chapter 7). -/
structure DelayLine where
  actual : Nat
  target : Nat
  requested : Nat
  lag : Nat
  held : Nat
  /-- The delay ring by age; an empty entry is `none` (R137). -/
  ring : List (Option ProgrammeFrame)
  slewInterval : Nat
  slewCount : Nat
  /-- The delayed frame of the output frame in progress (R139). -/
  delayed : ProgrammeFrame
  kind : FrameKind
deriving DecidableEq, Repr

/-- How the last calibration run ended (R159). -/
inductive RunResult where
  | none | ok | timeout | signal | aborted
deriving DecidableEq, Repr

/-- The calibration unit of a channel (Chapter 8). -/
structure Calibration where
  running : Bool
  origin : Option PortId
  base : Nat
  runCount : Nat
  sends : Bank 4 (Option Nat)
  measured : Bank 4 (Option Nat)
  lastResult : RunResult
  lastMeasured : Option Nat
  /-- The booth latency (R165). -/
  latency : Nat
  /-- The sequence of the marker carried by the booth feed in the period in progress (R157). -/
  inserting : Option Nat
deriving DecidableEq, Repr

/-- The inner display (R112). -/
inductive InnerDisplay where
  | picture | backdrop
deriving DecidableEq, Repr

/-- What the outputs of a channel take at a period start and keep for the period: the compositor's four
latches (R98), the programme picture being the period's part of the delayed frame with its ancillary data
(R99, R114), and the part of the input frame that the booth feed carries (R153). -/
structure Latches where
  geometry : PeriodGeometry
  programme : PeriodPart
  booth : PeriodPart
  signer : RingIx
  display : InnerDisplay
deriving DecidableEq, Repr

/-- All that one channel holds. -/
structure ChannelState where
  clock : CueClock
  /-- The step report of the output frame in progress, none in a relock frame (R17). -/
  report : Option StepReport
  scheduler : Scheduler
  window : Window
  presets : Bank 8 Preset
  sync : Synchroniser
  delay : DelayLine
  calibration : Calibration
  latches : Latches
deriving DecidableEq, Repr

/-! ## Contacts and tallies (Chapter 9) -/

/-- The mode of a GPI (9.1). -/
inductive GpiMode where
  | none | fire | suppress | hold
deriving DecidableEq, Repr

/-- The polarity of a GPI (9.1). -/
inductive Polarity where
  | activeClosed | activeOpen
deriving DecidableEq, Repr

/-- A contact input (9.1). Its debounced level follows from the debounced state and the polarity
(R169). -/
structure Gpi where
  mode : GpiMode
  mask : Bank 4 Bool
  polarity : Polarity
  debounce : Nat
  sampled : Contact
  stable : Nat
  debounced : Contact
deriving DecidableEq, Repr

/-- The mode of a tally output (9.4). -/
inductive TallyMode where
  | off | onAir | onAirFlash
deriving DecidableEq, Repr

/-- A tally output (9.4); `phaseOn` is the flash phase and `active` the output. -/
structure Tally where
  channel : Channel
  mode : TallyMode
  onCount : Nat
  offCount : Nat
  phaseOn : Bool
  count : Nat
  active : Bool
deriving DecidableEq, Repr

/-! ## Control ports (Chapter 10) -/

/-- The receiver of a port (R180), with the partial frame it holds, lead first. -/
inductive Receiver where
  | idle
  | receiving (partialFrame : List Byte)
  | discarding
deriving DecidableEq, Repr

/-- A reply frame without its check character, which follows from the rest (R196). -/
structure Reply where
  lead : Byte
  tag : Byte
  code : Byte
  payload : List Byte
deriving DecidableEq, Repr

/-- The six per-channel attention conditions (R187), in order of priority. -/
inductive ChannelCondition where
  | signerChange | suppressionChange | calibrationDone | cueOutcome | delaySettled | clockChange
deriving DecidableEq, Repr

/-- An attention latch: a condition, with its channel when it has one (R187). -/
inductive Latch where
  | replyOverrun
  | referenceChange
  | channel (k : ChannelCondition) (c : Channel)
deriving DecidableEq, Repr

/-- A control port (Chapter 10). The attention line is active while a latch is set (R188). -/
structure Port where
  receiver : Receiver
  /-- Whether the receive line is held at space after a line break, so that no character is taken
  (R182). -/
  broken : Bool
  abandoned : Nat
  /-- The reply queue, oldest first, the reply being transmitted included (R183). -/
  queue : List Reply
  /-- Transmitter state: true for SENDING. -/
  sending : Bool
  /-- The attention mask, bit 0 REPLY_OVERRUN to bit 7 CLOCK_CHANGE (R186, 11.2). -/
  mask : Byte
  /-- The latches set, numbered in order of priority and channel (R187, R188). -/
  latches : Bank 26 Bool
  supervisor : Bool
deriving DecidableEq, Repr

end Sys2Proof.Machine
end

