-- ==== Sys2Proof/Machine/Formats.lean ====
section
/-! DEFINITION. The constants of the station formats (00_scope "Station Formats", R1, R2, R118) and the
conversion between labels and frame numbers (R8 to R11). -/

namespace Sys2Proof.Machine

open Sys2Proof

/-- Raster width W (Chapter 4). -/
def width : Format → Nat
  | .f1 | .f2 | .f3 | .f4 => 1920
  | .f5 | .f6 => 1280

/-- Raster height H (Chapter 4). -/
def height : Format → Nat
  | .f1 | .f2 | .f3 | .f4 => 1080
  | .f5 | .f6 => 720

/-- Interlaced means F1 or F2 (Chapter 4). -/
def interlaced : Format → Bool
  | .f1 | .f2 => true
  | .f3 | .f4 | .f5 | .f6 => false

/-- Whether the timecode rate is 29.97 frame/s (F2, F4, F6). -/
def fractional : Format → Bool
  | .f2 | .f4 | .f6 => true
  | .f1 | .f3 | .f5 => false

/-- The frame interval in measurement counts (R1). -/
def frameInterval (f : Format) : Nat := if fractional f then 900900 else 1080000

/-- The tolerance of a reference frame interval (R2). -/
def referenceTolerance (f : Format) : Nat := if fractional f then 450 else 540

/-- The nominal signer picture interval (R118). -/
def pictureInterval : Format → Nat
  | .f1 => 1080000
  | .f2 => 900900
  | .f3 | .f5 => 540000
  | .f4 | .f6 => 450450

/-- The tolerance of a signer picture interval (R118). -/
def pictureTolerance : Format → Nat
  | .f1 => 540
  | .f2 => 450
  | .f3 | .f5 => 270
  | .f4 | .f6 => 225

/-- Whether `x` differs from `nominal` by no more than `tolerance`. -/
def within (nominal tolerance x : Nat) : Bool :=
  decide (nominal ≤ x + tolerance) && decide (x ≤ nominal + tolerance)

/-- An interval is in rate (R118). -/
def intervalInRate (f : Format) (x : Nat) : Bool :=
  within (pictureInterval f) (pictureTolerance f) x

/-- A full history is in rate (R118). -/
def sumInRate (f : Format) (history : List Nat) : Bool :=
  within (16 * pictureInterval f) (16 * pictureTolerance f) history.sum

/-- The format an FMT strap selects (00_scope): 0–5 F1–F6, 6 and 7 F1. -/
def formatOfStrap (n : BitVec 3) : Format :=
  match n.toNat with
  | 1 => .f2
  | 2 => .f3
  | 3 => .f4
  | 4 => .f5
  | 5 => .f6
  | _ => .f1

/-- Timecode frames counted to a second: 25 or 30 (R9). -/
def framesPerSecond (f : Format) : Nat := if fractional f then 30 else 25

/-- Whether labels are counted in drop-frame mode: a 29.97 frame/s format with drop mode DF (R8). -/
def dropFrame (f : Format) (m : DropMode) : Bool := fractional f && decide (m = .df)

/-- The day length (00_scope). -/
def dayLength (f : Format) (m : DropMode) : Nat :=
  if dropFrame f m then 2589408 else if fractional f then 2592000 else 2160000

/-- The half-day h (R17). -/
def halfDay (f : Format) (m : DropMode) : Nat := dayLength f m / 2

/-- A label that is valid under R8. -/
def labelValid (f : Format) (m : DropMode) (l : Label) : Bool :=
  decide (l.hh ≤ 23) && decide (l.mm ≤ 59) && decide (l.ss ≤ 59)
    && decide (l.ff < framesPerSecond f)
    && !(dropFrame f m && decide (l.ss = 0) && decide (l.ff ≤ 1) && decide (l.mm % 10 ≠ 0))

/-- The frame number of a label at `fps` labels a second, none left out (R9). -/
def plainNumber (fps : Nat) (l : Label) : Nat := (l.hh * 3600 + l.mm * 60 + l.ss) * fps + l.ff

/-- The label of a count at `fps` labels a second, none left out (R9). -/
def plainLabel (fps n : Nat) : Label :=
  { hh := n / fps / 3600, mm := n / fps / 60 % 60, ss := n / fps % 60, ff := n % fps }

/-- The drop-frame number of a label (R10). -/
def dropNumber (l : Label) : Nat :=
  plainNumber 30 l - 2 * ((60 * l.hh + l.mm) - (60 * l.hh + l.mm) / 10)

/-- The counted value of a drop-frame number (R11). -/
def dropCounted (n : Nat) : Nat :=
  if n % 17982 < 2 then n + 18 * (n / 17982)
  else n + 18 * (n / 17982) + 2 * ((n % 17982 - 2) / 1798)

/-- The frame number of a label under the format and drop mode (R9, R10). -/
def frameNumber (f : Format) (m : DropMode) (l : Label) : Nat :=
  if dropFrame f m then dropNumber l else plainNumber (framesPerSecond f) l

/-- The label of a frame number under the format and drop mode (R9, R11). -/
def labelOf (f : Format) (m : DropMode) (n : Nat) : Label :=
  if dropFrame f m then plainLabel 30 (dropCounted n) else plainLabel (framesPerSecond f) n

/-- The label NDF to DF conversion gives a label that drop-frame counting leaves out: frame 02 of the
same second (R34). -/
def countedLabel (f : Format) (l : Label) : Label :=
  if labelValid f .df l then l else { l with ff := 2 }

/-- A frame number converted from one drop mode to the other, keeping its label, in a 29.97 frame/s
format (R34, R67). -/
def convertNumber (f : Format) (old new : DropMode) (n : Nat) : Nat :=
  match old, new with
  | .df, .ndf => frameNumber f .ndf (labelOf f .df n)
  | .ndf, .df => frameNumber f .df (countedLabel f (labelOf f .ndf n))
  | .df, .df | .ndf, .ndf => n

/-- The kind of a step of distance `d` (R17). -/
def stepKind (f : Format) (m : DropMode) (d : Nat) : StepKind :=
  if d = 0 then .repeated
  else if d = 1 then .advance
  else if d < halfDay f m then .forward
  else .backward

end Sys2Proof.Machine
end

