-- ==== Sys2Proof/Machine/Geometry.lean ====
section
/-! DEFINITION. Chapter 4: fitting a preset record to the raster (R83 to R87), the default preset (R90),
and the period geometry (R92 to R97). -/

namespace Sys2Proof.Machine

open Sys2Proof

/-- Rounding of vertical positions and heights: to even when the format is interlaced. -/
def roundLine (f : Format) (n : Nat) : Nat := if interlaced f then evenDown n else n

/-! ## Fitting (R83 to R87) -/

/-- One direction of R83: the size is brought into `least`–`limit`, then the position onto the raster.
The pair is (position, size). -/
def fitAxis (least limit x w : Nat) : Nat × Nat :=
  (min x (limit - min limit (max least w)), min limit (max least w))

/-- The window rectangle's fitting, with least sizes `lw` and `lh` (R83, R87). -/
def fitRect (f : Format) (lw lh : Nat) (r : Rect) : Rect :=
  let hor := fitAxis lw (width f) r.x r.w
  let ver := fitAxis lh (height f) r.y r.h
  { x := evenDown hor.1, y := roundLine f ver.1, w := evenDown hor.2, h := roundLine f ver.2 }

/-- The largest border not above `b` that is even and leaves an inner rectangle of at least 32 × 18
in the window `r` (R84, R94). -/
def fitBorder (r : Rect) (b : Nat) : Nat :=
  evenDown (min b (min ((r.w - 32) / 2) ((r.h - 18) / 2)))

/-- The rectangle inset by border `b` (4.1). -/
def inset (r : Rect) (b : Nat) : Rect :=
  { x := r.x + b, y := r.y + b, w := r.w - 2 * b, h := r.h - 2 * b }

/-- One direction of the second stage of crop fitting (R85): the size is brought into
`least`–`8 × inner`, and the position lowered when it then leaves the raster. -/
def fitCropAxis (limit least inner x w : Nat) : Nat × Nat :=
  let size := min (8 * inner) (max least w)
  (min x (limit - size), size)

/-- The least crop height for an inner height (R85): half of it rounded up, and up to even in an
interlaced format. -/
def leastCropHeight (f : Format) (ih : Nat) : Nat :=
  if interlaced f then evenUp ((ih + 1) / 2) else (ih + 1) / 2

/-- Crop fitting: first to the raster, then to the inner rectangle (R85). -/
def fitCrop (f : Format) (inner crop : Rect) : Rect :=
  let r := fitRect f 0 0 crop
  let hor := fitCropAxis (width f) (evenUp ((inner.w + 1) / 2)) inner.w r.x r.w
  let ver := fitCropAxis (height f) (leastCropHeight f inner.h) inner.h r.y r.h
  { x := hor.1, y := ver.1, w := hor.2, h := ver.2 }

/-- A colour brought into legal range (R86). -/
def fitColour (c : Colour) : Colour :=
  { y := clampTo 64 940 c.y, cb := clampTo 64 960 c.cb, cr := clampTo 64 960 c.cr }

/-- The inner threshold fitted (R86). -/
def fitInner (i : Nat) : Nat := min 1791 (min 1792 i)

/-- The outer threshold fitted, given the inner threshold as fitted (R86). -/
def fitOuter (i o : Nat) : Nat := if min 1792 o ≤ i then i + 1 else min 1792 o

/-- A whole preset record fitted to the raster, in the order window, border, crop, key and colours,
programme rectangle (R82). -/
def fitLayout (f : Format) (l : Layout) : Layout :=
  let window := fitRect f 64 36 l.window
  let border := fitBorder window (min 16 l.border)
  { window := window
    border := border
    borderColour := fitColour l.borderColour
    crop := fitCrop f (inset window border) l.crop
    key := l.key
    kb := clampTo 64 960 l.kb
    kr := clampTo 64 960 l.kr
    inner := fitInner l.inner
    outer := fitOuter (fitInner l.inner) l.outer
    programme := fitRect f (width f / 4) (height f / 4) l.programme
    fill := fitColour l.fill }

/-- Black, as a colour of a layout (R90). -/
def blackColour : Colour := { y := 64, cb := 512, cr := 512 }

/-- The default layout for the raster of a format (R90). -/
def defaultLayout (f : Format) : Layout :=
  let W := width f
  let H := height f
  { window := { x := W - W / 4 - W / 32, y := H - H / 2 - H / 18, w := W / 4, h := H / 2 }
    border := 0
    borderColour := blackColour
    crop := { x := W / 4, y := 0, w := W / 2, h := H }
    key := false
    kb := 288
    kr := 272
    inner := 48
    outer := 192
    programme := { x := 0, y := 0, w := W, h := H }
    fill := blackColour }

/-- The default preset record: the default layout, written by no port (R90). -/
def defaultPreset (f : Format) : Preset := { layout := defaultLayout f, writer := none }

/-! ## The period geometry (R93 to R97) -/

/-- A rectangle interpolated along a move (R93). -/
def interpolateRect (f : Format) (r0 r1 : Rect) (k len : Nat) : Rect :=
  let y := roundLine f (interpolate r0.y r1.y k len)
  let h := roundLine f (interpolate r0.h r1.h k len)
  { x := evenDown (interpolate r0.x r1.x k len)
    y := if y + h > height f then y - (y + h - height f) else y
    w := evenDown (interpolate r0.w r1.w k len)
    h := h }

/-- The layout of the period before its border is lowered and its crop fitted: the working geometry,
or during a move the target's border, colours and key with the three rectangles interpolated (R93,
R94). -/
def movingLayout (f : Format) (geometry : Layout) (move : Option Move) : Layout :=
  match move with
  | none => geometry
  | some m =>
    { m.target with
      window := interpolateRect f m.source.window m.target.window m.count m.length
      crop := interpolateRect f m.source.crop m.target.crop m.count m.length
      programme := interpolateRect f m.source.programme m.target.programme m.count m.length }

/-- A scaling step: source size over output size in 16.16 fixed point, truncated (R95, R97). -/
def scalingStep (source output : Nat) : Nat := source * 65536 / output

/-- The effective programme rectangle at an opacity (R96). -/
def effectiveProgramme (f : Format) (p : Rect) (opacity : Nat) : Rect :=
  { x := evenDown (interpolate 0 p.x opacity 1024)
    y := roundLine f (interpolate 0 p.y opacity 1024)
    w := evenDown (interpolate (width f) p.w opacity 1024)
    h := roundLine f (interpolate (height f) p.h opacity 1024) }

/-- The period geometry, completed from the working geometry, the move and the opacity (R97). -/
def periodGeometry (f : Format) (geometry : Layout) (move : Option Move) (opacity : Nat) :
    PeriodGeometry :=
  let l := movingLayout f geometry move
  let border := fitBorder l.window l.border
  let inner := inset l.window border
  let crop := fitCrop f inner l.crop
  let peff := effectiveProgramme f l.programme opacity
  { layout := { l with border := border, crop := crop }
    inner := inner
    effective := peff
    stepX := scalingStep crop.w inner.w
    stepY := scalingStep crop.h inner.h
    programmeStepX := scalingStep (width f) peff.w
    programmeStepY := scalingStep (height f) peff.h
    opacity := opacity }

end Sys2Proof.Machine
end

