-- ==== Sys2Proof/Machine/Defaults.lean ====
section
/-! DEFINITION. The values the blocks take at power-on reset (R7, R19, R51, R79, R91, R117, R135, R152,
R167, R178, R195). The other resets are written over them in Machine/Resets.lean. -/

namespace Sys2Proof.Machine

open Sys2Proof

/-! ## Black (R4, R138) -/

/-- A black sample pair: Y 64, Cb 512, Cr 512. -/
def blackPair : Pair := { y0 := 64, y1 := 64, cb := 512, cr := 512 }

/-- A black picture. -/
def blackPicture : Picture := { base := blackPair, listed := [] }

/-- No ancillary data, and so no timecode. -/
def noAnc : AncData := { vertical := [], horizontal := [], timecode := none }

/-- A black period without ancillary data. -/
def blackPart : PeriodPart := { picture := blackPicture, anc := noAnc }

/-- A black programme frame without ancillary data (R138). -/
def blackFrame : ProgrammeFrame := { first := blackPart, second := blackPart }

/-! ## Reset values -/

/-- The timing unit after power-on reset (R7). -/
def resetTiming (f : Format) (fastBaud : Bool) : Timing :=
  { format := f
    reference := .free
    goodIntervals := 0
    lastReference := none
    relockCount := 8
    relocking := true
    relockPeriod := true
    lastFrameStart := none
    extending := false
    blanking := false
    frameInProgress := false
    firstPeriodDue := true
    secondPeriod := false
    fastBaud := fastBaud }

/-- A cue clock after power-on reset (R19). -/
def resetClock : CueClock :=
  { value := 0
    status := .invalid
    source := .embedded
    dropMode := .df
    freewheelLimit := 25
    freewheelCount := 0
    lastValid := none
    pendingPreset := none }

/-- A scheduler after a reset that clears its scan value, with late tolerance `t` (R51). -/
def resetScheduler (t : Nat) : Scheduler :=
  { timed := []
    contact := []
    ring := []
    total := 0
    hold := PortSet.empty
    resume := false
    reported := false
    scan := none
    lateTolerance := t }

/-- A span record after any reset (R79). -/
def resetSpan : Span := { start := 0, stop := 0, mode := .inside, enabled := false, writer := none }

/-- A window controller after a reset, with preset 0 and suppression fade as given; the suppression
set empty and contact hold clear (R79). -/
def resetWindow (preset0 : Preset) (fade : Nat) : Window :=
  { requested := false
    suppression := Suppression.empty
    contactHold := false
    state := .off
    opacity := 0
    ramp := { start := 0, length := 0, count := 0 }
    geometry := preset0.layout
    lastPreset := 0
    move := none
    pendingLayout := none
    spans := Bank.fill 4 resetSpan
    spanMatch := false
    fade := fade }

/-- A preset store at the defaults (R91). -/
def defaultPresets (f : Format) : Bank 8 Preset := Bank.fill 8 (defaultPreset f)

/-- A synchroniser after power-on reset, DEVICE_RESET or FORMAT_SET, with hold limit and loss policy
as given (R135); `signal` says whether the link receiver has a stream. -/
def resetSync (holdLimit : Nat) (policy : LossPolicy) (signal : Bool) : Synchroniser :=
  { lock := .absent
    level := false
    ring := Bank.fill 3 .black
    current := 0
    newest := 0
    write := none
    unread := 0
    lastStart := none
    history := []
    consecutive := 0
    holding := 0
    holdLimit := holdLimit
    policy := policy
    repeats := 0
    drops := 0
    completions := 0
    incoming := none
    signal := signal }

/-- A delay line after power-on reset, DEVICE_RESET or FORMAT_SET, with slew interval as given
(R152). -/
def resetDelay (slewInterval : Nat) : DelayLine :=
  { actual := 4
    target := 4
    requested := 4
    lag := 0
    held := 5
    ring := List.replicate 5 none
    slewInterval := slewInterval
    slewCount := 0
    delayed := blackFrame
    kind := .ordinary }

/-- A calibration unit after power-on reset or DEVICE_RESET (R167). -/
def resetCalibration : Calibration :=
  { running := false
    origin := none
    base := 0
    runCount := 0
    sends := Bank.fill 4 none
    measured := Bank.fill 4 none
    lastResult := .none
    lastMeasured := none
    latency := 8
    inserting := none }

/-- The latches as the first period start after power-on reset takes them (R117), the booth feed black
(R167). -/
def resetLatches (f : Format) : Latches :=
  { geometry := periodGeometry f (defaultLayout f) none 0
    programme := blackPart
    booth := blackPart
    signer := 0
    display := .picture }

/-- A channel after power-on reset. -/
def resetChannel (f : Format) : ChannelState :=
  { clock := resetClock
    report := none
    scheduler := resetScheduler 10
    window := resetWindow (defaultPreset f) 12
    presets := defaultPresets f
    sync := resetSync 10 .withdraw false
    delay := resetDelay 25
    calibration := resetCalibration
    latches := resetLatches f }

/-- Free slots of the frame slot pool after a reset of all channels (R152). -/
def resetFree : Nat := 76

/-- A contact input after power-on reset or DEVICE_RESET (R178). -/
def resetGpi : Gpi :=
  { mode := .none
    mask := Bank.fill 4 false
    polarity := .activeClosed
    debounce := 2
    sampled := .opened
    stable := 16
    debounced := .opened }

/-- A tally output after power-on reset or DEVICE_RESET (R178). -/
def resetTally : Tally :=
  { channel := 0
    mode := .off
    onCount := 12
    offCount := 12
    phaseOn := true
    count := 0
    active := false }

/-- A control port after power-on reset (R195). -/
def resetPort (supervisor : Bool) : Port :=
  { receiver := .idle
    broken := false
    abandoned := 0
    queue := []
    sending := false
    mask := 0
    latches := Bank.fill 26 false
    supervisor := supervisor }

/-- The ports after power-on reset, the SUPV strap naming the supervisor (R184, 11.6). -/
def resetPorts (supv : BitVec 2) : Trio Port :=
  { a := resetPort (supv == 1), b := resetPort (supv == 2), c := resetPort (supv == 3) }

end Sys2Proof.Machine
end

