-- ==== Sys2Proof/Machine/State.lean ====
section
/-! DEFINITION. The state of the FN-4: everything the manual gives the device, and the queue of the
commands that wait for it. -/

namespace Sys2Proof.Machine

open Sys2Proof

/-- The state of the device. -/
structure State where
  /-- The timing unit (Chapter 1). -/
  timing : Timing
  /-- The cue pool, shared by the four channels (R20). -/
  cues : Bank 256 CueSlot
  /-- The four channels. -/
  channels : Bank 4 ChannelState
  /-- The free count of the frame slot pool (R136). -/
  free : Nat
  /-- The eight contact inputs (Chapter 9). -/
  gpis : Bank 8 Gpi
  /-- The four tally outputs (Chapter 9). -/
  tallies : Bank 4 Tally
  /-- The three control ports (Chapter 10). -/
  ports : Trio Port
  /-- The commands that wait, first in, first out (the model's own: notes/assumptions/1.md). -/
  pending : List Instr
deriving DecidableEq, Repr

/-- Why the device stops. The manual describes no fault that stops it: no command ends in one, so the
type has no constructor. -/
inductive Fault where
deriving DecidableEq, Repr

/-- Why a command has no meaning here. -/
inductive Refusal where
  /-- A row of the command table without a meaning in the model: raised by an arm of `exec` that has
  none (there is none such now). Safe: the run stops. -/
  | notModelled (mnemonic : String)
deriving DecidableEq, Repr

/-- The device as power-on reset leaves it under the straps given, with no command waiting (R7, R19,
R51, R79, R91, R117, R135, R152, R167, R178, R195). -/
def State.powerOn (straps : Straps) : State :=
  { timing := resetTiming (formatOfStrap straps.fmt) (straps.baud == 1)
    cues := Bank.fill 256 { generation := 0, cue := none }
    channels := Bank.fill 4 (resetChannel (formatOfStrap straps.fmt))
    free := resetFree
    gpis := Bank.fill 8 resetGpi
    tallies := Bank.fill 4 resetTally
    ports := resetPorts straps.supv
    pending := [] }

/-- The device right after power-on reset with every strap at 0: F1, 38,400 baud, no supervisor
(notes/assumptions/5.md). -/
def State.reset : State := State.powerOn { supv := 0, baud := 0, fmt := 0 }

end Sys2Proof.Machine
end

