-- ==== Sys2Proof/Machine/Ops.lean ====
section
/-! DEFINITION. The named operations over the parts of State: every read and write of a channel, a port, a
cue slot, a contact input or a tally goes through these. -/

namespace Sys2Proof.Machine

open Sys2Proof

/-- What a command answers. -/
abbrev Answered := Host.Outcome State Fault Refusal

/-! ## The parts of a channel -/

/-- The channel with its cue clock replaced. -/
def ChannelState.setClock (x : ChannelState) (v : CueClock) : ChannelState := { x with clock := v }

/-- The channel with its step report replaced. -/
def ChannelState.setReport (x : ChannelState) (v : Option StepReport) : ChannelState := { x with report := v }

/-- The channel with its scheduler replaced. -/
def ChannelState.setScheduler (x : ChannelState) (v : Scheduler) : ChannelState := { x with scheduler := v }

/-- The channel with its window record replaced. -/
def ChannelState.setWindow (x : ChannelState) (v : Window) : ChannelState := { x with window := v }

/-- The channel with its preset store replaced. -/
def ChannelState.setPresets (x : ChannelState) (v : Bank 8 Preset) : ChannelState := { x with presets := v }

/-- The channel with its synchroniser replaced. -/
def ChannelState.setSync (x : ChannelState) (v : Synchroniser) : ChannelState := { x with sync := v }

/-- The channel with its delay line replaced. -/
def ChannelState.setDelay (x : ChannelState) (v : DelayLine) : ChannelState := { x with delay := v }

/-- The channel with its calibration unit replaced. -/
def ChannelState.setCalibration (x : ChannelState) (v : Calibration) : ChannelState := { x with calibration := v }

/-- The channel with its compositor latches replaced. -/
def ChannelState.setLatches (x : ChannelState) (v : Latches) : ChannelState := { x with latches := v }

/-! ## Channels and ports -/

/-- The state of a channel. -/
def State.chan (s : State) (c : Channel) : ChannelState := s.channels.pick c

/-- The state with a channel replaced. -/
def State.setChan (s : State) (c : Channel) (x : ChannelState) : State :=
  { s with channels := s.channels.put c x }

/-- A change of one channel alone. -/
def State.modChan (s : State) (c : Channel) (f : ChannelState → ChannelState) : State :=
  s.setChan c (f (s.chan c))

/-- The state of a control port. -/
def State.port (s : State) (p : PortId) : Port := s.ports.pick p

/-- The state with a control port replaced. -/
def State.setPort (s : State) (p : PortId) (x : Port) : State :=
  { s with ports := s.ports.put p x }

/-- A change of one port alone. -/
def State.modPort (s : State) (p : PortId) (f : Port → Port) : State :=
  s.setPort p (f (s.port p))

/-- The state with the timing unit replaced. -/
def State.setTiming (s : State) (t : Timing) : State := { s with timing := t }

/-- The state with the pool's free count replaced. -/
def State.setFree (s : State) (n : Nat) : State := { s with free := n }

/-- The state with a slot of the cue pool replaced. -/
def State.setSlot (s : State) (i : SlotIx) (x : CueSlot) : State :=
  { s with cues := s.cues.put i x }

/-- The state of a contact input. -/
def State.gpi (s : State) (g : GpiIx) : Gpi := s.gpis.pick g

/-- The state with a contact input replaced. -/
def State.setGpi (s : State) (g : GpiIx) (x : Gpi) : State := { s with gpis := s.gpis.put g x }

/-- The state of a tally output. -/
def State.tally (s : State) (t : TallyIx) : Tally := s.tallies.pick t

/-- The state with a tally output replaced. -/
def State.setTally (s : State) (t : TallyIx) (x : Tally) : State :=
  { s with tallies := s.tallies.put t x }

/-- The state with other commands waiting. -/
def State.setPending (s : State) (q : List Instr) : State := { s with pending := q }

/-- The station format in force. -/
def State.format (s : State) : Format := s.timing.format

/-- The drop mode of a channel. -/
def State.dropMode (s : State) (c : Channel) : DropMode := (s.chan c).clock.dropMode

/-- The day length that holds for a channel. -/
def State.day (s : State) (c : Channel) : Nat := dayLength s.format (s.dropMode c)

/-- The label of a frame number on a channel, under its drop mode as it stands. -/
def State.label (s : State) (c : Channel) (n : Nat) : Label := labelOf s.format (s.dropMode c) n

/-- The clock label of the moment, absent while the clock is INVALID (1.3, R47). -/
def State.clockLabel (s : State) (c : Channel) : Option Label :=
  if (s.chan c).clock.status = .invalid then none else some (s.label c (s.chan c).clock.value)

/-- One thing done to the four channels in the order CH0 to CH3. -/
def State.eachChannel (s : State) (f : Channel → State → State) : State :=
  Channel.all.foldl (fun t c => f c t) s

/-- One thing done to the three ports in order. -/
def State.eachPort (s : State) (f : PortId → State → State) : State :=
  PortId.all.foldl (fun t p => f p t) s

end Sys2Proof.Machine
end

