-- ==== Sys2Proof/Machine/Flags.lean ====
section
/-! DEFINITION. Attention: the latches, the mask, posting and the attention line (R186 to R188). -/

namespace Sys2Proof.Machine

open Sys2Proof

/-- The place of a per-channel condition among the eight, from 0 (R187: priority less 1). -/
def ChannelCondition.bit : ChannelCondition → Fin 8
  | .signerChange => 2
  | .suppressionChange => 3
  | .calibrationDone => 4
  | .cueOutcome => 5
  | .delaySettled => 6
  | .clockChange => 7

/-- The bit of the attention mask that enables the condition of a latch (11.2). -/
def Latch.bit : Latch → Fin 8
  | .replyOverrun => 0
  | .referenceChange => 1
  | .channel k _ => k.bit

/-- The per-channel conditions in order of priority. -/
def ChannelCondition.all : List ChannelCondition :=
  [.signerChange, .suppressionChange, .calibrationDone, .cueOutcome, .delaySettled, .clockChange]

/-- The 26 latches in the order in which ATTENTION_READ gives them up (R188). -/
def Latch.all : List Latch :=
  .replyOverrun :: .referenceChange ::
    ChannelCondition.all.flatMap fun k => Channel.all.map fun c => .channel k c

/-- The number of a latch in that order. -/
def Latch.index : Latch → Fin 26
  | .replyOverrun => 0
  | .referenceChange => 1
  | .channel .signerChange c => ⟨2 + c, by omega⟩
  | .channel .suppressionChange c => ⟨6 + c, by omega⟩
  | .channel .calibrationDone c => ⟨10 + c, by omega⟩
  | .channel .cueOutcome c => ⟨14 + c, by omega⟩
  | .channel .delaySettled c => ⟨18 + c, by omega⟩
  | .channel .clockChange c => ⟨22 + c, by omega⟩

/-- Whether the port holds the latch. -/
def Port.holds (x : Port) (l : Latch) : Bool := x.latches.pick l.index

/-- The port with the latch set or cleared. -/
def Port.latch (x : Port) (l : Latch) (b : Bool) : Port :=
  { x with latches := x.latches.put l.index b }

/-- Whether the port's mask enables the latch's condition. -/
def Port.enables (x : Port) (l : Latch) : Bool := x.mask.getLsbD l.bit

/-- How many latches the port holds. -/
def Port.latchCount (x : Port) : Nat := (Latch.all.filter x.holds).length

/-- The attention line of a port: active while it holds a latch (R188). -/
def Port.attention (x : Port) : Bool := Latch.all.any x.holds

/-- A condition posted to one port, which latches it when its mask enables it (R187). -/
def State.post (s : State) (p : PortId) (l : Latch) : State :=
  s.modPort p fun x => if x.enables l then x.latch l true else x

/-- A condition posted to all three ports (R187). -/
def State.postAll (s : State) (l : Latch) : State := s.eachPort fun p t => t.post p l

/-- The latches of a channel removed in every port (R192 step 1). -/
def State.clearLatches (s : State) (c : Channel) : State :=
  s.eachPort fun p t => t.modPort p fun x =>
    ChannelCondition.all.foldl (fun y k => y.latch (.channel k c) false) x

end Sys2Proof.Machine
end

