-- ==== Sys2Proof/Machine/Operands.lean ====
section
/-! DEFINITION. How wire values of a request are read (R197), and how values are laid out in a reply (11.2
to 11.4). A reader answers `none` for a value that the request does not define; the request is then refused
BAD_PARAM. -/

namespace Sys2Proof.Machine

open Sys2Proof

/-! ## Reading (R197) -/

/-- A channel byte: 0–3. -/
def readChannel (b : Byte) : Option Channel :=
  if h : b.toNat < 4 then some ⟨b.toNat, h⟩ else none

/-- A GPI number: 0–7. -/
def readGpi (b : Byte) : Option GpiIx :=
  if h : b.toNat < 8 then some ⟨b.toNat, h⟩ else none

/-- A preset number: 0–7. -/
def readPreset (b : Byte) : Option PresetIx :=
  if h : b.toNat < 8 then some ⟨b.toNat, h⟩ else none

/-- A span index: 0–3. -/
def readSpanIndex (b : Byte) : Option SpanIx :=
  if h : b.toNat < 4 then some ⟨b.toNat, h⟩ else none

/-- A tally number: 0–3. -/
def readTally (b : Byte) : Option TallyIx :=
  if h : b.toNat < 4 then some ⟨b.toNat, h⟩ else none

/-- A channel mask: bit 0 CH0 to bit 3 CH3, and none of bits 4–7 set. -/
def readMask (b : Byte) : Option (Bank 4 Bool) :=
  if b.toNat < 16 then some #v[b.getLsbD 0, b.getLsbD 1, b.getLsbD 2, b.getLsbD 3] else none

/-- Whether a channel mask is empty. -/
def maskEmpty (m : Bank 4 Bool) : Bool := Channel.all.all fun c => !m.pick c

/-- A presence flag, an enable or a key enable: 0 or 1. -/
def readFlag (b : Byte) : Option Bool :=
  match b.toNat with
  | 0 => some false
  | 1 => some true
  | _ => none

/-- The numbers of a label field. -/
def labelOfBytes (l : LabelBytes) : Label :=
  { hh := l.hh.toNat, mm := l.mm.toNat, ss := l.ss.toNat, ff := l.ff.toNat }

/-- A label field read for a channel: the frame number it names, when R8 takes it. -/
def State.readLabel (s : State) (c : Channel) (l : LabelBytes) : Option Nat :=
  if labelValid s.format (s.dropMode c) (labelOfBytes l)
  then some (frameNumber s.format (s.dropMode c) (labelOfBytes l)) else none

/-- An action byte. -/
def readAction (b : Byte) : Option Action :=
  match b.toNat with
  | 0 => some .windowIn
  | 1 => some .windowOut
  | 2 => some .layout
  | 3 => some .lag
  | _ => none

/-- A span mode byte. -/
def readSpanMode (b : Byte) : Option SpanMode :=
  match b.toNat with
  | 0 => some .inside
  | 1 => some .wrap
  | _ => none

/-- A source byte. -/
def readSource (b : Byte) : Option Source :=
  match b.toNat with
  | 0 => some .embedded
  | 1 => some .internal
  | _ => none

/-- A drop mode byte. -/
def readDropMode (b : Byte) : Option DropMode :=
  match b.toNat with
  | 0 => some .df
  | 1 => some .ndf
  | _ => none

/-- A loss policy byte. -/
def readPolicy (b : Byte) : Option LossPolicy :=
  match b.toNat with
  | 0 => some .withdraw
  | 1 => some .freeze
  | 2 => some .backdrop
  | _ => none

/-- A GPI mode byte. -/
def readGpiMode (b : Byte) : Option GpiMode :=
  match b.toNat with
  | 0 => some .none
  | 1 => some .fire
  | 2 => some .suppress
  | 3 => some .hold
  | _ => Option.none

/-- A polarity byte. -/
def readPolarity (b : Byte) : Option Polarity :=
  match b.toNat with
  | 0 => some .activeClosed
  | 1 => some .activeOpen
  | _ => none

/-- A tally mode byte. -/
def readTallyMode (b : Byte) : Option TallyMode :=
  match b.toNat with
  | 0 => some .off
  | 1 => some .onAir
  | 2 => some .onAirFlash
  | _ => none

/-- A format code: 0–5 for F1–F6 (R5). -/
def readFormat (b : Byte) : Option Format :=
  match b.toNat with
  | 0 => some .f1
  | 1 => some .f2
  | 2 => some .f3
  | 3 => some .f4
  | 4 => some .f5
  | 5 => some .f6
  | _ => none

/-- A rectangle field. -/
def readRect (r : RectBytes) : Rect :=
  { x := r.x.toNat, y := r.y.toNat, w := r.w.toNat, h := r.h.toNat }

/-- A colour field, as unsigned values. -/
def readColour (c : ColourBytes) : Colour :=
  { y := c.y.toNat, cb := c.cb.toNat, cr := c.cr.toNat }

/-- The preset record of PRESET_WRITE, the key enable read as ON or OFF (R82). -/
def readLayout (f : PresetFields) : Option Layout :=
  (readFlag f.key).map fun key =>
    { window := readRect f.window
      border := f.border.toNat
      borderColour := readColour f.borderColour
      crop := readRect f.crop
      key := key
      kb := f.kb.toNat
      kr := f.kr.toNat
      inner := f.inner.toNat
      outer := f.outer.toNat
      programme := readRect f.programme
      fill := readColour f.fill }

/-! ## Laying out -/

/-- A channel byte. -/
def channelByte (c : Channel) : Byte := byte1 c

/-- A port byte. -/
def portByte : PortId → Byte
  | .a => 0
  | .b => 1
  | .c => 2

/-- A port byte, FFh when absent. -/
def portByte? : Option PortId → Byte
  | none => 0xFF
  | some p => portByte p

/-- An optional small value, FFh when absent. -/
def smallByte? : Option Nat → Byte
  | none => 0xFF
  | some n => byte1 n

/-- An optional preset, FFh when absent. -/
def presetByte? (p : Option PresetIx) : Byte := smallByte? (p.map fun i => i.val)

/-- A label field. -/
def labelBytes (l : Label) : List Byte := [byte1 l.hh, byte1 l.mm, byte1 l.ss, byte1 l.ff]

/-- A label field, four FFh when absent. -/
def labelBytes? : Option Label → List Byte
  | none => [0xFF, 0xFF, 0xFF, 0xFF]
  | some l => labelBytes l

/-- A handle field. -/
def handleBytes (h : Handle) : List Byte := [byte1 h.slot, byte1 h.generation]

/-- A handle field, slot 0 and generation 0 when there is none. -/
def handleBytes? : Option Handle → List Byte
  | none => [0, 0]
  | some h => handleBytes h

/-- A channel mask byte. -/
def maskByte (m : Bank 4 Bool) : Byte :=
  byte1 ((if m.pick 0 then 1 else 0) + (if m.pick 1 then 2 else 0) + (if m.pick 2 then 4 else 0)
    + (if m.pick 3 then 8 else 0))

/-- A hold set byte: bit 0 A, 1 B, 2 C. -/
def holdByte (h : PortSet) : Byte :=
  byte1 ((if h.a then 1 else 0) + (if h.b then 2 else 0) + (if h.c then 4 else 0))

/-- A suppression set byte: bit 0 SPAN to bit 6 PORT_C. -/
def suppressionByte (x : Suppression) : Byte :=
  byte1 ((if x.span then 1 else 0) + (if x.contact then 2 else 0) + (if x.signer then 4 else 0)
    + (if x.calibration then 8 else 0) + (if x.portA then 16 else 0) + (if x.portB then 32 else 0)
    + (if x.portC then 64 else 0))

/-- A rectangle field. -/
def rectBytes (r : Rect) : List Byte := bytes2 r.x ++ bytes2 r.y ++ bytes2 r.w ++ bytes2 r.h

/-- A colour field. -/
def colourBytes (c : Colour) : List Byte := bytes2 c.y ++ bytes2 c.cb ++ bytes2 c.cr

/-- A preset record of 46 bytes (11.4). -/
def layoutBytes (l : Layout) : List Byte :=
  rectBytes l.window ++ [byte1 l.border] ++ colourBytes l.borderColour ++ rectBytes l.crop
    ++ [flagByte l.key] ++ bytes2 l.kb ++ bytes2 l.kr ++ bytes2 l.inner ++ bytes2 l.outer
    ++ rectBytes l.programme ++ colourBytes l.fill

/-- A stored record with its last writer: 47 bytes (11.3). -/
def presetBytes (p : Preset) : List Byte := layoutBytes p.layout ++ [portByte? p.writer]

/-- A period geometry with the last preset: 81 bytes (11.4). -/
def geometryBytes (g : PeriodGeometry) (last : PresetIx) : List Byte :=
  layoutBytes g.layout ++ [byte1 last] ++ rectBytes g.inner ++ rectBytes g.effective
    ++ bytes4 g.stepX ++ bytes4 g.stepY ++ bytes4 g.programmeStepX ++ bytes4 g.programmeStepY
    ++ bytes2 g.opacity

/-- An action byte. -/
def actionByte : Action → Byte
  | .windowIn => 0
  | .windowOut => 1
  | .layout => 2
  | .lag => 3

/-- An outcome byte. -/
def resultByte : Result → Byte
  | .fired => 0
  | .firedLate => 1
  | .skipped => 2
  | .missed => 3
  | .cancelled => 4
  | .superseded => 5

/-- A window state byte. -/
def windowStateByte : WindowState → Byte
  | .off => 0
  | .rising => 1
  | .on => 2
  | .falling => 3

/-- A clock state byte. -/
def clockStatusByte : ClockStatus → Byte
  | .valid => 0
  | .freewheel => 1
  | .invalid => 2

/-- A lock state byte. -/
def lockByte : LockState → Byte
  | .absent => 0
  | .acquiring => 1
  | .locked => 2
  | .holding => 3
  | .lost => 4
  | .mismatch => 5

/-- A calibration result byte. -/
def runResultByte : RunResult → Byte
  | .none => 0
  | .ok => 1
  | .timeout => 2
  | .signal => 3
  | .aborted => 4

/-- A span mode byte. -/
def spanModeByte : SpanMode → Byte
  | .inside => 0
  | .wrap => 1

/-- A source byte. -/
def sourceByte : Source → Byte
  | .embedded => 0
  | .internal => 1

/-- A drop mode byte. -/
def dropModeByte : DropMode → Byte
  | .df => 0
  | .ndf => 1

/-- A loss policy byte. -/
def policyByte : LossPolicy → Byte
  | .withdraw => 0
  | .freeze => 1
  | .backdrop => 2

/-- A GPI mode byte. -/
def gpiModeByte : GpiMode → Byte
  | .none => 0
  | .fire => 1
  | .suppress => 2
  | .hold => 3

/-- A polarity byte. -/
def polarityByte : Polarity → Byte
  | .activeClosed => 0
  | .activeOpen => 1

/-- A tally mode byte. -/
def tallyModeByte : TallyMode → Byte
  | .off => 0
  | .onAir => 1
  | .onAirFlash => 2

/-- A format code. -/
def formatByte : Format → Byte
  | .f1 => 0
  | .f2 => 1
  | .f3 => 2
  | .f4 => 3
  | .f5 => 4
  | .f6 => 5

/-- A reference state byte. -/
def referenceByte : ReferenceState → Byte
  | .locked => 0
  | .free => 1

end Sys2Proof.Machine
end

