-- ==== Sys2Proof/Machine/Replies.lean ====
section
/-! DEFINITION. Replies, the reply queue and the checks the dispatcher makes of a request before its owner
takes it (R183 to R185, R196). -/

namespace Sys2Proof.Machine

open Sys2Proof

/-- The completion codes (R185). -/
inductive Completion where
  | ok | okClamped | badCheck | badLength | unknownRequest | badParam | noCue | notOwner
  | notSupervisor | poolFull | busy | notReady
deriving DecidableEq, Repr

/-- The value of a completion code (R185). -/
def Completion.byte : Completion → Byte
  | .ok => 0x00
  | .okClamped => 0x01
  | .badCheck => 0x02
  | .badLength => 0x03
  | .unknownRequest => 0x04
  | .badParam => 0x05
  | .noCue => 0x06
  | .notOwner => 0x07
  | .notSupervisor => 0x08
  | .poolFull => 0x09
  | .busy => 0x0A
  | .notReady => 0x0B

/-- What an owner answers a request: the completion code and the reply payload. -/
structure Answer where
  code : Completion
  payload : List Byte
deriving DecidableEq, Repr

/-- A refusal carries no payload (R196). -/
def refuse (code : Completion) : Answer := { code := code, payload := [] }

/-- OK, or OK_CLAMPED when a value was brought into range. -/
def taken (clamped : Bool) (payload : List Byte) : Answer :=
  { code := if clamped then .okClamped else .ok, payload := payload }

/-- The values of a reply frame's characters, the check last (R196). -/
def Reply.values (r : Reply) : List Byte :=
  let body := r.lead :: r.tag :: r.code :: byte1 r.payload.length :: r.payload
  body ++ [0 - body.sum]

/-- A character as a port sends it, with its ninth data bit and a right stop bit (R179). -/
def sentCharacter (lead : Bool) (v : Byte) : Character :=
  { stopError := false, lead := lead, value := v }

/-- The characters of a reply frame as they are sent: the ninth data bit is 1 on the lead and 0 on every
other (R179, R196). -/
def Reply.characters (r : Reply) : List Character :=
  match r.values with
  | [] => []
  | lead :: rest => sentCharacter true lead :: rest.map (sentCharacter false)

/-- A reply joins the tail of the port's queue, unless its tag is FFh; when the queue already holds 4,
it does not, and REPLY_OVERRUN is posted (R181, R183). -/
def State.queueReply (s : State) (p : PortId) (r : Reply) : State :=
  if r.tag = 0xFF then s
  else if 4 ≤ (s.port p).queue.length then s.post p .replyOverrun
  else s.modPort p fun x => { x with queue := x.queue ++ [r], sending := true }

/-- The reply frame that answers a request: its lead is the request code plus 80h modulo 256
(R196). -/
def replyTo (code tag : Byte) (a : Answer) : Reply :=
  { lead := code + 0x80, tag := tag, code := a.code.byte, payload := a.payload }

/-- A request taken: its owner acts, and the reply is queued (R185). -/
def State.take (s : State) (p : PortId) (tag code : Byte) (owner : State → State × Answer) :
    State :=
  (owner s).1.queueReply p (replyTo code tag (owner s).2)

/-- The dispatcher's check of the queue, and then the owner (R185 check 4): a request whose reply
would find the queue full is not executed. -/
def State.serve (s : State) (p : PortId) (tag code : Byte) (owner : State → State × Answer) :
    State :=
  if tag ≠ 0xFF ∧ 4 ≤ (s.port p).queue.length then s.post p .replyOverrun
  else s.take p tag code owner

/-- A supervisor request (R184, R185 check 3): refused NOT_SUPERVISOR on a port whose flag is clear,
before its owner sees it. -/
def State.serveSupervisor (s : State) (p : PortId) (tag code : Byte)
    (owner : State → State × Answer) : State :=
  if (s.port p).supervisor then s.serve p tag code owner
  else s.queueReply p (replyTo code tag (refuse .notSupervisor))

end Sys2Proof.Machine
end

