-- ==== Sys2Proof/Machine/Outcomes.lean ====
section
/-! DEFINITION. The outcome ring and OUTCOME_READ (R47 to R50). -/

namespace Sys2Proof.Machine

open Sys2Proof

/-- An outcome ring with a record added: the oldest leaves a ring that already holds 8 (R47). -/
def ringAdd (ring : List OutcomeRecord) (r : OutcomeRecord) : List OutcomeRecord :=
  (ring ++ [r]).drop (ring.length - 7)

/-- A record added to a channel's ring: the total counts it, and CUE_OUTCOME is posted to the record's
origin port and to no other (R47, R50). -/
def State.addOutcome (s : State) (c : Channel) (h : Handle) (a : Action) (origin : PortId)
    (r : Result) : State :=
  let record : OutcomeRecord :=
    { handle := h, action := a, origin := origin, result := r, label := s.clockLabel c }
  (s.modChan c fun x => x.setScheduler
    { x.scheduler with
      ring := ringAdd x.scheduler.ring record
      total := (x.scheduler.total + 1) % 65536 }).post origin (.channel .cueOutcome c)

/-- An outcome record of 9 bytes (11.4). -/
def outcomeBytes (r : OutcomeRecord) : List Byte :=
  handleBytes r.handle ++ [actionByte r.action, portByte r.origin, resultByte r.result]
    ++ labelBytes? r.label

/-- OUTCOME_READ (R49). -/
def outcomeRead (ch : Byte) (s : State) : State × Answer :=
  match readChannel ch with
  | none => (s, refuse .badParam)
  | some c =>
    let k := (s.chan c).scheduler
    (s, taken false (bytes2 k.total ++ [byte1 k.ring.length] ++ k.ring.flatMap outcomeBytes))

/-- OUTCOME_READ as a command. -/
def execOutcomeRead (p : PortId) (tag ch : Byte) (s : State) : Answered :=
  .next (s.serve p tag 0x17 (outcomeRead ch))

end Sys2Proof.Machine
end

