-- ==== Sys2Proof/Machine/Window.lean ====
section
/-! DEFINITION. The window controller (Chapter 3): the window state machine, the suppression set, layouts,
moves and the pending layout, the exclusion spans, the window commands and the period hand-off. -/

namespace Sys2Proof.Machine

open Sys2Proof

/-! ## The window state machine (R52 to R56) -/

/-- Effective on: requested state ON and suppression set empty (R52). -/
def Window.effectiveOn (w : Window) : Bool := w.requested && w.suppression.isEmpty

/-- A move in progress ended at its target (R56, R69). -/
def Window.endMove (w : Window) : Window :=
  match w.move with
  | none => w
  | some m => { w with geometry := m.target, move := none }

/-- A cut to a preset as stored (R68 case 2). -/
def Window.cut (w : Window) (presets : Bank 8 Preset) (p : PresetIx) : Window :=
  { w with geometry := (presets.pick p).layout, lastPreset := p }

/-- A waiting pending layout applied as a cut (R56). -/
def Window.applyPending (w : Window) (presets : Bank 8 Preset) : Window :=
  match w.pendingLayout with
  | none => w
  | some q => { (w.cut presets q.preset) with pendingLayout := none }

/-- Entry to OFF: opacity 0, the move ended at its target, the pending layout applied (R56). -/
def Window.enterOff (w : Window) (presets : Bank 8 Preset) : Window :=
  ({ w with state := .off, opacity := 0 }).endMove.applyPending presets

/-- The window state machine at a change of effective on, `d` the cause's duration (R53). -/
def Window.react (w : Window) (presets : Bank 8 Preset) (d : Nat) : Window :=
  match w.state, w.effectiveOn with
  | .off, true =>
    if 0 < d then
      { w with state := .rising, opacity := 0, ramp := { start := 0, length := d, count := 0 } }
    else { w with state := .on, opacity := 1024 }
  | .rising, false | .on, false =>
    if 0 < d ∧ 0 < w.opacity then
      { w with state := .falling, ramp := { start := w.opacity, length := d, count := 0 } }
    else w.enterOff presets
  | .falling, true =>
    if 0 < d ∧ w.opacity < 1024 then
      { w with state := .rising, ramp := { start := w.opacity, length := d, count := 0 } }
    else { w with state := .on, opacity := 1024 }
  | .off, false | .rising, true | .on, true | .falling, false => w

/-- The window after a change of its requested state or suppression set: the state machine acts when
effective on is no longer what it was (R52). -/
def Window.follow (before after : Window) (presets : Bank 8 Preset) (d : Nat) : Window :=
  if before.effectiveOn = after.effectiveOn then after else after.react presets d

/-! ## The suppression set (R58, R62) -/

/-- A member put into or taken out of a channel's suppression set, with the suppression fade as the
cause's duration; a change of the set posts SUPPRESSION_CHANGE (R58, R62). -/
def State.setMember (s : State) (c : Channel) (m : Member) (b : Bool) : State :=
  if (s.chan c).window.suppression.has m = b then s
  else
    (s.modChan c fun x => x.setWindow
      (x.window.follow { x.window with suppression := x.window.suppression.put m b }
        x.presets x.window.fade)).postAll (.channel .suppressionChange c)

/-! ## Layouts and moves (R68 to R70) -/

/-- How a layout was taken (R75). -/
inductive LayoutAnswer where
  | cut | move | pending
deriving DecidableEq, Repr

/-- A move begun from the working geometry (R69). -/
def Window.beginMove (w : Window) (presets : Bank 8 Preset) (p : PresetIx) (d : Nat) : Window :=
  { w with
    move := some { source := w.geometry, target := (presets.pick p).layout, preset := p,
                   length := d, count := 0 }
    lastPreset := p }

/-- A layout taken with no move in progress and none pending: a cut or a move (R68 cases 2 and 3). -/
def Window.takeNow (w : Window) (presets : Bank 8 Preset) (p : PresetIx) (d : Nat) : Window :=
  if w.opacity = 0 ∨ d = 0 then w.cut presets p else w.beginMove presets p d

/-- How a layout taken at this moment is handled (R68). -/
def Window.layoutAnswer (w : Window) (d : Nat) : LayoutAnswer :=
  if w.move.isSome ∨ w.pendingLayout.isSome then .pending
  else if w.opacity = 0 ∨ d = 0 then .cut
  else .move

/-- A layout taken for a channel (R68): as a cut, as a move, or as the pending layout. A pending
layout of a LAYOUT cue that is replaced adds a SUPERSEDED record (R48, R70). `cue` is the LAYOUT cue the
layout comes from, if any. -/
def State.takeLayout (s : State) (c : Channel) (p : PresetIx) (d : Nat)
    (cue : Option (Handle × PortId)) : State :=
  let w := (s.chan c).window
  if w.layoutAnswer d = .pending then
    let t := s.modChan c fun x => x.setWindow
      { x.window with pendingLayout := some { preset := p, duration := d, cue := cue } }
    match w.pendingLayout.bind (·.cue) with
    | none => t
    | some (h, origin) => t.addOutcome c h .layout origin .superseded
  else
    s.modChan c fun x => x.setWindow (x.window.takeNow x.presets p d)

/-! ## The four actions (R72, R73) -/

/-- The requested state set, `d` the cause's duration (R52, R53). -/
def State.request (s : State) (c : Channel) (on : Bool) (d : Nat) : State :=
  s.modChan c fun x => x.setWindow
    (x.window.follow { x.window with requested := on } x.presets d)

/-- A WINDOW_IN action: its layout first, without a cue handle, then the requested state ON (R72). -/
def State.windowIn (s : State) (c : Channel) (d : Nat) (p : Option PresetIx) : State :=
  match p with
  | none => s.request c true d
  | some i => (s.takeLayout c i d none).request c true d

/-- A WINDOW_OUT action (R73). -/
def State.windowOut (s : State) (c : Channel) (d : Nat) : State := s.request c false d

/-- WINDOW_SET (R74): the checks, then the action. -/
def windowSet (ch direction : Byte) (duration : Half) (presetFlag preset : Byte) (s : State) :
    State × Answer :=
  match readChannel ch, readFlag direction, readFlag presetFlag with
  | some c, some out, some present =>
    let d := min 250 duration.toNat
    let reply := taken (decide (250 < duration.toNat)) [byte1 d]
    if present then
      match readPreset preset with
      | none => (s, refuse .badParam)
      | some i => if out then (s, refuse .badParam) else (s.windowIn c d (some i), reply)
    else if out then (s.windowOut c d, reply)
    else (s.windowIn c d none, reply)
  | _, _, _ => (s, refuse .badParam)

/-- WINDOW_SET as a command. -/
def execWindowSet (p : PortId) (tag ch direction : Byte) (duration : Half)
    (presetFlag preset : Byte) (s : State) : Answered :=
  .next (s.serve p tag 0x20 (windowSet ch direction duration presetFlag preset))

/-- The byte of a layout answer (11.2). -/
def layoutAnswerByte : LayoutAnswer → Byte
  | .cut => 0
  | .move => 1
  | .pending => 2

/-- LAYOUT_SELECT (R75). -/
def layoutSelect (ch preset : Byte) (duration : Half) (s : State) : State × Answer :=
  match readChannel ch, readPreset preset with
  | some c, some i =>
    let d := min 250 duration.toNat
    (s.takeLayout c i d none,
      taken (decide (250 < duration.toNat))
        [layoutAnswerByte ((s.chan c).window.layoutAnswer d), byte1 d])
  | _, _ => (s, refuse .badParam)

/-- LAYOUT_SELECT as a command. -/
def execLayoutSelect (p : PortId) (tag ch preset : Byte) (duration : Half) (s : State) : Answered :=
  .next (s.serve p tag 0x21 (layoutSelect ch preset duration))

/-! ## SUPPRESS (R60) -/

/-- What SUPPRESS does to one channel of its mask: `0` ON, `1` OFF, `2` OFF_ALL. -/
def State.suppressChannel (s : State) (p : PortId) (action : Nat) (c : Channel) : State :=
  match action with
  | 0 => s.setMember c (portMember p) true
  | 1 => s.setMember c (portMember p) false
  | _ => ((s.setMember c .portA false).setMember c .portB false).setMember c .portC false

/-- SUPPRESS (R60): the channels of the mask one after another, CH0 to CH3. -/
def suppress (p : PortId) (mask action : Byte) (s : State) : State × Answer :=
  match readMask mask with
  | none => (s, refuse .badParam)
  | some m =>
    if maskEmpty m ∨ 2 < action.toNat then (s, refuse .badParam)
    else if action.toNat = 2 ∧ (s.port p).supervisor = false then (s, refuse .notSupervisor)
    else
      (s.eachChannel fun c t => if m.pick c then t.suppressChannel p action.toNat c else t,
        taken false [])

/-- SUPPRESS as a command. -/
def execSuppress (p : PortId) (tag mask action : Byte) (s : State) : Answered :=
  .next (s.serve p tag 0x22 (suppress p mask action))

/-! ## Exclusion spans (R63 to R67) -/

/-- Whether a span matches the clock value `t` (R63). -/
def Span.covers (x : Span) (t : Nat) : Bool :=
  x.enabled &&
    match x.mode with
    | .inside => decide (x.start ≤ t) && decide (t ≤ x.stop)
    | .wrap => decide (x.start ≤ t) || decide (t ≤ x.stop)

/-- The four span indices. -/
def spanIndices : List SpanIx := [0, 1, 2, 3]

/-- The span result against a clock value: MATCH when at least one span matches (R63). -/
def Window.spanTest (w : Window) (t : Nat) : Bool :=
  spanIndices.any fun i => (w.spans.pick i).covers t

/-- Whether any span is enabled. -/
def Window.anySpan (w : Window) : Bool := spanIndices.any fun i => (w.spans.pick i).enabled

/-- The span result set, SPAN following it in the suppression set (R59, R64). -/
def State.setSpanResult (s : State) (c : Channel) (b : Bool) : State :=
  (s.modChan c fun x => x.setWindow { x.window with spanMatch := b }).setMember c .span b

/-- The span matcher's part of a step report (R64). -/
def State.matchSpans (s : State) (c : Channel) (r : StepReport) : State :=
  if r.status = .invalid then s else s.setSpanResult c ((s.chan c).window.spanTest r.value)

/-- The span result computed outside a report: against the clock value while the clock has one;
while it is INVALID the result is kept, but NO_MATCH when no span is enabled (R65). -/
def State.respan (s : State) (c : Channel) : State :=
  let x := s.chan c
  if x.clock.status = .invalid then
    if x.window.anySpan then s else s.setSpanResult c false
  else s.setSpanResult c (x.window.spanTest x.clock.value)

/-- SPAN_SET (R65). -/
def spanSet (p : PortId) (ch index enable mode : Byte) (start stop : LabelBytes) (s : State) :
    State × Answer :=
  match readChannel ch, readSpanIndex index, readFlag enable, readSpanMode mode with
  | some c, some i, some on, some m =>
    match s.readLabel c start, s.readLabel c stop with
    | some a, some b =>
      let record : Span := { start := a, stop := b, mode := m, enabled := on, writer := some p }
      ((s.modChan c fun x => x.setWindow
          { x.window with spans := x.window.spans.put i record }).respan c,
        taken false [])
    | _, _ => (s, refuse .badParam)
  | _, _, _, _ => (s, refuse .badParam)

/-- SPAN_SET as a command. -/
def execSpanSet (p : PortId) (tag ch index enable mode : Byte) (start stop : LabelBytes)
    (s : State) : Answered :=
  .next (s.serve p tag 0x25 (spanSet p ch index enable mode start stop))

/-- A span entry of 11 bytes, its times as labels (11.4). -/
def State.spanBytes (s : State) (c : Channel) (x : Span) : List Byte :=
  [flagByte x.enabled, spanModeByte x.mode] ++ labelBytes (s.label c x.start)
    ++ labelBytes (s.label c x.stop) ++ [portByte? x.writer]

/-- SPAN_READ (R66). -/
def spanRead (ch : Byte) (s : State) : State × Answer :=
  match readChannel ch with
  | none => (s, refuse .badParam)
  | some c =>
    let w := (s.chan c).window
    (s, taken false
      (spanIndices.flatMap (fun i => s.spanBytes c (w.spans.pick i)) ++ [flagByte w.spanMatch]))

/-- SPAN_READ as a command. -/
def execSpanRead (p : PortId) (tag ch : Byte) (s : State) : Answered :=
  .next (s.serve p tag 0x26 (spanRead ch))

/-! ## The period hand-off (R54, R69, R70, R77) -/

/-- The ramp's count and opacity one step on (R54); when the count reaches the length, the window is
ON or OFF. -/
def Window.stepRamp (w : Window) (presets : Bank 8 Preset) : Window :=
  let k := w.ramp.count + 1
  let ramp := { w.ramp with count := k }
  match w.state with
  | .rising =>
    if k < w.ramp.length then
      { w with ramp := ramp
               opacity := w.ramp.start + (1024 - w.ramp.start) * k / w.ramp.length }
    else { w with ramp := ramp, state := .on, opacity := 1024 }
  | .falling =>
    if k < w.ramp.length then
      { w with ramp := ramp, opacity := w.ramp.start - w.ramp.start * k / w.ramp.length }
    else ({ w with ramp := ramp }).enterOff presets
  | .off | .on => w

/-- Whether the ramp is advanced at a period start: in FALLING always, in RISING unless contact hold
is set (R54, R55). -/
def Window.ramping (w : Window) : Bool :=
  match w.state with
  | .falling => true
  | .rising => !w.contactHold
  | .off | .on => false

/-- The ramp's part of a period start (R54). -/
def Window.advanceRamp (w : Window) (presets : Bank 8 Preset) : Window :=
  if w.ramping then w.stepRamp presets else w

/-- The pending layout taken once no move is present (R70). -/
def Window.takePending (w : Window) (presets : Bank 8 Preset) : Window :=
  match w.move, w.pendingLayout with
  | none, some q => ({ w with pendingLayout := none }).takeNow presets q.preset q.duration
  | _, _ => w

/-- The move's part of a period start (R69): its count goes up unless contact hold is set, and at its
length the move ends at its target. -/
def Window.advanceMove (w : Window) : Window :=
  match w.move with
  | none => w
  | some m =>
    if w.contactHold then w
    else if m.count + 1 < m.length then { w with move := some { m with count := m.count + 1 } }
    else w.endMove

/-- Steps 1 to 4 of the window controller's work at a period start (R77). -/
def Window.advance (w : Window) (presets : Bank 8 Preset) : Window :=
  (((w.advanceRamp presets).takePending presets).advanceMove)

/-- RAMP_END (R54): the ramp's step at which its count reaches its length; nothing when the next step
is not that one. -/
def execRampEnd (c : Channel) (s : State) : Answered :=
  let w := (s.chan c).window
  if w.ramping ∧ w.ramp.length ≤ w.ramp.count + 1 then
    .next (s.modChan c fun x => x.setWindow (x.window.advanceRamp x.presets))
  else .next s

/-- MOVE_END (R69): the move's step at which its count reaches its length; nothing when the next step
is not that one. -/
def execMoveEnd (c : Channel) (s : State) : Answered :=
  let w := (s.chan c).window
  match w.move with
  | none => .next s
  | some m =>
    if m.length ≤ m.count + 1 then
      .next (s.modChan c fun x => x.setWindow x.window.advanceMove)
    else .next s

/-- PENDING_LAYOUT_TAKEN (R70): the pending layout taken as a cut or a new move, once no move is
present. -/
def execPendingLayoutTaken (c : Channel) (s : State) : Answered :=
  .next (s.modChan c fun x => x.setWindow (x.window.takePending x.presets))

end Sys2Proof.Machine
end

