-- ==== Sys2Proof/Machine/Presets.lean ====
section
/-! DEFINITION. The layout preset store: PRESET_WRITE and PRESET_READ (R81, R82, R88, R89). -/

namespace Sys2Proof.Machine

open Sys2Proof

/-- PRESET_WRITE (R82, R88): the values are fitted to the raster in force and replace the record. -/
def presetWrite (p : PortId) (ch index : Byte) (f : PresetFields) (s : State) : State × Answer :=
  match readChannel ch, readPreset index, readLayout f with
  | some c, some i, some written =>
    let stored : Preset := { layout := fitLayout s.format written, writer := some p }
    (s.modChan c fun x => x.setPresets (x.presets.put i stored),
      taken (decide (stored.layout ≠ written)) (presetBytes stored))
  | _, _, _ => (s, refuse .badParam)

/-- PRESET_WRITE as a command. -/
def execPresetWrite (p : PortId) (tag ch index : Byte) (f : PresetFields) (s : State) : Answered :=
  .next (s.serve p tag 0x23 (presetWrite p ch index f))

/-- PRESET_READ (R89): a stored record, or for index 8 the period geometry latched at the last period
start. -/
def presetRead (ch index : Byte) (s : State) : State × Answer :=
  match readChannel ch with
  | none => (s, refuse .badParam)
  | some c =>
    let x := s.chan c
    match readPreset index with
    | some i => (s, taken false (presetBytes (x.presets.pick i)))
    | none =>
      if index = 8 then
        (s, taken false (geometryBytes x.latches.geometry x.window.lastPreset))
      else (s, refuse .badParam)

/-- PRESET_READ as a command. -/
def execPresetRead (p : PortId) (tag ch index : Byte) (s : State) : Answered :=
  .next (s.serve p tag 0x24 (presetRead ch index))

end Sys2Proof.Machine
end

