-- ==== Sys2Proof/Machine/Delay.lean ====
section
/-! DEFINITION. The programme delay line and the allocator of the frame slot pool (Chapter 7). -/

namespace Sys2Proof.Machine

open Sys2Proof

/-! ## The delay ring (R137 to R139) -/

/-- A delay ring of `n` entries: the entries of greatest age leave, and new entries are empty
(R137). -/
def resizeRing (n : Nat) (ring : List (Option ProgrammeFrame)) : List (Option ProgrammeFrame) :=
  (ring ++ List.replicate (n - ring.length) none).take n

/-- A frame written at age 0 (R138). -/
def DelayLine.write (d : DelayLine) (f : ProgrammeFrame) : DelayLine :=
  { d with ring := (some f :: d.ring).take d.held }

/-- The entry at an age; an empty one reads as black with no ancillary data (R139). -/
def DelayLine.frameAt (d : DelayLine) (age : Nat) : ProgrammeFrame :=
  ((d.ring[age]?).getD none).getD blackFrame

/-- The read that hands over the delayed frame (R139). -/
def DelayLine.read (d : DelayLine) : DelayLine := { d with delayed := d.frameAt d.actual }

/-- The input frame of an output frame start (R138): the latest complete frame of the station format
that began within the output frame now ending, and otherwise black. -/
def State.inputFrame (s : State) (arrived : List InputFrame) : ProgrammeFrame :=
  if s.timing.frameInProgress then
    (((arrived.filter fun x => x.format = s.format).getLast?).map (·.frame)).getD blackFrame
  else blackFrame

/-! ## The target (R140) -/

/-- Requested target for a booth latency and a lag: half the latency rounded up, plus the lag, at most
60 (R140 stage 1). -/
def requestedTarget (latency lag : Nat) : Nat := min 60 ((latency + 1) / 2 + lag)

/-- Granted target: the requested one when its slots fit in what the channel holds and what is free,
and otherwise the largest whose slots fit (R140 stage 2). -/
def grantedTarget (actual requested held free : Nat) : Nat :=
  if max actual requested + 1 ≤ held + free then requested else held + free - 1

/-- The delay line after a target event with `free` slots free (R140). A channel whose actual delay
equals its target keeps its slew count at 0 (R145). -/
def DelayLine.retarget (d : DelayLine) (latency free : Nat) : DelayLine :=
  let r := requestedTarget latency d.lag
  let t := grantedTarget d.actual r d.held free
  let held := max d.actual t + 1
  { d with
    requested := r
    target := t
    held := held
    ring := resizeRing held d.ring
    slewCount := if t = d.actual then 0 else d.slewCount }

/-- A target event of a channel (R140): slots are reserved from or released to the pool, and
DELAY_SETTLED is posted when it makes actual and target delay equal (R149). -/
def State.targetEvent (s : State) (c : Channel) : State :=
  let x := s.chan c
  let d := x.delay.retarget x.calibration.latency s.free
  let t := (s.modChan c fun y => y.setDelay d).setFree (s.free + x.delay.held - d.held)
  if x.delay.actual ≠ x.delay.target ∧ d.actual = d.target then
    t.postAll (.channel .delaySettled c)
  else t

/-- The lag set and the target worked out (R141, R142). -/
def State.setLag (s : State) (c : Channel) (lag : Nat) : State :=
  (s.modChan c fun x => x.setDelay { x.delay with lag := lag }).targetEvent c

/-- Whether the target is clamped (R140). -/
def DelayLine.clamped (d : DelayLine) : Bool := decide (d.target < d.requested)

/-- The figures LAG_SET and BOOTH_LATENCY_SET reply after their first byte (11.3). -/
def State.delayBytes (s : State) (c : Channel) : List Byte :=
  let d := (s.chan c).delay
  [byte1 d.requested, byte1 d.target, byte1 d.actual, byte1 d.held, byte1 s.free]

/-- LAG_SET (R141). -/
def lagSet (ch lag : Byte) (s : State) : State × Answer :=
  match readChannel ch with
  | none => (s, refuse .badParam)
  | some c =>
    let stored := min 50 lag.toNat
    let t := s.setLag c stored
    (t, taken (decide (50 < lag.toNat) || (t.chan c).delay.clamped)
      (byte1 stored :: t.delayBytes c))

/-- LAG_SET as a command. -/
def execLagSet (p : PortId) (tag ch lag : Byte) (s : State) : Answered :=
  .next (s.serve p tag 0x30 (lagSet ch lag))

/-- BOOTH_LATENCY_SET (R165). -/
def boothLatencySet (ch latency : Byte) (s : State) : State × Answer :=
  match readChannel ch with
  | none => (s, refuse .badParam)
  | some c =>
    let stored := min 249 latency.toNat
    let t := (s.modChan c fun x => x.setCalibration { x.calibration with latency := stored })
      |>.targetEvent c
    (t, taken (decide (249 < latency.toNat) || (t.chan c).delay.clamped)
      (byte1 stored :: t.delayBytes c))

/-- BOOTH_LATENCY_SET as a command. -/
def execBoothLatencySet (p : PortId) (tag ch latency : Byte) (s : State) : Answered :=
  .next (s.serve p tag 0x31 (boothLatencySet ch latency))

/-! ## Slewing (R145 to R147) -/

/-- Whether the next raising of the slew count makes a slew step (R145). -/
def DelayLine.stepDue (d : DelayLine) : Bool :=
  decide (d.actual ≠ d.target) && decide (d.slewInterval ≤ d.slewCount + 1)

/-- The delay line after a slew step toward its target: an increase step, whose slots were reserved
when the target was granted, or a decrease step, after which it holds max(a, t) + 1 slots
(R145 to R147). -/
def DelayLine.slewStep (d : DelayLine) : DelayLine :=
  if d.actual < d.target then
    { d with actual := d.actual + 1, slewCount := 0, kind := .repeated }
  else
    let held := max (d.actual - 1) d.target + 1
    { d with actual := d.actual - 1, slewCount := 0, kind := .afterDrop, held := held
             ring := resizeRing held d.ring }

/-- A slew step of a channel (R145): its released slot returns to the pool, and DELAY_SETTLED is posted
when the step brings the actual delay to the target (R149). -/
def State.slewStep (s : State) (c : Channel) : State :=
  let d := (s.chan c).delay
  let e := d.slewStep
  let t := (s.modChan c fun x => x.setDelay e).setFree (s.free + d.held - e.held)
  if e.actual = e.target then t.postAll (.channel .delaySettled c) else t

/-- The slewing of an ordinary output frame start (R145). -/
def State.slew (s : State) (c : Channel) : State :=
  let d := (s.chan c).delay
  if d.stepDue then s.slewStep c
  else
    let count := if d.actual = d.target then 0 else d.slewCount + 1
    s.modChan c fun x => x.setDelay { x.delay with kind := .ordinary, slewCount := count }

/-- The delay line's work at an output frame start: write, slew unless the frame is a relock frame, and
read (R138, R139, R145). -/
def State.delayFrame (s : State) (c : Channel) (arrived : List InputFrame) : State :=
  let t := s.modChan c fun x => x.setDelay (x.delay.write (s.inputFrame arrived))
  let u :=
    if t.timing.relocking then
      t.modChan c fun x => x.setDelay { x.delay with kind := .ordinary }
    else t.slew c
  u.modChan c fun x => x.setDelay x.delay.read

/-- SLEW_STEP (R145): the step itself, in an ordinary frame with the step due; nothing otherwise. As a command
of its own it does not read the delayed frame again, and the next OUTPUT_FRAME_START sets the kind to
ordinary, so an INTERNAL clock advances 1 over this repeat or drop where R146 and R147 give 0 and 2 (DESIGN
CHOICE: notes/assumptions/2.md). -/
def execSlewStep (c : Channel) (s : State) : Answered :=
  if s.timing.relocking = false ∧ (s.chan c).delay.stepDue then .next (s.slewStep c)
  else .next s

end Sys2Proof.Machine
end

