-- ==== Sys2Proof/Machine/Calibrating.lean ====
section
/-! DEFINITION. The calibration unit (Chapter 8): runs, markers, measurements and how a run ends. -/

namespace Sys2Proof.Machine

open Sys2Proof

/-- The four markers of a run. -/
def markerIndices : List MarkerIx := [0, 1, 2, 3]

/-- The run count of a marker's send period: 1, 51, 101, 151 (R157). -/
def sendCount (i : MarkerIx) : Nat := 1 + 50 * i.val

/-- The sequence of a marker of the run: base plus its number, mod 256 (R156). -/
def Calibration.sequence (x : Calibration) (i : MarkerIx) : Nat := (x.base + i.val) % 256

/-- A marker that has been sent and not measured (R158, R161). -/
def Calibration.outstanding (x : Calibration) (i : MarkerIx) : Bool :=
  (x.sends.pick i).isSome && (x.measured.pick i).isNone

/-- The timeout test at a run count: an outstanding marker sent 250 periods ago or more (R161). -/
def Calibration.timedOut (x : Calibration) (count : Nat) : Bool :=
  markerIndices.any fun i => x.outstanding i && decide ((x.sends.pick i).getD 0 + 250 ≤ count)

/-- The largest of the four measured values (R160). -/
def Calibration.largest (x : Calibration) : Nat :=
  markerIndices.foldl (fun m i => max m ((x.measured.pick i).getD 0)) 0

/-- Whether all four markers are measured (R158). -/
def Calibration.allMeasured (x : Calibration) : Bool :=
  markerIndices.all fun i => (x.measured.pick i).isSome

/-! ## The end of a run (R159 to R164) -/

/-- The record with the run ended and its result set (R159 steps 1 and 2), the latency aside. -/
def Calibration.finish (x : Calibration) (r : RunResult) : Calibration :=
  { x with lastResult := r, running := false }

/-- CALIBRATION_DONE posted to the run's origin port (R164). -/
def State.postDone (s : State) (c : Channel) : State :=
  match (s.chan c).calibration.origin with
  | none => s
  | some p => s.post p (.channel .calibrationDone c)

/-- A run ended with TIMEOUT or SIGNAL: the result, then CALIBRATION out of the suppression set, then
CALIBRATION_DONE (R159). -/
def State.endRun (s : State) (c : Channel) (r : RunResult) : State :=
  ((s.modChan c fun x => x.setCalibration (x.calibration.finish r)).setMember c .calibration
    false).postDone c

/-- A run ended with OK: the largest measured value becomes the last measured latency and the booth
latency, which is a target event, before the rest of R159 (R160). -/
def State.endRunOk (s : State) (c : Channel) : State :=
  ((s.modChan c fun x => x.setCalibration
      { x.calibration with
        lastMeasured := some x.calibration.largest
        latency := x.calibration.largest }).targetEvent c).endRun c .ok

/-! ## CALIBRATE (R155, R156) -/

/-- The record of a run just admitted (R156). -/
def Calibration.accept (x : Calibration) (p : PortId) : Calibration :=
  { x with
    running := true
    origin := some p
    base := (x.base + 4) % 256
    runCount := 0
    sends := Bank.fill 4 none
    measured := Bank.fill 4 none }

/-- CALIBRATE (R155): the checks in order, then the admission. -/
def calibrate (p : PortId) (ch : Byte) (s : State) : State × Answer :=
  match readChannel ch with
  | none => (s, refuse .badParam)
  | some c =>
    let x := s.chan c
    if x.calibration.running then (s, refuse .busy)
    else if 0 < s.timing.relockCount then (s, refuse .notReady)
    else if x.sync.lock.available = false then (s, refuse .notReady)
    else
      ((s.modChan c fun y => y.setCalibration (y.calibration.accept p)).setMember c .calibration true,
        taken false [byte1 ((x.calibration.base + 4) % 256)])

/-- CALIBRATE as a command. -/
def execCalibrate (p : PortId) (tag ch : Byte) (s : State) : Answered :=
  .next (s.serve p tag 0x32 (calibrate p ch))

/-! ## The run count, sending and the timeout (R157, R161) -/

/-- The record with its run count raised, and the marker of that count sent, if it is one of the four
send counts (R157). -/
def Calibration.raise (x : Calibration) : Calibration :=
  let count := x.runCount + 1
  match markerIndices.find? fun i => sendCount i = count with
  | none => { x with runCount := count, inserting := none }
  | some i =>
    { x with runCount := count, sends := x.sends.put i (some count)
             inserting := some (x.sequence i) }

/-- The calibration unit's work at a period start (R157, R161): the run count goes up, the timeout
test follows, and a run that has not ended sends the marker due. A run admitted in the last relock frame can
have its first send count in the second period of that frame, where R4 inserts no marker: the send period is
recorded all the same (DESIGN CHOICE: notes/assumptions/33.md). -/
def State.countRun (s : State) (c : Channel) : State :=
  let x := (s.chan c).calibration
  if x.running = false then
    s.modChan c fun y => y.setCalibration { y.calibration with inserting := none }
  else if x.timedOut (x.runCount + 1) then
    (s.modChan c fun y => y.setCalibration
      { y.calibration with
        runCount := y.calibration.runCount + 1
        inserting := none }).endRun c .timeout
  else s.modChan c fun y => y.setCalibration y.calibration.raise

/-- Whether the next period start sends a marker of the run (R157). -/
def Calibration.sendDue (x : Calibration) : Bool :=
  x.running && !x.timedOut (x.runCount + 1)
    && markerIndices.any fun i => decide (sendCount i = x.runCount + 1)

/-- Whether the next period start ends the run with TIMEOUT (R161). -/
def Calibration.timeoutDue (x : Calibration) : Bool := x.running && x.timedOut (x.runCount + 1)

/-- MARKER_SEND (R157): the count that sends a marker; nothing when the next count sends none. -/
def execMarkerSend (c : Channel) (s : State) : Answered :=
  if (s.chan c).calibration.sendDue then .next (s.countRun c) else .next s

/-- CALIBRATION_TIMEOUT (R161): the count that ends the run; nothing when the next count does not. -/
def execCalibrationTimeout (c : Channel) (s : State) : Answered :=
  if (s.chan c).calibration.timeoutDue then .next (s.countRun c) else .next s

/-! ## Markers received (R158, R198) -/

/-- The 8-bit value of an ancillary word, in its low eight bits (R198). -/
def wordValue (w : Sample) : Nat := w.toNat % 256

/-- Whether a packet carries the marker identifier pair 51h, 2Eh (R198). -/
def markerIdentified (k : Packet) : Bool :=
  match k.words with
  | a :: b :: _ => decide (wordValue a = 0x51) && decide (wordValue b = 0x2E)
  | _ => false

/-- The channel word and sequence of a marker packet: the identifier pair, a data count of 3 and a
correct check (R198). -/
def readMarker (k : Packet) : Option (Nat × Nat) :=
  match k.words with
  | [_, _, n, ch, seq, check] =>
    if markerIdentified k ∧ wordValue n = 3
        ∧ wordValue check = 255 - (wordValue ch + wordValue seq) % 256
    then some (wordValue ch, wordValue seq) else none
  | _ => none

/-- The marker of the run that has the sequence and is outstanding (R158 steps 3 and 4). -/
def Calibration.matched (x : Calibration) (seq : Nat) : Option MarkerIx :=
  markerIndices.find? fun i => decide (x.sequence i = seq) && x.outstanding i

/-- A marker measured: the run count of the period in progress less its send period (R158 step 5). -/
def Calibration.measure (x : Calibration) (i : MarkerIx) : Calibration :=
  { x with measured := x.measured.put i (some (x.runCount - (x.sends.pick i).getD 0)) }

/-- A marker packet handed to the calibration unit (R158). -/
def State.receiveMarker (s : State) (c : Channel) (ch seq : Nat) : State :=
  let x := (s.chan c).calibration
  if x.running = false ∨ ch ≠ c.val then s
  else
    match x.matched seq with
    | none => s
    | some i =>
      let t := s.modChan c fun y => y.setCalibration (y.calibration.measure i)
      if (t.chan c).calibration.allMeasured then t.endRunOk c else t

/-- MARKER_RECEIVED (R134, R158): a packet of the signer input that is no marker is ignored. -/
def execMarkerReceived (c : Channel) (packet : Packet) (s : State) : Answered :=
  match readMarker packet with
  | none => .next s
  | some (ch, seq) => .next (s.receiveMarker c ch seq)

/-- What the calibration unit supplies to the status record: 16 bytes (R166, 11.4 offsets 26 to
41). -/
def Calibration.statusBytes (x : Calibration) : List Byte :=
  [byte1 x.latency, flagByte x.running, runResultByte x.lastResult, smallByte? x.lastMeasured,
    portByte? x.origin, byte1 x.base] ++ bytes2 x.runCount
    ++ markerIndices.map (fun i => smallByte? (x.sends.pick i))
    ++ markerIndices.map (fun i => smallByte? (x.measured.pick i))

end Sys2Proof.Machine
end

