-- ==== Sys2Proof/Machine/Sync.lean ====
section
/-! DEFINITION. The signer input synchroniser (Chapter 6). -/

namespace Sys2Proof.Machine

open Sys2Proof

/-! ## Changes of lock state and of the SIGNER level (R122, R128, R133) -/

/-- The SIGNER level set or cleared, the SIGNER member following it (R59, R128). -/
def State.setLevel (s : State) (c : Channel) (b : Bool) : State :=
  (s.modChan c fun x => x.setSync { x.sync with level := b }).setMember c .signer b

/-- The SIGNER level after an entry to a lock state: set at LOST and MISMATCH under WITHDRAW, cleared at
the entry to LOCKED that ends an acquisition, and otherwise kept (R128). -/
def Synchroniser.levelAfter (x : Synchroniser) (new : LockState) : Bool :=
  match new with
  | .lost | .mismatch => if x.policy = .withdraw then true else x.level
  | .locked => if x.lock = .holding then x.level else false
  | .absent | .acquiring | .holding => x.level

/-- The record after an entry to a lock state. Entry to ACQUIRING empties the interval history and the
consecutive valid count (R122). -/
def Synchroniser.enter (x : Synchroniser) (new : LockState) : Synchroniser :=
  if new = .acquiring then { x with lock := new, history := [], consecutive := 0 }
  else { x with lock := new }

/-- A calibration run ended with SIGNAL at a change from available to unavailable (R162). -/
def State.endOnLoss (s : State) (c : Channel) (old new : LockState) : State :=
  if old.available ∧ new.available = false ∧ (s.chan c).calibration.running then
    s.endRun c .signal
  else s

/-- A change of lock state: SIGNER_CHANGE is posted, and the neighbours are handed the change, in the
order given (R122, R128, R133, R76). -/
def State.setLock (s : State) (c : Channel) (new : LockState) (h : HandOver) : State :=
  let x := (s.chan c).sync
  if x.lock = new then s
  else
    let t := (s.modChan c fun y => y.setSync (x.enter new)).postAll (.channel .signerChange c)
    match h with
    | .windowFirst => (t.setLevel c (x.levelAfter new)).endOnLoss c x.lock new
    | .calibrationFirst => (t.endOnLoss c x.lock new).setLevel c (x.levelAfter new)

/-! ## The link (R119, R122) -/

/-- A picture ended without a completion: it is discarded (R119, R121). -/
def Synchroniser.discard (x : Synchroniser) : Synchroniser :=
  if x.incoming.isSome then { x with incoming := none, write := none, consecutive := 0 } else x

/-- Signal up: ABSENT becomes ACQUIRING (R122). -/
def State.signalUp (s : State) (c : Channel) : State :=
  let t := s.modChan c fun x => x.setSync { x.sync with signal := true }
  if (s.chan c).sync.lock = .absent then t.setLock c .acquiring .windowFirst else t

/-- SIGNAL_UP (R122). -/
def execSignalUp (c : Channel) (s : State) : Answered := .next (s.signalUp c)

/-- SIGNAL_DOWN (R120, R122): the picture being received is discarded, the last picture start becomes
absent, and ACQUIRING and MISMATCH become ABSENT. -/
def execSignalDown (c : Channel) (s : State) : Answered :=
  let t := s.modChan c fun x => x.setSync { x.sync.discard with signal := false, lastStart := none }
  if (s.chan c).sync.lock = .acquiring ∨ (s.chan c).sync.lock = .mismatch then
    .next (t.setLock c .absent .windowFirst)
  else .next t

/-! ## Pictures (R120, R121, R124, R125) -/

/-- The completion order of a slot's contents: 0 for black and for the remains of a discarded picture,
which count as completed least recently (R124). -/
def SlotContents.rank : SlotContents → Nat
  | .black | .unfinished => 0
  | .picture _ n => n + 1

/-- The slots of a signer ring. -/
def ringIndices : List RingIx := [0, 1, 2]

/-- The better of two candidates for the write slot: the one completed less recently, the first of two
alike. -/
def Synchroniser.older (x : Synchroniser) (a : Option RingIx) (b : RingIx) : Option RingIx :=
  match a with
  | none => some b
  | some i => if (x.ring.pick b).rank < (x.ring.pick i).rank then some b else some i

/-- The write slot taken at a picture start (R124). -/
def Synchroniser.nextWrite (x : Synchroniser) : Option RingIx :=
  (ringIndices.filter fun i => i ≠ x.current ∧ i ≠ x.newest).foldl x.older none

/-- Whether the writer writes pictures that begin in the lock state (R125). -/
def LockState.writes : LockState → Bool
  | .acquiring | .locked | .holding => true
  | .absent | .lost | .mismatch => false

/-- The interval history with one more interval, the oldest leaving a full one (R120). -/
def historyAdd (history : List Nat) (x : Nat) : List Nat :=
  (history ++ [x]).drop (history.length - 15)

/-- The measurement of a picture start (R120); `fresh` is the start that moves LOST to ACQUIRING,
which carries no interval (R122). -/
def Synchroniser.measureStart (x : Synchroniser) (f : Format) (now : Nat) (fresh : Bool) :
    Synchroniser :=
  match x.lastStart with
  | none => { x with lastStart := some now, incoming := some { interval := none } }
  | some last =>
    if fresh then { x with lastStart := some now, incoming := some { interval := none } }
    else if 2 * pictureInterval f < now - last then
      { x with lastStart := some now, incoming := some { interval := none }
               history := [], consecutive := 0 }
    else
      { x with lastStart := some now, incoming := some { interval := some (now - last) }
               history := historyAdd x.history (now - last) }

/-- The write slot taken for the picture beginning, if the lock state writes (R124, R125). -/
def Synchroniser.beginWrite (x : Synchroniser) : Synchroniser :=
  if x.lock.writes then
    match x.nextWrite with
    | none => x
    | some i => { x with write := some i, ring := x.ring.put i .unfinished }
  else x

/-- PICTURE_START (R120, R122, R124, R125). -/
def execPictureStart (c : Channel) (now : Nat) (s : State) : Answered :=
  let fresh := decide ((s.chan c).sync.lock = .lost)
  let t := s.modChan c fun x => x.setSync x.sync.discard
  let u := if fresh then t.setLock c .acquiring .windowFirst else t
  .next (u.modChan c fun x => x.setSync (x.sync.measureStart s.format now fresh).beginWrite)

/-- The raster of a right picture of the station format: W samples on each of H active lines, in two fields of H/2
in F1 and F2 and in one picture in F3 to F6 (R119). -/
def stationRaster (f : Format) : Raster :=
  if interlaced f then
    [List.replicate (height f / 2) (width f), List.replicate (height f / 2) (width f)]
  else [List.replicate (height f) (width f)]

/-- The raster verdict of a completed picture (R119). -/
def rasterRight (f : Format) (raster : Raster) : Bool := decide (raster = stationRaster f)

/-- Whether a completed picture is valid (R121). -/
def Incoming.valid (x : Incoming) (f : Format) (rasterRight : Bool) : Bool :=
  rasterRight && (x.interval.map (intervalInRate f)).getD false

/-- The consecutive valid count after a completion (R121). -/
def countValid (valid : Bool) (n : Nat) : Nat := if valid then min 16 (n + 1) else 0

/-- Whether the interval history is full (R118). -/
def Synchroniser.full (x : Synchroniser) : Bool := decide (16 ≤ x.history.length)

/-- The lock state after a completion (R122); `n` is the consecutive valid count as the completion's
judgement left it. -/
def Synchroniser.lockAfter (x : Synchroniser) (f : Format) (rasterRight valid : Bool) (n : Nat) :
    LockState :=
  match x.lock with
  | .acquiring =>
    if rasterRight = false ∨ (x.full ∧ sumInRate f x.history = false) then .mismatch
    else if valid ∧ n = 16 then .locked
    else .acquiring
  | .locked | .holding =>
    if rasterRight = false ∨ (x.full ∧ sumInRate f x.history = false) then .mismatch else x.lock
  | .mismatch =>
    if rasterRight ∧ x.full ∧ sumInRate f x.history then .acquiring else .mismatch
  | .absent | .lost => x.lock

/-- The ring after a completion: with the raster right, the write slot holds the picture and becomes
the newest; a picture of a wrong raster leaves its slot with none (R119, R125). -/
def Synchroniser.store (x : Synchroniser) (rasterRight : Bool) (p : Picture) : Synchroniser :=
  match x.write, rasterRight with
  | some i, true =>
    { x with ring := x.ring.put i (.picture p x.completions), newest := i, write := none
             completions := x.completions + 1 }
  | _, _ => { x with write := none }

/-- The unread and drop counts after a completion (R125); `new` is the lock state it leads to. -/
def Synchroniser.countUnread (x : Synchroniser) (new : LockState) : Synchroniser :=
  if x.lock = .acquiring ∧ new = .locked then { x with unread := 1 }
  else if new.available then
    if 2 ≤ x.unread then { x with unread := 2, drops := saturate 65535 (x.drops + 1) }
    else { x with unread := x.unread + 1 }
  else x

/-- The record after a completion, its lock state aside. -/
def Synchroniser.complete (x : Synchroniser) (n : Nat) (new : LockState) (rasterRight : Bool)
    (p : Picture) : Synchroniser :=
  let y := (x.store rasterRight p).countUnread new
  { y with consecutive := n, incoming := none }

/-- A picture completed (R121, R122, R125). -/
def State.completePicture (s : State) (c : Channel) (rasterRight : Bool) (p : Picture)
    (h : HandOver) (i : Incoming) : State :=
  let x := (s.chan c).sync
  let valid := i.valid s.format rasterRight
  let n := countValid valid x.consecutive
  let new := x.lockAfter s.format rasterRight valid n
  (s.modChan c fun y => y.setSync (x.complete n new rasterRight p)).setLock c new h

/-- PICTURE_COMPLETION, with the verdict on the raster received: nothing when no picture is being received (DESIGN
CHOICE: notes/assumptions/10.md). -/
def execPictureCompletion (c : Channel) (raster : Raster) (picture : Picture) (h : HandOver)
    (s : State) : Answered :=
  match (s.chan c).sync.incoming with
  | none => .next s
  | some i => .next (s.completePicture c (rasterRight s.format raster) picture h i)

/-! ## The choice and the holding count (R123, R126) -/

/-- The choice at an output picture start, its effect on the lock state aside (R126). -/
def Synchroniser.choose (x : Synchroniser) : Synchroniser :=
  if x.lock.available then
    if 0 < x.unread then
      { x with current := x.newest, drops := saturate 65535 (x.drops + (x.unread - 1)), unread := 0 }
    else { x with repeats := saturate 65535 (x.repeats + 1) }
  else x

/-- The lock state the choice leads to (R122, R126). -/
def Synchroniser.lockChosen (x : Synchroniser) : LockState :=
  if x.lock.available then (if 0 < x.unread then .locked else .holding) else x.lock

/-- The choice made for a channel. The holding count becomes 0 where LOCKED becomes HOLDING (R123). -/
def State.chooseSigner (s : State) (c : Channel) (h : HandOver) : State :=
  let x := (s.chan c).sync
  let new := x.lockChosen
  let y := if x.lock = .locked ∧ new = .holding then { x.choose with holding := 0 } else x.choose
  (s.modChan c fun z => z.setSync y).setLock c new h

/-- The holding count raised, and LOST at the hold limit (R123). -/
def State.raiseHolding (s : State) (c : Channel) (h : HandOver) : State :=
  let x := (s.chan c).sync
  let t := s.modChan c fun y => y.setSync { x with holding := x.holding + 1 }
  if x.holdLimit ≤ x.holding + 1 then t.setLock c .lost h else t

/-- The synchroniser's work at a period start: the choice, when it is an output picture start, and the
holding count of a channel that was HOLDING and still is; then the current slot is handed to the
compositor, which latches it (R113, R123, R126). -/
def State.syncPeriod (s : State) (c : Channel) (outputPicture : Bool) (h : HandOver) : State :=
  let t := if outputPicture then s.chooseSigner c h else s
  let u :=
    if (s.chan c).sync.lock = .holding ∧ (t.chan c).sync.lock = .holding then t.raiseHolding c h
    else t
  u.modChan c fun x => x.setLatches { x.latches with signer := x.sync.current }

/-- HOLD_LIMIT_REACHED (R123): the raising of the holding count that reaches the hold limit; nothing
when the next does not. -/
def execHoldLimitReached (c : Channel) (h : HandOver) (s : State) : Answered :=
  let x := (s.chan c).sync
  if x.lock = .holding ∧ x.holdLimit ≤ x.holding + 1 then .next (s.raiseHolding c h) else .next s

/-! ## Statistics (R131, R132) -/

/-- A 4-byte value, FFFFFFFFh when absent (11.3). -/
def bytes4? : Option Nat → List Byte
  | none => [0xFF, 0xFF, 0xFF, 0xFF]
  | some n => bytes4 n

/-- The statistics of 19 bytes (R132, 11.3). -/
def Synchroniser.statsBytes (x : Synchroniser) : List Byte :=
  [lockByte x.lock, flagByte x.level] ++ bytes2 x.repeats ++ bytes2 x.drops
    ++ [byte1 x.holding, byte1 x.holdLimit, policyByte x.policy, byte1 x.consecutive,
        byte1 x.history.length]
    ++ bytes4? x.history.getLast?
    ++ bytes4? (if x.history = [] then none else some (x.history.sum / x.history.length))

/-- SYNC_STATS_READ (R132): with CLEAR the counts become 0 once they are in the reply. -/
def syncStatsRead (ch clear : Byte) (s : State) : State × Answer :=
  match readChannel ch, readFlag clear with
  | some c, some wipe =>
    let x := (s.chan c).sync
    (if wipe then s.modChan c fun y => y.setSync { y.sync with repeats := 0, drops := 0 } else s,
      taken false x.statsBytes)
  | _, _ => (s, refuse .badParam)

/-- SYNC_STATS_READ as a command. -/
def execSyncStatsRead (p : PortId) (tag ch clear : Byte) (s : State) : Answered :=
  .next (s.serve p tag 0x04 (syncStatsRead ch clear))

end Sys2Proof.Machine
end

