-- ==== Sys2Proof/Machine/Cues.lean ====
section
/-! DEFINITION. The cue table (Chapter 2): the pool and the lists, firing on step reports and FIRE edges,
holds, and the cue requests. -/

namespace Sys2Proof.Machine

open Sys2Proof

/-! ## The pool and the lists (R20 to R23) -/

/-- The slots of the pool in ascending order. -/
def slotIndices : List SlotIx := List.finRange 256

/-- A slot of the pool. -/
def State.slot (s : State) (i : SlotIx) : CueSlot := s.cues.pick i

/-- The live cue of a slot. -/
def State.cue (s : State) (i : SlotIx) : Option Cue := (s.slot i).cue

/-- The free slot with the lowest number (R20). -/
def State.freeSlot (s : State) : Option SlotIx := slotIndices.find? fun i => (s.cue i).isNone

/-- The generation after `g`: 0 and 255 are both followed by 1 (R20). -/
def nextGeneration (g : Nat) : Nat := if 255 ≤ g then 1 else g + 1

/-- The handle of the cue in a slot (R20). -/
def State.handle (s : State) (i : SlotIx) : Handle := { slot := i, generation := (s.slot i).generation }

/-- The live cue a handle names, if it is not stale (R21). -/
def State.resolve (s : State) (h : HandleBytes) : Option (SlotIx × Cue) :=
  let i : SlotIx := h.slot.toFin
  if h.generation.toNat = 0 ∨ (s.slot i).generation ≠ h.generation.toNat then none
  else (s.cue i).map fun k => (i, k)

/-- The fire time of a TIME cue, 0 for a CONTACT cue. -/
def Cue.fireTime (k : Cue) : Nat :=
  match k.trigger with
  | .time f => f
  | .contact _ => 0

/-- Whether a cue is a CONTACT cue naming the GPI. -/
def Cue.names (k : Cue) (g : GpiIx) : Bool := decide (k.trigger = .contact g)

/-- The fire time of the cue in a slot. -/
def State.fireTimeAt (s : State) (i : SlotIx) : Nat := ((s.cue i).map Cue.fireTime).getD 0

/-- Whether the cue in a slot carries the late mark. -/
def State.lateAt (s : State) (i : SlotIx) : Bool := ((s.cue i).map (·.late)).getD false

/-- A slot put into a timed list, after the last entry whose fire time is not above its own (R22). -/
def insertTimed (time : SlotIx → Nat) (i : SlotIx) (list : List SlotIx) : List SlotIx :=
  list.takeWhile (fun j => time j ≤ time i) ++ i :: list.dropWhile fun j => time j ≤ time i

/-- A change of a channel's scheduler alone. -/
def State.modScheduler (s : State) (c : Channel) (f : Scheduler → Scheduler) : State :=
  s.modChan c fun x => x.setScheduler (f x.scheduler)

/-- A cue taken off its list, and its slot freed; the generation stays (R20, R22, R23). -/
def State.removeCue (s : State) (c : Channel) (i : SlotIx) : State :=
  (s.modScheduler c fun k =>
    { k with timed := k.timed.filter (· ≠ i), contact := k.contact.filter (· ≠ i) }).setSlot i
      { s.slot i with cue := none }

/-- A cue put on the list of its trigger kind: a TIME cue by its fire time, a CONTACT cue at the
tail (R22, R23). -/
def State.enlist (s : State) (i : SlotIx) (k : Cue) : State :=
  match k.trigger with
  | .time _ => s.modScheduler k.channel fun x =>
      { x with timed := insertTimed s.fireTimeAt i x.timed }
  | .contact _ => s.modScheduler k.channel fun x => { x with contact := x.contact ++ [i] }

/-- The late-insert test of a fire time (R27). -/
def State.lateInsert (s : State) (c : Channel) (f : Nat) : Bool :=
  match (s.chan c).scheduler.scan with
  | none => false
  | some v => decide (distance (s.day c) f v ≤ (s.chan c).scheduler.lateTolerance)

/-! ## Firing (R38 to R41) -/

/-- A cue removed with an outcome: its record is added, its action not delivered (R30 to R32, R40). -/
def State.retire (s : State) (c : Channel) (i : SlotIx) (k : Cue) (r : Result) : State :=
  (s.removeCue c i).addOutcome c (s.handle i) k.action k.origin r

/-- The action of a fired cue delivered (R41 step 3). -/
def State.deliver (s : State) (c : Channel) (h : Handle) (k : Cue) : State :=
  match k.action with
  | .windowIn => s.windowIn c k.duration k.preset
  | .windowOut => s.windowOut c k.duration
  | .layout =>
    match k.preset with
    | none => s
    | some p => s.takeLayout c p k.duration (some (h, k.origin))
  | .lag => s.setLag c k.lag

/-- The cue in a slot fired, whole: off its list, its outcome recorded, its action delivered (R41). -/
def State.fireCue (s : State) (c : Channel) (r : Result) (i : SlotIx) : State :=
  match s.cue i with
  | none => s
  | some k => (s.retire c i k r).deliver c (s.handle i) k

/-- The cue in a slot passed by a jump beyond the tolerance: MISSED (R40). -/
def State.missCue (s : State) (c : Channel) (i : SlotIx) : State :=
  match s.cue i with
  | none => s
  | some k => s.retire c i k .missed

/-- A slot put in order of distance, after those of equal distance. -/
def insertBy (key : SlotIx → Nat) (i : SlotIx) (list : List SlotIx) : List SlotIx :=
  list.takeWhile (fun j => key j ≤ key i) ++ i :: list.dropWhile fun j => key j ≤ key i

/-- Slots in ascending order of a key, equal keys as they stood. -/
def sortBy (key : SlotIx → Nat) (list : List SlotIx) : List SlotIx :=
  list.foldl (fun done i => insertBy key i done) []

/-- What the scheduler deals with for a report: the old value, the new value, the distance and the
kind (R37). -/
structure Scan where
  old : Nat
  new : Nat
  distance : Nat
  kind : StepKind
deriving DecidableEq, Repr

/-- The old value and the step the scheduler uses for a report (R37). -/
def State.scanOf (s : State) (c : Channel) (r : StepReport) : Scan :=
  let k := (s.chan c).scheduler
  match k.resume, k.scan with
  | true, some v =>
    { old := v, new := r.value, distance := distance (s.day c) v r.value
      kind := stepKind s.format (s.dropMode c) (distance (s.day c) v r.value) }
  | _, _ =>
    { old := distance (s.day c) r.distance r.value, new := r.value, distance := r.distance
      kind := r.kind }

/-- Group 1 of a report: the cues carrying the late mark, in list order (R38). -/
def State.lateCues (s : State) (c : Channel) : List SlotIx :=
  (s.chan c).scheduler.timed.filter s.lateAt

/-- Group 2 of a report: on a forward jump, the cues without the late mark strictly between the old and
the new value, going forward from the old value (R38). -/
def State.passedCues (s : State) (c : Channel) (x : Scan) : List SlotIx :=
  if x.kind = .forward then
    let ahead := fun i => distance (s.day c) x.old (s.fireTimeAt i)
    sortBy ahead ((s.chan c).scheduler.timed.filter fun i =>
      !s.lateAt i && decide (0 < ahead i) && decide (ahead i < x.distance))
  else []

/-- Group 3 of a report: on an advance or a forward jump, the cues without the late mark at the new
value, in list order (R38). -/
def State.dueCues (s : State) (c : Channel) (x : Scan) : List SlotIx :=
  if x.kind = .advance ∨ x.kind = .forward then
    (s.chan c).scheduler.timed.filter fun i => !s.lateAt i && decide (s.fireTimeAt i = x.new)
  else []

/-- Group 2 dealt with by the late tolerance: fired late, or missed (R40). -/
def State.dealPassed (s : State) (c : Channel) (x : Scan) (passed : List SlotIx) : State :=
  if x.distance ≤ (s.chan c).scheduler.lateTolerance + 1 then
    passed.foldl (fun t i => t.fireCue c .firedLate i) s
  else passed.foldl (fun t i => t.missCue c i) s

/-- A report the scheduler acts on (R37 to R40): the three groups in order, then the scan value. All the
cues of a report are one part of its output frame start: a change of the span result by the same report
falls before the first of them or after the last, never between two (DESIGN CHOICE:
notes/assumptions/6.md). -/
def State.scanCues (s : State) (c : Channel) (r : StepReport) : State :=
  let x := s.scanOf c r
  let late := s.lateCues c
  let passed := s.passedCues c x
  let due := s.dueCues c x
  let t := late.foldl (fun u i => u.fireCue c .firedLate i) s
  let u := t.dealPassed c x passed
  let v := due.foldl (fun w i => w.fireCue c .fired i) u
  v.modScheduler c fun k => { k with scan := some x.new, resume := false }

/-- The scheduler's part of a step report: it passes over a report made while the hold set is
non-empty, or whose state is INVALID (R36). -/
def State.scheduleCues (s : State) (c : Channel) (r : StepReport) : State :=
  if (s.chan c).scheduler.hold.isEmpty = false ∨ r.status = .invalid then s else s.scanCues c r

/-- A FIRE edge of a GPI on a channel: with the hold set empty, it fires the oldest contact cue naming
the GPI (R45). -/
def State.fireEdge (s : State) (g : GpiIx) (c : Channel) : State :=
  if (s.chan c).scheduler.hold.isEmpty = false then s
  else
    match (s.chan c).scheduler.contact.find? fun i => ((s.cue i).map (·.names g)).getD false with
    | none => s
    | some i => s.fireCue c .fired i

/-! ## CUE_ADD and CUE_MODIFY (R25 to R29) -/

/-- The cue fields of a request as read and clamped: the cue they make (its origin the port given, its
late mark clear), and whether a value was clamped (R25). -/
def State.readCue (s : State) (p : PortId) (f : CueFields) : Option (Cue × Bool) :=
  match readChannel f.channel, readFlag f.kind, readAction f.action, readFlag f.presetFlag with
  | some c, some contact, some action, some present =>
    let trigger : Option Trigger :=
      if contact then (readGpi f.trigger.hh).map .contact
      else (s.readLabel c f.trigger).map .time
    let preset : Option (Option PresetIx) :=
      match present, action with
      | false, .layout => none
      | false, _ => some none
      | true, .windowOut | true, .lag => none
      | true, _ => (readPreset f.preset).map some
    match trigger, preset with
    | some t, some q =>
      if action = .lag then
        some ({ channel := c, origin := p, trigger := t, action := action, duration := 0,
                preset := q, lag := min 50 f.lag.toNat, late := false },
          decide (50 < f.lag.toNat))
      else
        some ({ channel := c, origin := p, trigger := t, action := action,
                duration := min 250 f.duration.toNat, preset := q, lag := 0, late := false },
          decide (250 < f.duration.toNat))
    | _, _ => none
  | _, _, _, _ => none

/-- A cue with its late mark as the late-insert test gives it (R26, R27). -/
def State.judged (s : State) (k : Cue) : Cue :=
  match k.trigger with
  | .time f => { k with late := s.lateInsert k.channel f }
  | .contact _ => { k with late := false }

/-- A new cue written into a slot with the slot's next generation, and put on its list (R20, R26). -/
def State.placeCue (s : State) (i : SlotIx) (k : Cue) : State :=
  (s.setSlot i { generation := nextGeneration (s.slot i).generation, cue := some k }).enlist i k

/-- The end of a CUE_ADD or CUE_MODIFY reply: late mark, stored duration and stored lag (11.3). -/
def storedBytes (k : Cue) : List Byte :=
  [flagByte k.late] ++ bytes2 k.duration ++ [byte1 k.lag]

/-- CUE_ADD (R25, R26). -/
def cueAdd (p : PortId) (f : CueFields) (s : State) : State × Answer :=
  match s.readCue p f with
  | none => (s, refuse .badParam)
  | some (k, clamped) =>
    match s.freeSlot with
    | none => (s, refuse .poolFull)
    | some i =>
      let t := s.placeCue i (s.judged k)
      (t, taken clamped (handleBytes (t.handle i) ++ storedBytes (s.judged k)))

/-- CUE_ADD as a command. -/
def execCueAdd (p : PortId) (tag : Byte) (f : CueFields) (s : State) : Answered :=
  .next (s.serve p tag 0x10 (cueAdd p f))

/-- Whether a port may modify or delete a cue: its origin, or the supervisor (R28). -/
def State.mayEdit (s : State) (p : PortId) (k : Cue) : Bool :=
  decide (k.origin = p) || (s.port p).supervisor

/-- Whether two triggers are of the same kind. -/
def Trigger.sameKind : Trigger → Trigger → Bool
  | .time _, .time _ | .contact _, .contact _ => true
  | .time _, .contact _ | .contact _, .time _ => false

/-- A cue's fields replaced in its slot; a TIME cue whose fire time changes moves in its list (R29). -/
def State.replaceCue (s : State) (i : SlotIx) (old new : Cue) : State :=
  let t := s.setSlot i { s.slot i with cue := some new }
  if old.trigger = new.trigger then t
  else
    match new.trigger with
    | .time _ =>
      (t.modScheduler new.channel fun x => { x with timed := x.timed.filter (· ≠ i) }).enlist i new
    | .contact _ => t

/-- The cue a CUE_MODIFY leaves: origin kept, and the late mark kept unless the fire time changes
(R29). -/
def State.modified (s : State) (old new : Cue) : Cue :=
  let k := { new with origin := old.origin }
  if old.trigger = new.trigger then { k with late := old.late } else s.judged k

/-- CUE_MODIFY (R29), after the handle (R21) and the ownership (R28). -/
def cueModify (p : PortId) (h : HandleBytes) (f : CueFields) (s : State) : State × Answer :=
  match s.resolve h with
  | none => (s, refuse .noCue)
  | some (i, old) =>
    if s.mayEdit p old = false then (s, refuse .notOwner)
    else
      match s.readCue p f with
      | none => (s, refuse .badParam)
      | some (new, clamped) =>
        if new.channel ≠ old.channel ∨ old.trigger.sameKind new.trigger = false then
          (s, refuse .badParam)
        else
          (s.replaceCue i old (s.modified old new), taken clamped (storedBytes (s.modified old new)))

/-- CUE_MODIFY as a command. -/
def execCueModify (p : PortId) (tag : Byte) (h : HandleBytes) (f : CueFields) (s : State) :
    Answered :=
  .next (s.serve p tag 0x11 (cueModify p h f))

/-! ## CUE_DELETE, CUE_CLEAR and CUE_SKIP_NEXT (R30 to R32) -/

/-- CUE_DELETE (R30), after the handle (R21) and the ownership (R28). -/
def cueDelete (p : PortId) (h : HandleBytes) (s : State) : State × Answer :=
  match s.resolve h with
  | none => (s, refuse .noCue)
  | some (i, k) =>
    if s.mayEdit p k = false then (s, refuse .notOwner)
    else (s.retire k.channel i k .cancelled, taken false [])

/-- CUE_DELETE as a command. -/
def execCueDelete (p : PortId) (tag : Byte) (h : HandleBytes) (s : State) : Answered :=
  .next (s.serve p tag 0x12 (cueDelete p h))

/-- The cue in a slot cancelled by a clear (R31). -/
def State.cancelCue (s : State) (c : Channel) (i : SlotIx) : State :=
  match s.cue i with
  | none => s
  | some k => s.retire c i k .cancelled

/-- The cues a clear removes: those of the timed list and then those of the contact list, the port's
own, or all of them (R31). -/
def State.clearedCues (s : State) (c : Channel) (p : PortId) (everyOrigin : Bool) : List SlotIx :=
  ((s.chan c).scheduler.timed ++ (s.chan c).scheduler.contact).filter fun i =>
    ((s.cue i).map fun k => everyOrigin || decide (k.origin = p)).getD false

/-- CUE_CLEAR (R31). -/
def cueClear (p : PortId) (ch scope : Byte) (s : State) : State × Answer :=
  match readChannel ch, readFlag scope with
  | some c, some everyOrigin =>
    if everyOrigin ∧ (s.port p).supervisor = false then (s, refuse .notSupervisor)
    else
      let gone := s.clearedCues c p everyOrigin
      (gone.foldl (fun t i => t.cancelCue c i) s, taken false (bytes2 gone.length))
  | _, _ => (s, refuse .badParam)

/-- CUE_CLEAR as a command. -/
def execCueClear (p : PortId) (tag ch scope : Byte) (s : State) : Answered :=
  .next (s.serve p tag 0x15 (cueClear p ch scope))

/-- The distance ahead of a fire time from `r`, 0 counted as the full day length (R32). -/
def distanceAhead (day r f : Nat) : Nat := if distance day r f = 0 then day else distance day r f

/-- The first slot of a list with the least key. -/
def leastBy (key : SlotIx → Nat) (list : List SlotIx) : Option SlotIx := (sortBy key list).head?

/-- The channel's next timed cue (R32): the first late-marked one, or else the one of least distance
ahead of the scan value, or of the clock value when there is none. -/
def State.nextTimed (s : State) (c : Channel) : Option SlotIx :=
  let k := (s.chan c).scheduler
  match k.timed.find? s.lateAt with
  | some i => some i
  | none =>
    let r := k.scan.getD (s.chan c).clock.value
    leastBy (fun i => distanceAhead (s.day c) r (s.fireTimeAt i)) k.timed

/-- CUE_SKIP_NEXT (R32). -/
def cueSkipNext (ch : Byte) (s : State) : State × Answer :=
  match readChannel ch with
  | none => (s, refuse .badParam)
  | some c =>
    match s.nextTimed c with
    | none => (s, refuse .noCue)
    | some i =>
      match s.cue i with
      | none => (s, refuse .noCue)
      | some k => (s.retire c i k .skipped, taken false (handleBytes (s.handle i)))

/-- CUE_SKIP_NEXT as a command. -/
def execCueSkipNext (p : PortId) (tag ch : Byte) (s : State) : Answered :=
  .next (s.serve p tag 0x14 (cueSkipNext ch))

/-! ## CUE_LIST_READ (R33) -/

/-- The cue state byte: PENDING, PENDING-LATE or WAITING (11.2). -/
def cueStateByte (k : Cue) : Byte :=
  match k.trigger with
  | .time _ => if k.late then 1 else 0
  | .contact _ => 2

/-- The trigger of a cue summary: the fire time as a label, or the GPI and three bytes of 0. -/
def State.triggerBytes (s : State) (k : Cue) : List Byte :=
  match k.trigger with
  | .time f => labelBytes (s.label k.channel f)
  | .contact g => [byte1 g, 0, 0, 0]

/-- A cue summary of 12 bytes (11.4). -/
def State.summaryBytes (s : State) (i : SlotIx) : List Byte :=
  match s.cue i with
  | none => []
  | some k =>
    handleBytes (s.handle i)
      ++ [portByte k.origin, actionByte k.action, byte1 k.duration, presetByte? k.preset,
          byte1 k.lag]
      ++ s.triggerBytes k ++ [cueStateByte k]

/-- CUE_LIST_READ (R33): up to 5 summaries from the start position on. -/
def cueListRead (ch selector start : Byte) (s : State) : State × Answer :=
  match readChannel ch, readFlag selector with
  | some c, some contact =>
    let k := (s.chan c).scheduler
    let list := if contact then k.contact else k.timed
    let shown := (list.drop start.toNat).take 5
    (s, taken false (bytes2 list.length ++ [start, byte1 shown.length]
      ++ shown.flatMap s.summaryBytes))
  | _, _ => (s, refuse .badParam)

/-- CUE_LIST_READ as a command. -/
def execCueListRead (p : PortId) (tag ch selector start : Byte) (s : State) : Answered :=
  .next (s.serve p tag 0x13 (cueListRead ch selector start))

/-! ## Holds (R43, R44) -/

/-- A hold set put in place (R44): one that becomes non-empty from empty sets the resume flag, and one
that becomes empty without a report since clears it again, so that the next step is as the clock reports
it. -/
def Scheduler.setHold (k : Scheduler) (h : PortSet) : Scheduler :=
  if k.hold.isEmpty && !h.isEmpty then
    { k with hold := h, resume := true, reported := k.resume && k.reported }
  else if !k.hold.isEmpty && h.isEmpty then { k with hold := h, resume := k.resume && k.reported }
  else { k with hold := h }

/-- A report of the clock noted by a scheduler whose hold set is non-empty (R44). -/
def Scheduler.noteReport (k : Scheduler) : Scheduler :=
  { k with reported := k.reported || !k.hold.isEmpty }

/-- The hold set after HOLD (0), RELEASE (1) or RELEASE_ALL (2) from a port (R43). -/
def holdAfter (h : PortSet) (p : PortId) (action : Nat) : PortSet :=
  match action with
  | 0 => h.put p true
  | 1 => h.put p false
  | _ => PortSet.empty

/-- CUE_HOLD (R43). -/
def cueHold (p : PortId) (mask action : Byte) (s : State) : State × Answer :=
  match readMask mask with
  | none => (s, refuse .badParam)
  | some m =>
    if maskEmpty m ∨ 2 < action.toNat then (s, refuse .badParam)
    else if action.toNat = 2 ∧ (s.port p).supervisor = false then (s, refuse .notSupervisor)
    else
      (s.eachChannel fun c t =>
          if m.pick c then t.modScheduler c fun k => k.setHold (holdAfter k.hold p action.toNat)
          else t,
        taken false [])

/-- CUE_HOLD as a command. -/
def execCueHold (p : PortId) (tag mask action : Byte) (s : State) : Answered :=
  .next (s.serve p tag 0x16 (cueHold p mask action))

end Sys2Proof.Machine
end

