-- ==== Sys2Proof/Machine/Contacts.lean ====
section
/-! DEFINITION. Contact inputs and tally outputs (Chapter 9). -/

namespace Sys2Proof.Machine

open Sys2Proof

/-! ## Sampling and levels (R168, R169, R171) -/

/-- A contact input with one more sample taken (R168). -/
def Gpi.sample (x : Gpi) (v : Contact) : Gpi :=
  let stable := if v = x.sampled then min 16 (x.stable + 1) else 1
  { x with sampled := v, stable := stable,
           debounced := if x.debounce + 1 ≤ stable then v else x.debounced }

/-- The debounced level: true for active (R169). -/
def Gpi.level (x : Gpi) : Bool :=
  match x.polarity with
  | .activeClosed => decide (x.debounced = .closed)
  | .activeOpen => decide (x.debounced = .opened)

/-- The eight contact inputs. -/
def gpiIndices : List GpiIx := [0, 1, 2, 3, 4, 5, 6, 7]

/-- Whether some input of the mode has the channel in its mask and its level active (R171). -/
def State.contactLevel (s : State) (m : GpiMode) (c : Channel) : Bool :=
  gpiIndices.any fun g =>
    decide ((s.gpi g).mode = m) && (s.gpi g).mask.pick c && (s.gpi g).level

/-- Contact suppress and contact hold of a channel worked out again: the channel's contact hold flag
and the CONTACT member follow them (R55, R59, R171). -/
def State.takeContact (s : State) (c : Channel) : State :=
  (s.modChan c fun x => x.setWindow
    { x.window with contactHold := s.contactLevel .hold c }).setMember c .contact
      (s.contactLevel .suppress c)

/-- The levels of all four channels worked out again (R171). -/
def State.takeContacts (s : State) : State := s.eachChannel fun c t => t.takeContact c

/-- The channels of a mask in an order that begins with the channels of `first`. -/
def maskInOrder (m : Bank 4 Bool) (first : List Channel) : List Channel :=
  (firstOfKey id [] (first ++ Channel.all)).filter fun c => m.pick c

/-- The FIRE edge of an input in mode FIRE whose level has become active, one channel of the mask after
another (R170). -/
def State.fireEdges (s : State) (g : GpiIx) (edges : List Channel) : State :=
  if (s.gpi g).mode = .fire ∧ (s.gpi g).level then
    (maskInOrder (s.gpi g).mask edges).foldl (fun t c => t.fireEdge g c) s
  else s

/-- A contact input sampled: a change of its debounced state reaches the mode's consumers at once
(R168 to R171). -/
def State.sampleGpi (s : State) (g : GpiIx) (v : Contact) (edges : List Channel) : State :=
  let t := s.setGpi g ((s.gpi g).sample v)
  if ((s.gpi g).sample v).debounced = (s.gpi g).debounced then t
  else (t.fireEdges g edges).takeContacts

/-- DEBOUNCED_STATE_CHANGE (R168): the sample that completes the debounce; nothing for a sample that
does not change the debounced state. -/
def execDebouncedStateChange (g : GpiIx) (sample : Contact) (edges : List Channel) (s : State) :
    Answered :=
  if ((s.gpi g).sample sample).debounced = (s.gpi g).debounced then .next s
  else .next (s.sampleGpi g sample edges)

/-! ## GPI_BIND (R172) -/

/-- The contact state that is inactive under a polarity. -/
def inactiveContact : Polarity → Contact
  | .activeClosed => .opened
  | .activeOpen => .closed

/-- A binding replaced: a change of polarity starts sampling again from the inactive state. -/
def Gpi.bind (x : Gpi) (mode : GpiMode) (mask : Bank 4 Bool) (polarity : Polarity) (debounce : Nat) :
    Gpi :=
  let y := { x with
    mode := mode
    mask := if mode = .none then Bank.fill 4 false else mask
    polarity := polarity
    debounce := debounce }
  if polarity = x.polarity then y
  else { y with sampled := inactiveContact polarity, stable := 16,
                debounced := inactiveContact polarity }

/-- A GPI record as CONFIG_READ reports it, and GPI_BIND after the GPI number: mode, mask, polarity, debounce and debounced level. -/
def Gpi.bytes (x : Gpi) : List Byte :=
  [gpiModeByte x.mode, maskByte x.mask, polarityByte x.polarity, byte1 x.debounce,
    flagByte x.level]

/-- GPI_BIND (R172). No FIRE edge follows from it; the channel levels are worked out again, once. -/
def gpiBind (gpi mode mask polarity debounce : Byte) (s : State) : State × Answer :=
  match readGpi gpi, readGpiMode mode, readPolarity polarity, readMask mask with
  | some g, some m, some p, some k =>
    if m ≠ .none ∧ maskEmpty k then (s, refuse .badParam)
    else
      let x := (s.gpi g).bind m k p (min 15 debounce.toNat)
      ((s.setGpi g x).takeContacts, taken (decide (15 < debounce.toNat)) (byte1 g :: x.bytes))
  | _, _, _, _ => (s, refuse .badParam)

/-- GPI_BIND as a command. -/
def execGpiBind (p : PortId) (tag gpi mode mask polarity debounce : Byte) (s : State) : Answered :=
  .next (s.serveSupervisor p tag 0x39 (gpiBind gpi mode mask polarity debounce))

/-! ## Tally outputs (R174 to R176) -/

/-- The opacity a tally is set from: the one latched for the period in progress, and 0 where that is a relock
period (R174, R176); that the last relock period lasts until the next period start is DEDUCED
(notes/assumptions/15.md). -/
def State.tallyOpacity (s : State) (c : Channel) : Nat :=
  if s.timing.relockPeriod then 0 else (s.chan c).latches.geometry.opacity

/-- Whether an output flashes, given the opacity and the signer's availability (R175). -/
def Tally.flashes (x : Tally) (opacity : Nat) (available : Bool) : Bool :=
  decide (x.mode = .onAirFlash) && decide (0 < opacity) && !available

/-- Whether the next advance of a flashing output changes its phase in mid flash (R175). -/
def Tally.phaseDue (x : Tally) : Bool :=
  decide (x.count ≠ 0) && decide ((if x.phaseOn then x.onCount else x.offCount) ≤ x.count)

/-- The flash state of an output that flashes in this period, advanced (R175). -/
def Tally.advanceFlash (x : Tally) : Tally :=
  if x.count = 0 then { x with phaseOn := true, count := 1 }
  else if x.phaseDue then { x with phaseOn := !x.phaseOn, count := 1 }
  else { x with count := x.count + 1 }

/-- A tally output set for a period (R174, R175). -/
def Tally.set (x : Tally) (opacity : Nat) (available : Bool) : Tally :=
  if x.flashes opacity available then { x.advanceFlash with active := x.advanceFlash.phaseOn }
  else
    { x with phaseOn := true, count := 0,
             active := decide (x.mode ≠ .off) && decide (0 < opacity) }

/-- A tally output set from its channel as it stands (R174). -/
def State.updateTally (s : State) (t : TallyIx) : State :=
  let x := s.tally t
  s.setTally t (x.set (s.tallyOpacity x.channel) (s.chan x.channel).sync.lock.available)

/-- The four tally outputs. -/
def tallyIndices : List TallyIx := [0, 1, 2, 3]

/-- The tally outputs that name a channel, set for the period (R174). -/
def State.updateTallies (s : State) (c : Channel) : State :=
  (tallyIndices.filter fun t => (s.tally t).channel = c).foldl (fun u t => u.updateTally t) s

/-- Whether the next advance of a tally's flash state changes its phase (R175). -/
def State.flashDue (s : State) (t : TallyIx) : Bool :=
  let x := s.tally t
  x.flashes (s.tallyOpacity x.channel) (s.chan x.channel).sync.lock.available && x.phaseDue

/-- FLASH_PHASE_CHANGE (R175): the advance that turns the phase; nothing when the next does not. -/
def execFlashPhaseChange (t : TallyIx) (s : State) : Answered :=
  if s.flashDue t then .next (s.updateTally t) else .next s

/-- A tally record as CONFIG_READ reports it, and TALLY_SET after the tally number: channel, mode, A, B and output. -/
def Tally.bytes (x : Tally) : List Byte :=
  [channelByte x.channel, tallyModeByte x.mode, byte1 x.onCount, byte1 x.offCount,
    flagByte x.active]

/-- TALLY_SET (R176). -/
def tallySet (tally ch mode onCount offCount : Byte) (s : State) : State × Answer :=
  match readTally tally, readChannel ch, readTallyMode mode with
  | some t, some c, some m =>
    let a := clampTo 1 250 onCount.toNat
    let b := clampTo 1 250 offCount.toNat
    let u := (s.setTally t
      { s.tally t with
        channel := c
        mode := m
        onCount := a
        offCount := b
        phaseOn := true
        count := 0 }).updateTally t
    (u, taken (decide (a ≠ onCount.toNat) || decide (b ≠ offCount.toNat))
      (byte1 t :: (u.tally t).bytes))
  | _, _, _ => (s, refuse .badParam)

/-- TALLY_SET as a command. -/
def execTallySet (p : PortId) (tag tally ch mode onCount offCount : Byte) (s : State) : Answered :=
  .next (s.serveSupervisor p tag 0x3A (tallySet tally ch mode onCount offCount))

end Sys2Proof.Machine
end

