-- ==== Sys2Proof/Machine/Timing.lean ====
section
/-! DEFINITION. Station timing and the cue clocks (Chapter 1): the reference, the output frame start and all
it drives, the relock, and CLOCK_PRESET. -/

namespace Sys2Proof.Machine

open Sys2Proof

/-! ## The station reference (R2, R3) -/

/-- The reference lost: FREE, its count of good intervals restarted, and the output frame in progress
no longer to be extended; blanking that has begun lasts until the next period starts (R2, R3). -/
def Timing.free (t : Timing) : Timing :=
  { t with reference := .free, goodIntervals := 0, extending := false }

/-- A good reference interval while FREE: the second in a row locks the reference, and the output frame
in progress is extended to the next reference frame start (R2, R3). -/
def Timing.countGood (t : Timing) : Timing :=
  if 2 ≤ t.goodIntervals + 1 then
    { t with reference := .locked, goodIntervals := t.goodIntervals + 1, extending := true }
  else { t with goodIntervals := t.goodIntervals + 1 }

/-- The reference judged at a reference frame start (R2); the first one after a reset has no interval
to be judged by. -/
def Timing.judge (t : Timing) (now : Nat) : Timing :=
  let good := (t.lastReference.map fun last =>
    within (frameInterval t.format) (referenceTolerance t.format) (now - last)).getD false
  let u := { t with lastReference := some now }
  match t.reference, good with
  | .locked, true => u
  | .locked, false => u.free
  | .free, true => u.countGood
  | .free, false => { u with goodIntervals := 0 }

/-- The timing unit moved on; a change of reference state posts REFERENCE_CHANGE (R2, R6). -/
def State.setReference (s : State) (t : Timing) : State :=
  if t.reference = s.timing.reference then s.setTiming t
  else (s.setTiming t).postAll .referenceChange

/-- REFERENCE_FRAME_START (R2). -/
def execReferenceFrameStart (now : Nat) (s : State) : Answered :=
  .next (s.setReference (s.timing.judge now))

/-- REFERENCE_TIMEOUT (R2): the reference is FREE at once; nothing when it already is. -/
def execReferenceTimeout (s : State) : Answered :=
  if s.timing.reference = .locked then .next (s.setReference s.timing.free) else .next s

/-- Where the timing unit places the next output frame start (R3). -/
inductive Placement where
  /-- At the next reference frame start. -/
  | atReference
  /-- At the first reference frame start not before this reading of the measurement clock. -/
  | atReferenceFrom (n : Nat)
  /-- At this reading of the measurement clock. -/
  | atReading (n : Nat)
  /-- At once: no frame start of the present timing has been taken. -/
  | atOnce
deriving DecidableEq, Repr

/-- The place of the next output frame start: at a reference frame start while LOCKED, the frame in
progress when the reference locked being completed at its full length first; and one nominal frame
interval after the last one while FREE (R3). -/
def Timing.placement (t : Timing) : Placement :=
  match t.reference, t.lastFrameStart with
  | .locked, none => .atReference
  | .locked, some last =>
    if t.extending then .atReferenceFrom (last + frameInterval t.format) else .atReference
  | .free, none => .atOnce
  | .free, some last => .atReading (last + frameInterval t.format)

/-- Whether the output frame in progress has had both its periods and is being extended, so that no
period starts until the next output frame start (R3; notes/assumptions/32.md). -/
def Timing.extended (t : Timing) : Bool :=
  !t.firstPeriodDue && (t.blanking || (t.extending && t.secondPeriod))

/-- Whether every output is black without ancillary data: in a relock period (R4), and in the blanking
that extends a frame (R3). -/
def Timing.dark (t : Timing) : Bool := t.relockPeriod || t.blanking

/-! ## The cue clock (R13 to R18) -/

/-- A frame number `n` further on, modulo the day length. -/
def later (day v n : Nat) : Nat := (v + n) % day

/-- An EMBEDDED clock at a frame with a valid label of frame number `v` (R13). -/
def CueClock.labelled (k : CueClock) (v : Nat) : CueClock :=
  { k with value := v, status := .valid, freewheelCount := 0, lastValid := some v }

/-- An EMBEDDED clock made INVALID by want of a label: value and count held (R14). -/
def CueClock.expire (k : CueClock) : CueClock := { k with status := .invalid }

/-- An EMBEDDED clock that freewheels one frame on, with its count as given (R14). -/
def CueClock.freewheel (k : CueClock) (day count : Nat) : CueClock :=
  { k with value := later day k.value 1, status := .freewheel, freewheelCount := count
           lastValid := some (later day k.value 1) }

/-- An EMBEDDED clock at a frame without a valid label (R14). -/
def CueClock.unlabelled (k : CueClock) (day : Nat) : CueClock :=
  match k.status with
  | .valid => if 0 < k.freewheelLimit then k.freewheel day 1 else k.expire
  | .freewheel =>
    if k.freewheelCount < k.freewheelLimit then k.freewheel day (k.freewheelCount + 1) else k.expire
  | .invalid => k

/-- How far an INTERNAL clock advances with a frame of the kind (R15). -/
def FrameKind.advance : FrameKind → Nat
  | .ordinary => 1
  | .repeated => 0
  | .afterDrop => 2

/-- An INTERNAL clock that takes its pending preset `p` (R15). -/
def CueClock.preset (k : CueClock) (p : Nat) : CueClock :=
  { k with value := p, lastValid := some p, pendingPreset := none }

/-- An INTERNAL clock advanced with a frame (R15). -/
def CueClock.run (k : CueClock) (day : Nat) (kind : FrameKind) : CueClock :=
  { k with value := later day k.value kind.advance
           lastValid := some (later day k.value kind.advance) }

/-- The frame number of the label that a delayed frame carries in its first period, when it has a label
that R8 takes (R13). -/
def embeddedLabel (f : Format) (m : DropMode) (frame : ProgrammeFrame) : Option Nat :=
  match frame.first.anc.timecode with
  | none => none
  | some l => if labelValid f m l then some (frameNumber f m l) else none

/-- The cue clock after the update of an ordinary output frame start (R13 to R15), given the delayed
frame and its kind. -/
def CueClock.update (k : CueClock) (f : Format) (frame : ProgrammeFrame) (kind : FrameKind) :
    CueClock :=
  match k.source with
  | .internal =>
    match k.pendingPreset with
    | some p => k.preset p
    | none => k.run (dayLength f k.dropMode) kind
  | .embedded =>
    match embeddedLabel f k.dropMode frame with
    | some v => k.labelled v
    | none => k.unlabelled (dayLength f k.dropMode)

/-- Whether an update's report is an advance of distance 1 whatever the distance: a preset taking effect
(R15), or no last valid value to measure from (R13). -/
def CueClock.setsOne (k : CueClock) : Bool :=
  (decide (k.source = .internal) && k.pendingPreset.isSome) || k.lastValid.isNone

/-- The step report of a clock whose update led from `old` to `new` (R17). -/
def stepReport (f : Format) (old new : CueClock) : StepReport :=
  if new.status = .invalid then { status := .invalid, value := 0, distance := 0, kind := .repeated }
  else if old.setsOne then
    { status := new.status, value := new.value, distance := 1, kind := .advance }
  else
    let d := distance (dayLength f new.dropMode) (old.lastValid.getD 0) new.value
    { status := new.status, value := new.value, distance := d, kind := stepKind f new.dropMode d }

/-- Whether a report is a jump that posts CLOCK_CHANGE: any but the forward jump of 2 after a dropped
frame (R18). -/
def StepReport.posts (r : StepReport) (kind : FrameKind) : Bool :=
  decide (r.status ≠ .invalid) &&
    match r.kind with
    | .repeated | .advance => false
    | .backward => true
    | .forward => !(decide (r.distance = 2) && decide (kind = .afterDrop))

/-- Whether an update posts CLOCK_CHANGE (R18). -/
def clockChanged (old new : CueClock) (r : StepReport) (kind : FrameKind) : Bool :=
  decide (old.status ≠ new.status) || r.posts kind
    || (old.pendingPreset.isSome && new.pendingPreset.isNone)

/-- A clock that has been updated, with its report kept for its two receivers and noted by a held
scheduler (R44), and CLOCK_CHANGE posted where R18 says. -/
def State.reportClock (s : State) (c : Channel) (new : CueClock) (kind : FrameKind) : State :=
  let old := (s.chan c).clock
  let r := stepReport s.format old new
  let t := s.modChan c fun x =>
    ((x.setClock new).setReport (some r)).setScheduler x.scheduler.noteReport
  if clockChanged old new r kind then t.postAll (.channel .clockChange c) else t

/-- The cue clock's part of an output frame start: an update and a report in an ordinary frame, and
neither in a relock frame (R4, R13). -/
def State.updateClock (s : State) (c : Channel) : State :=
  let x := s.chan c
  if s.timing.relocking then s.modChan c fun y => y.setReport none
  else s.reportClock c (x.clock.update s.format x.delay.delayed x.delay.kind) x.delay.kind

/-- The report of the output frame in progress taken by the scheduler (R36). -/
def State.reportCues (s : State) (c : Channel) : State :=
  match (s.chan c).report with
  | none => s
  | some r => s.scheduleCues c r

/-- The report of the output frame in progress taken by the span matcher (R64). -/
def State.reportSpans (s : State) (c : Channel) : State :=
  match (s.chan c).report with
  | none => s
  | some r => s.matchSpans c r

/-- A report taken by its two receivers, in the order given (R76). -/
def State.deliverReport (s : State) (c : Channel) (order : ReportOrder) : State :=
  match order with
  | .cuesFirst => (s.reportCues c).reportSpans c
  | .spansFirst => (s.reportSpans c).reportCues c

/-! ## The output frame start (R1, R4) -/

/-- The relock at an output frame start (R4): with the relock count above 0 the frame is a relock frame
and the count goes down by 1; at 0 the frame is ordinary. -/
def Timing.relockStep (t : Timing) : Timing :=
  if 0 < t.relockCount then { t with relocking := true, relockCount := t.relockCount - 1 }
  else { t with relocking := false }

/-- Whether an output frame start begins the first ordinary frame after a relock (R4). -/
def Timing.relockEnds (t : Timing) : Bool := t.relocking && decide (t.relockCount = 0)

/-- The relock's part of an output frame start: REFERENCE_CHANGE is posted where the relock ends
(R4, R6). -/
def State.relock (s : State) : State :=
  let t := s.setTiming s.timing.relockStep
  if s.timing.relockEnds then t.postAll .referenceChange else t

/-- The output frame begun at a reading of the measurement clock (R1, R3): its first period is due, and what
the outputs carry changes with that period's start. -/
def Timing.begin (t : Timing) (now : Nat) : Timing :=
  { t with lastFrameStart := some now, extending := false
           frameInProgress := true, firstPeriodDue := true }

/-- What a part of an output frame start waits for: a report is taken once the delay line has read and
the clock has been updated. -/
def FrameTask.withBefore : FrameTask → List FrameTask
  | .delay c => [.delay c]
  | .cues c => [.delay c, .cues c]
  | .spans c => [.delay c, .spans c]

/-- Every part of an output frame start, channel by channel. -/
def frameTasks : List FrameTask :=
  Channel.all.flatMap fun c => [.delay c, .cues c, .spans c]

/-- The parts of an output frame start, each once, in an order that follows `order` (R76, R144). -/
def frameOrder (order : List FrameTask) : List FrameTask :=
  firstOfKey id [] ((order ++ frameTasks).flatMap FrameTask.withBefore)

/-- One part of an output frame start. -/
def State.frameTask (inputs : Bank 4 (List InputFrame)) (s : State) : FrameTask → State
  | .delay c => (s.delayFrame c (inputs.pick c)).updateClock c
  | .cues c => s.reportCues c
  | .spans c => s.reportSpans c

/-- OUTPUT_FRAME_START (R1, R4, R13, R138): the relock's part, then every channel's parts; the frame is
then in progress. The frame's first PERIOD_START is a command of its own and follows, so a step report acts
before that period start's contact, signer and calibration parts (R76; notes/assumptions/6.md). -/
def execOutputFrameStart (now : Nat) (inputs : Bank 4 (List InputFrame)) (order : List FrameTask)
    (s : State) : Answered :=
  let t := (frameOrder order).foldl (State.frameTask inputs) s.relock
  .next (t.setTiming (t.timing.begin now))

/-- RELOCK_END (R4): the relock ends and REFERENCE_CHANGE is posted; the outputs leave black with the next
period. Nothing unless a relock frame is in progress with the count at 0. -/
def execRelockEnd (s : State) : Answered :=
  if s.timing.relockEnds then .next s.relock else .next s

/-- Whether an EMBEDDED clock in FREEWHEEL is at its limit, outside a relock frame (R14). -/
def State.freewheelSpent (s : State) (c : Channel) : Bool :=
  let k := (s.chan c).clock
  !s.timing.relocking && decide (k.source = .embedded) && decide (k.status = .freewheel)
    && decide (k.freewheelLimit ≤ k.freewheelCount)

/-- FREEWHEEL_EXPIRED (R14): a frame without a valid label finds the count at the limit, and the clock
becomes INVALID; nothing when the clock is not there. -/
def execFreewheelExpired (c : Channel) (s : State) : Answered :=
  if s.freewheelSpent c then
    .next (s.reportClock c (s.chan c).clock.expire (s.chan c).delay.kind)
  else .next s

/-- CLOCK_PRESET_APPLIED (R15): the pending preset of an INTERNAL clock takes effect, reported as an
advance to both receivers; nothing without one, or in a relock frame. -/
def execClockPresetApplied (c : Channel) (order : ReportOrder) (s : State) : Answered :=
  let k := (s.chan c).clock
  match k.source, k.pendingPreset, s.timing.relocking with
  | .internal, some p, false =>
    .next ((s.reportClock c (k.preset p) (s.chan c).delay.kind).deliverReport c order)
  | _, _, _ => .next s

/-! ## CLOCK_PRESET (R16) -/

/-- CLOCK_PRESET (R16). -/
def clockPreset (ch : Byte) (label : LabelBytes) (s : State) : State × Answer :=
  match readChannel ch with
  | none => (s, refuse .badParam)
  | some c =>
    match s.readLabel c label with
    | none => (s, refuse .badParam)
    | some n =>
      if (s.chan c).clock.source = .embedded then (s, refuse .notReady)
      else
        (s.modChan c fun x => x.setClock { x.clock with pendingPreset := some n }, taken false [])

/-- CLOCK_PRESET as a command. -/
def execClockPreset (p : PortId) (tag ch : Byte) (label : LabelBytes) (s : State) : Answered :=
  .next (s.serve p tag 0x33 (clockPreset ch label))

end Sys2Proof.Machine
end

