-- ==== Sys2Proof/Machine/Compositor.lean ====
section
/-! DEFINITION. What the outputs of a channel carry in the period in progress: the compositor's programme
out (Chapter 5) and the booth feed (R153, R154, R198). Outputs are read off State; they change none of
it. -/

namespace Sys2Proof.Machine

open Sys2Proof

/-! ## Samples -/

/-- The sample pair `i` of a line of a picture. -/
def pairAt (p : Picture) (line i : Nat) : Pair :=
  ((p.listed.find? fun e => e.1 = (line, i)).map (·.2)).getD p.base

/-- The luma sample of a column of a line. -/
def lumaAt (p : Picture) (line column : Nat) : Sample :=
  if column % 2 = 0 then (pairAt p line (column / 2)).y0 else (pairAt p line (column / 2)).y1

/-- A sample of a value. -/
def sampleOf (n : Nat) : Sample := BitVec.ofNat 10 n

/-- A sample pair of one colour. -/
def colourPair (c : Colour) : Pair :=
  { y0 := sampleOf c.y, y1 := sampleOf c.y, cb := sampleOf c.cb, cr := sampleOf c.cr }

/-- A pair scaled from a line of a source: its two luma samples are those of the columns given, its
chroma that of the pair holding the first of them (R103, R105). -/
def selectPair (p : Picture) (line column0 column1 : Nat) : Pair :=
  { y0 := lumaAt p line column0
    y1 := lumaAt p line column1
    cb := (pairAt p line (column0 / 2)).cb
    cr := (pairAt p line (column0 / 2)).cr }

/-- A sample brought into `lo`–`hi`. -/
def limitSample (lo hi : Nat) (x : Sample) : Sample := sampleOf (clampTo lo hi x.toNat)

/-- A pair brought into legal range (R107). -/
def limitPair (x : Pair) : Pair :=
  { y0 := limitSample 64 940 x.y0
    y1 := limitSample 64 940 x.y1
    cb := limitSample 64 960 x.cb
    cr := limitSample 64 960 x.cr }

/-! ## Regions and sources (R101 to R106) -/

/-- Whether a sample lies in a rectangle (R101). -/
def Rect.holds (r : Rect) (x y : Nat) : Bool :=
  decide (r.x ≤ x) && decide (x < r.x + r.w) && decide (r.y ≤ y) && decide (y < r.y + r.h)

/-- A place of an output offset in its source: the offset times a 16.16 step (R103). -/
def scaled (offset step : Nat) : Nat := offset * step / 65536

/-- The frame line that stands on a line of a period: in F1 and F2 the period's lines are those of its
parity, the second field's odd (R99). -/
def frameLine (f : Format) (second : Bool) (line : Nat) : Nat :=
  if interlaced f then 2 * line + (if second then 1 else 0) else line

/-- The line of the programme picture that a line of Peff is taken from: in F1 and F2 the field lines of
the period's own field (R104). -/
def programmeLine (f : Format) (g : PeriodGeometry) (y : Nat) : Nat :=
  if interlaced f then scaled (y / 2 - g.effective.y / 2) g.programmeStepY
  else scaled (y - g.effective.y) g.programmeStepY

/-- The frame line of the signer picture that a line of the inner rectangle is taken from: in F1 and F2
a line of the same parity (R106). -/
def signerLine (f : Format) (g : PeriodGeometry) (y : Nat) : Nat :=
  if interlaced f then
    2 * (g.layout.crop.y / 2 + scaled (y / 2 - g.inner.y / 2) g.stepY) + y % 2
  else g.layout.crop.y + scaled (y - g.inner.y) g.stepY

/-- The programme layer's pair at column `x` (even) and frame line `y`: scaled into Peff, with the fill
colour around it (R102 to R104). -/
def programmePair (f : Format) (g : PeriodGeometry) (p : Picture) (x y : Nat) : Pair :=
  if g.effective.holds x y then
    selectPair p (programmeLine f g y) (scaled (x - g.effective.x) g.programmeStepX)
      (scaled (x + 1 - g.effective.x) g.programmeStepX)
  else colourPair g.layout.fill

/-- The signer's pair at column `x` (even) and frame line `y` of the inner rectangle, in legal range
(R105 to R107). -/
def signerPair (f : Format) (g : PeriodGeometry) (p : Picture) (x y : Nat) : Pair :=
  limitPair (selectPair p (signerLine f g y)
    (g.layout.crop.x + scaled (x - g.inner.x) g.stepX)
    (g.layout.crop.x + scaled (x + 1 - g.inner.x) g.stepX))

/-! ## Key, alpha and mix (R108 to R110) -/

/-- The distance of two numbers. -/
def apart (a b : Nat) : Nat := (a - b) + (b - a)

/-- The key alpha of a pair with the key ON (R108). -/
def keyAlpha (l : Layout) (x : Pair) : Nat :=
  let d := apart x.cb.toNat l.kb + apart x.cr.toNat l.kr
  if d ≤ l.inner then 0
  else if d < l.outer then (d - l.inner) * 1024 / (l.outer - l.inner)
  else 1024

/-- The effective alpha of a key alpha at an opacity (R109). -/
def effectiveAlpha (opacity k : Nat) : Nat := (opacity * k + 512) / 1024

/-- One sample mixed and clamped; the quotient is floored (R110). -/
def mixSample (lo hi a : Nat) (p s : Sample) : Sample :=
  sampleOf (clampTo lo hi
    ((p.toNat : Int) + (((s.toNat : Int) - (p.toNat : Int)) * (a : Int) + 512) / 1024).toNat)

/-- A pair mixed into the programme layer (R110). -/
def mixPair (a : Nat) (p s : Pair) : Pair :=
  { y0 := mixSample 64 940 a p.y0 s.y0
    y1 := mixSample 64 940 a p.y1 s.y1
    cb := mixSample 64 960 a p.cb s.cb
    cr := mixSample 64 960 a p.cr s.cr }

/-- What the window layer shows at a pair, with its key alpha: the signer picture, keyed when the key is
ON, or the border colour in the border and in a backdrop (R108, R111, R112). -/
def windowPair (f : Format) (l : Latches) (signer : Picture) (x y : Nat) : Pair × Nat :=
  let g := l.geometry
  if g.inner.holds x y ∧ l.display = .picture then
    let s := signerPair f g signer x y
    (s, if g.layout.key then keyAlpha g.layout s else 1024)
  else (colourPair g.layout.borderColour, 1024)

/-- An output pair of a period from its latches and the signer picture they name, at column `x` (even)
and frame line `y`; `line` is the line of the period on which `y` stands (R100 to R102). -/
def composite (f : Format) (l : Latches) (signer : Picture) (x y line : Nat) : Pair :=
  let g := l.geometry
  if g.opacity = 0 then pairAt l.programme.picture line (x / 2)
  else
    let p := programmePair f g l.programme.picture x y
    if g.layout.window.holds x y then
      let s := windowPair f l signer x y
      mixPair (effectiveAlpha g.opacity s.2) p s.1
    else p

/-! ## Programme out (R98, R114, R115) -/

/-- The picture a slot of the signer ring shows (R113, R124). -/
def SlotContents.shown : SlotContents → Picture
  | .black => blackPicture
  | .picture p _ => p
  | .unfinished => Config.unfinishedPicture

/-- The sample pair of programme out at column `x` (even) of a line of the period in progress: black in
a relock period (R115), and in the blanking of an extended frame, whose level is PRESUMED to be that of black
(R3; notes/assumptions/32.md). -/
def State.programmeOut (s : State) (c : Channel) (line x : Nat) : Pair :=
  if s.timing.dark then blackPair
  else
    let l := (s.chan c).latches
    composite s.format l ((s.chan c).sync.ring.pick l.signer).shown x
      (frameLine s.format s.timing.secondPeriod line) line

/-- The ancillary data of programme out in the period in progress (R114, R115); blanking carries none
(R3; notes/assumptions/32.md). -/
def State.programmeAnc (s : State) (c : Channel) : AncData :=
  if s.timing.dark then noAnc else (s.chan c).latches.programme.anc

/-! ## The booth feed (R153, R154, R198) -/

/-- The part of a frame that a period carries (R99, R153). -/
def framePart (frame : ProgrammeFrame) (second : Bool) : PeriodPart :=
  if second then frame.second else frame.first

/-- The words that an item takes on a line of ancillary space. -/
def ancRoom : AncItem → Nat
  | .packet p => p.words.length + Config.packetFraming
  | .space n => n

/-- A line with every packet of the marker identifier pair left out, its space left empty (R154,
R198). -/
def removeMarkers (line : List AncItem) : List AncItem :=
  line.map fun i =>
    match i with
    | .packet p => if markerIdentified p then .space (ancRoom i) else i
    | .space _ => i

/-- A 10-bit ancillary word carrying an 8-bit value (R198). -/
def ancWord (n : Nat) : Sample := Config.upperBits n ++ BitVec.ofNat 8 n

/-- A marker packet of a channel and a sequence (R198). -/
def markerPacket (c : Channel) (seq : Nat) : Packet :=
  { words := [ancWord 0x51, ancWord 0x2E, ancWord 3, ancWord c, ancWord seq,
              ancWord (255 - (c + seq) % 256)] }

/-- A line whose empty space gives up `n` words, the first stretches first. -/
def takeSpace : Nat → List AncItem → List AncItem
  | _, [] => []
  | n, .space k :: rest =>
    if k ≤ n then takeSpace (n - k) rest else .space (k - n) :: rest
  | n, .packet p :: rest => .packet p :: takeSpace n rest

/-- The items of a line that fit in the room, and the packets that no longer do. The room is counted from the start
of the line over every item, a displaced packet included, so that once a packet is displaced every packet behind it
is too, also one that would fit in the room it leaves (DESIGN CHOICE: notes/assumptions/19.md). -/
def fitLine (room : Nat) : Nat → List AncItem → List AncItem × List Packet
  | _, [] => ([], [])
  | used, i :: rest =>
    let tail := fitLine room (used + ancRoom i) rest
    match i with
    | .space _ => (i :: tail.1, tail.2)
    | .packet p => if used + ancRoom i ≤ room then (i :: tail.1, tail.2) else (tail.1, p :: tail.2)

/-- A line up to its last packet. -/
def trimLine (line : List AncItem) : List AncItem :=
  (line.reverse.dropWhile fun i => match i with
    | .space _ => true
    | .packet _ => false).reverse

/-- The room a line's items take. -/
def lineUsed (line : List AncItem) : Nat := (line.map ancRoom).sum

/-- A packet put on the first line that has room for it, the lines numbered from `n`; left out when none
has (R198). Each displaced packet in its turn goes to the first later line with room, so a small one can
stand on an earlier line than a larger one before it (DESIGN CHOICE: notes/assumptions/19.md). -/
def placePacket (f : Format) (p : Packet) : Nat → List (List AncItem) → List (List AncItem)
  | _, [] => []
  | n, line :: rest =>
    if lineUsed (trimLine line) + ancRoom (.packet p) ≤ Config.lineRoom f n then
      (trimLine line ++ [.packet p]) :: rest
    else line :: placePacket f p (n + 1) rest

/-- A packet put ahead of the packets of the first line; those that no longer fit there move, in their
order, to the following lines that have room (R198): the order is read as that of placing (DESIGN CHOICE:
notes/assumptions/19.md). The packet put ahead stands on the first line whatever
room that has, as R198 says of a marker; that a first line shorter than the marker still carries it is the
model's choice (DESIGN CHOICE: notes/assumptions/19.md). -/
def insertAhead (f : Format) (p : Packet) (lines : List (List AncItem)) : List (List AncItem) :=
  match lines ++ List.replicate (Config.verticalLines f - lines.length) [] with
  | [] => []
  | line :: rest =>
    let fitted := fitLine (Config.lineRoom f 0) (ancRoom (.packet p))
      (takeSpace (ancRoom (.packet p)) line)
    (.packet p :: fitted.1) :: fitted.2.foldl (fun ls q => placePacket f q 1 ls) rest

/-- The ancillary data of the booth feed: the input's with its markers removed, and the channel's own
marker in a send period (R153, R154). -/
def boothAnc (f : Format) (c : Channel) (marker : Option Nat) (anc : AncData) : AncData :=
  let vertical := anc.vertical.map removeMarkers
  { vertical := match marker with
      | none => vertical
      | some seq => insertAhead f (markerPacket c seq) vertical
    horizontal := anc.horizontal.map removeMarkers
    timecode := anc.timecode }

/-- What the booth feed of a channel carries in the period in progress: the period's part, latched at its
start, of the frame written at age 0; or black without ancillary data in a relock period (R153) and in the
blanking of an extended frame (R3). A marker that falls due in a relock period is not carried (R4), though its
send period is recorded (DESIGN CHOICE: notes/assumptions/33.md). -/
def State.boothFeed (s : State) (c : Channel) : PeriodPart :=
  if s.timing.dark then blackPart
  else
    let part := (s.chan c).latches.booth
    { part with anc := boothAnc s.format c (s.chan c).calibration.inserting part.anc }

end Sys2Proof.Machine
end

