-- ==== Sys2Proof/Machine/Periods.lean ====
section
/-! DEFINITION. The period start (R1, R3, R77, R98, R113, R126, R153, R157, R168, R174): the latches and
the parts of the event. -/

namespace Sys2Proof.Machine

open Sys2Proof

/-- The inner display to be latched (R112). -/
def Synchroniser.display (x : Synchroniser) : InnerDisplay :=
  if x.lock.available = false ∧ x.policy = .backdrop then .backdrop else .picture

/-- What is latched from the window controller, the delay line and the synchroniser's state: the
compositor's part (R97 to R99, R112) and the booth feed's, of the frame written at age 0 (R153). The signer
picture reference is latched with the choice (R113). -/
def ChannelState.latch (x : ChannelState) (f : Format) (second : Bool) : ChannelState :=
  x.setLatches
    { x.latches with
      geometry := periodGeometry f x.window.geometry x.window.move x.window.opacity
      programme := framePart x.delay.delayed second
      booth := framePart (x.delay.frameAt 0) second
      display := x.sync.display }

/-- The window controller's advance of a channel, the latches of its compositor and the tallies that
name it (R77, R98, R174). -/
def State.windowPeriod (s : State) (c : Channel) : State :=
  (s.modChan c fun x =>
    (x.setWindow (x.window.advance x.presets)).latch s.format s.timing.secondPeriod).updateTallies c

/-- Every part of a period start. -/
def periodTasks : List PeriodTask :=
  (Channel.all.map fun c => .synchronise c .windowFirst) ++ (gpiIndices.map fun g => .contact g [])
    ++ Channel.all.map .calibrate ++ Channel.all.map .window

/-- What a part of a period start is about, by number: synchronisers 0–3, contacts 4–11, calibration
units 12–15 and window controllers 16–19. -/
def PeriodTask.key : PeriodTask → Nat
  | .synchronise c _ => c
  | .contact g _ => 4 + g
  | .calibrate c => 12 + c
  | .window c => 16 + c

/-- The parts of a period start, each once, in an order that begins with `order` (R57, R116, R175). -/
def periodOrder (order : List PeriodTask) : List PeriodTask :=
  firstOfKey PeriodTask.key [] (order ++ periodTasks)

/-- One part of a period start; `outputPicture` says whether it is an output picture start. -/
def State.periodTask (contacts : Bank 8 Contact) (outputPicture : Bool) (s : State) :
    PeriodTask → State
  | .synchronise c h => s.syncPeriod c outputPicture h
  | .contact g edges => s.sampleGpi g (contacts.pick g) edges
  | .calibrate c => s.countRun c
  | .window c => s.windowPeriod c

/-- Which period begins: the first of its frame when an output frame start has just been taken, and otherwise
the second (R1); a relock period in a relock frame (R4); and no blanking (R3). -/
def Timing.nextPeriod (t : Timing) : Timing :=
  { t with
    secondPeriod := !t.firstPeriodDue
    firstPeriodDue := false
    relockPeriod := t.relocking
    blanking := false }

/-- Whether a period start is an output picture start: every one in F3 to F6, and the first of each frame
in F1 and F2 (R118). -/
def Timing.outputPicture (t : Timing) : Bool := !interlaced t.format || !t.secondPeriod

/-- PERIOD_START (R1, R54, R57, R69, R77, R97, R98, R113, R123, R126, R157, R161, R168, R174, R175). In a
frame that has had both its periods and is being extended no period starts: its blanking begins, and no
block counts it (R3; notes/assumptions/32.md). Its parts follow all those of the OUTPUT_FRAME_START before
it (R76; notes/assumptions/6.md). -/
def execPeriodStart (contacts : Bank 8 Contact) (order : List PeriodTask) (s : State) : Answered :=
  if s.timing.extended then .next (s.setTiming { s.timing with blanking := true })
  else
    let t := s.setTiming s.timing.nextPeriod
    .next ((periodOrder order).foldl (State.periodTask contacts t.timing.outputPicture) t)

end Sys2Proof.Machine
end

