-- ==== Sys2Proof/Machine/ChannelConfig.lean ====
section
/-! DEFINITION. CHANNEL_CONFIG (R191): the eight fields applied in order, each as its owner's rule gives
(R12, R34, R35, R61, R67, R130, R148). -/

namespace Sys2Proof.Machine

open Sys2Proof

/-- The eight configuration fields of a channel, as stored. -/
structure Configuration where
  source : Source
  dropMode : DropMode
  freewheelLimit : Nat
  lateTolerance : Nat
  holdLimit : Nat
  policy : LossPolicy
  slewInterval : Nat
  fade : Nat
deriving DecidableEq, Repr

/-- The configuration fields as a channel holds them. -/
def ChannelState.configuration (x : ChannelState) : Configuration :=
  { source := x.clock.source
    dropMode := x.clock.dropMode
    freewheelLimit := x.clock.freewheelLimit
    lateTolerance := x.scheduler.lateTolerance
    holdLimit := x.sync.holdLimit
    policy := x.sync.policy
    slewInterval := x.delay.slewInterval
    fade := x.window.fade }

/-- The eight configuration bytes, in the order of R191. -/
def Configuration.bytes (k : Configuration) : List Byte :=
  [sourceByte k.source, dropModeByte k.dropMode, byte1 k.freewheelLimit, byte1 k.lateTolerance,
    byte1 k.holdLimit, policyByte k.policy, byte1 k.slewInterval, byte1 k.fade]

/-- The fields of a request as they are to be stored; none for a value the request does not define. -/
def readConfiguration (f : ConfigFields) : Option Configuration :=
  match readSource f.source, readDropMode f.dropMode, readPolicy f.lossPolicy with
  | some source, some mode, some policy =>
    some { source := source
           dropMode := mode
           freewheelLimit := min 250 f.freewheelLimit.toNat
           lateTolerance := min 250 f.lateTolerance.toNat
           holdLimit := clampTo 1 250 f.holdLimit.toNat
           policy := policy
           slewInterval := clampTo 1 250 f.slewInterval.toNat
           fade := min 250 f.fade.toNat }
  | _, _, _ => none

/-- Whether a field is stored other than as written. -/
def configurationClamped (f : ConfigFields) : Bool :=
  decide (250 < f.freewheelLimit.toNat) || decide (250 < f.lateTolerance.toNat)
    || decide (clampTo 1 250 f.holdLimit.toNat ≠ f.holdLimit.toNat)
    || decide (clampTo 1 250 f.slewInterval.toNat ≠ f.slewInterval.toNat)
    || decide (250 < f.fade.toNat)

/-! ## Timecode source (R12) -/

/-- A clock whose source changes (R12). -/
def CueClock.changeSource (k : CueClock) (source : Source) : CueClock :=
  match source with
  | .internal =>
    { k with
      source := .internal
      value := k.lastValid.getD 0
      lastValid := some (k.lastValid.getD 0)
      status := .valid
      freewheelCount := 0
      pendingPreset := none }
  | .embedded =>
    { k with source := .embedded, status := .valid, freewheelCount := 0, pendingPreset := none }

/-- The source written (R12, R18). -/
def State.setSource (s : State) (c : Channel) (source : Source) : State :=
  if (s.chan c).clock.source = source then s
  else
    (s.modChan c fun x => x.setClock (x.clock.changeSource source)).postAll
      (.channel .clockChange c)

/-! ## Drop mode (R12, R34, R67) -/

/-- A clock whose drop mode changes in a 29.97 frame/s format, given the new day length (R12). -/
def CueClock.changeDropMode (k : CueClock) (mode : DropMode) (day : Nat) : CueClock :=
  match k.source with
  | .embedded =>
    { k with
      dropMode := mode
      status := .invalid
      value := 0
      freewheelCount := 0
      lastValid := none
      pendingPreset := none }
  | .internal =>
    { k with
      dropMode := mode
      value := k.value % day
      lastValid := k.lastValid.map (· % day)
      pendingPreset := k.pendingPreset.map (· % day) }

/-- The fire time of the cue in a slot converted, its label kept (R34). -/
def State.convertCue (s : State) (old new : DropMode) (i : SlotIx) : State :=
  match s.cue i with
  | none => s
  | some k =>
    match k.trigger with
    | .contact _ => s
    | .time f =>
      s.setSlot i { s.slot i with
        cue := some { k with trigger := .time (convertNumber s.format old new f) } }

/-- The timed cues of a channel converted, their list put in order of the new fire times, and the scan
value cleared or reduced (R34). -/
def State.convertCues (s : State) (c : Channel) (old new : DropMode) : State :=
  let t := (s.chan c).scheduler.timed.foldl (fun u i => u.convertCue old new i) s
  t.modScheduler c fun k =>
    { k with
      timed := sortBy t.fireTimeAt k.timed
      scan := if (s.chan c).clock.source = .embedded then none
        else k.scan.map (· % dayLength s.format new) }

/-- A span converted, its labels kept (R67). -/
def Span.convert (x : Span) (f : Format) (old new : DropMode) : Span :=
  { x with start := convertNumber f old new x.start, stop := convertNumber f old new x.stop }

/-- The spans of a channel converted; the span result is computed at once for an INTERNAL clock, whose
value has been reduced already, and kept for an EMBEDDED one (R67). -/
def State.convertSpans (s : State) (c : Channel) (old new : DropMode) : State :=
  let t := s.modChan c fun x => x.setWindow
    { x.window with spans := x.window.spans.map fun y => y.convert s.format old new }
  if (s.chan c).clock.source = .embedded then t
  else t.setSpanResult c ((t.chan c).window.spanTest (t.chan c).clock.value)

/-- The clock's part of a drop mode change in a 29.97 frame/s format; a change of clock state posts
CLOCK_CHANGE (R12, R18). -/
def State.changeDropMode (s : State) (c : Channel) (mode : DropMode) : State :=
  let k := (s.chan c).clock
  let new := k.changeDropMode mode (dayLength s.format mode)
  let t := s.modChan c fun x => x.setClock new
  if k.status = new.status then t else t.postAll (.channel .clockChange c)

/-- The drop mode written (R12, R34, R67). -/
def State.setDropMode (s : State) (c : Channel) (mode : DropMode) : State :=
  let old := s.dropMode c
  if old = mode then s
  else if fractional s.format then
    ((s.convertCues c old mode).changeDropMode c mode).convertSpans c old mode
  else s.modChan c fun x => x.setClock { x.clock with dropMode := mode }

/-! ## Loss policy (R130) -/

/-- The SIGNER level after a change of the loss policy (R130). -/
def Synchroniser.levelUnder (x : Synchroniser) (policy : LossPolicy) : Bool :=
  match x.policy, policy with
  | .withdraw, .freeze | .withdraw, .backdrop => false
  | .freeze, .withdraw | .backdrop, .withdraw =>
    x.level || decide (x.lock = .lost) || decide (x.lock = .mismatch)
  | _, _ => x.level

/-- The loss policy written (R130). -/
def State.setPolicy (s : State) (c : Channel) (policy : LossPolicy) : State :=
  (s.modChan c fun x => x.setSync { x.sync with policy := policy }).setLevel c
    ((s.chan c).sync.levelUnder policy)

/-! ## The request (R191) -/

/-- The eight fields applied in the order of R191. -/
def State.configure (s : State) (c : Channel) (k : Configuration) : State :=
  let t := (s.setSource c k.source).setDropMode c k.dropMode
  let u := t.modChan c fun x =>
    ((x.setClock { x.clock with freewheelLimit := k.freewheelLimit }).setScheduler
      { x.scheduler with lateTolerance := k.lateTolerance }).setSync
      { x.sync with holdLimit := k.holdLimit }
  (u.setPolicy c k.policy).modChan c fun x =>
    (x.setDelay { x.delay with slewInterval := k.slewInterval }).setWindow
      { x.window with fade := k.fade }

/-- CHANNEL_CONFIG (R191). -/
def channelConfig (ch : Byte) (f : ConfigFields) (s : State) : State × Answer :=
  match readChannel ch, readConfiguration f with
  | some c, some k => (s.configure c k, taken (configurationClamped f) k.bytes)
  | _, _ => (s, refuse .badParam)

/-- CHANNEL_CONFIG as a command. -/
def execChannelConfig (p : PortId) (tag ch : Byte) (f : ConfigFields) (s : State) : Answered :=
  .next (s.serveSupervisor p tag 0x38 (channelConfig ch f))

end Sys2Proof.Machine
end

