-- ==== Sys2Proof/Machine/Resets.lean ====
section
/-! DEFINITION. The resets: power-on reset, CHANNEL_RESET, FORMAT_SET and DEVICE_RESET (R5, R7, R19, R51,
R79, R80, R91, R117, R135, R152, R163, R167, R178, R192 to R195). -/

namespace Sys2Proof.Machine

open Sys2Proof

/-- A signal already present when a reset ends is reported as signal up at once after it (R119). -/
def State.resumeSignals (s : State) (present : Channel → Bool) : State :=
  s.eachChannel fun c t => if present c then t.signalUp c else t

/-! ## Power-on reset -/

/-- The link receivers' streams as they stand, put into another state. -/
def State.keepSignals (s t : State) : State :=
  { t with channels := Vector.zipWith (fun x y =>
      x.setSync { x.sync with signal := y.sync.signal }) t.channels s.channels }

/-- POWER_ON_RESET (R7): the state under the straps read at the release of RESET; the commands that wait
stay. -/
def execPowerOnReset (straps : Straps) (s : State) : Answered :=
  .next (((s.keepSignals (State.powerOn straps)).setPending s.pending).resumeSignals
    fun c => (s.chan c).sync.signal)

/-! ## CHANNEL_RESET (R192) -/

/-- The cues of a channel freed, without a record; the generations stay (R51). -/
def State.freeCues (s : State) (c : Channel) : State :=
  { s with cues := s.cues.map fun x =>
      if (x.cue.map (·.channel)) = some c then { x with cue := none } else x }

/-- The window record after a channel reset: CONTACT, contact hold and SIGNER are taken again where their
conditions hold (R79, R80). -/
def State.windowAfterReset (s : State) (c : Channel) : Window :=
  let x := s.chan c
  { resetWindow (x.presets.pick 0) x.window.fade with
    suppression := { Suppression.empty with
      contact := s.contactLevel .suppress c
      signer := x.sync.level }
    contactHold := s.contactLevel .hold c }

/-- The delay line after a channel reset, `free` counting the slots it has just released (R152). -/
def DelayLine.channelReset (d : DelayLine) (latency free : Nat) : DelayLine :=
  let r := requestedTarget latency 0
  let a := if r + 1 ≤ free then r else free - 1
  { d with
    actual := a
    target := a
    requested := r
    lag := 0
    held := a + 1
    ring := resizeRing (a + 1) d.ring
    slewCount := 0 }

/-- The delay line and the pool at a channel reset (R152). -/
def State.resetChannelDelay (s : State) (c : Channel) : State :=
  let d := (s.chan c).delay
  let e := d.channelReset (s.chan c).calibration.latency (s.free + d.held)
  (s.modChan c fun x => x.setDelay e).setFree (s.free + d.held - e.held)

/-- A running calibration aborted (R163). -/
def State.abortRun (s : State) (c : Channel) : State :=
  if (s.chan c).calibration.running then
    (s.modChan c fun x => x.setCalibration (x.calibration.finish .aborted)).postDone c
  else s

/-- A scheduler after a channel reset: the scan value and the late tolerance stay (R51). -/
def Scheduler.channelReset (k : Scheduler) : Scheduler :=
  { resetScheduler k.lateTolerance with scan := k.scan }

/-- A channel reset (R192): the channel's latches first, then its blocks, then the abort of a run. -/
def State.resetOne (s : State) (c : Channel) : State :=
  let t := (s.clearLatches c).freeCues c
  let u := t.modChan c fun x =>
    ((x.setScheduler x.scheduler.channelReset).setWindow (t.windowAfterReset c)).setSync
      { x.sync with repeats := 0, drops := 0 }
  (u.resetChannelDelay c).abortRun c

/-- CHANNEL_RESET (R192). -/
def channelReset (ch : Byte) (s : State) : State × Answer :=
  match readChannel ch with
  | none => (s, refuse .badParam)
  | some c => (s.resetOne c, taken false [])

/-- CHANNEL_RESET as a command. -/
def execChannelReset (p : PortId) (tag ch : Byte) (s : State) : Answered :=
  .next (s.serveSupervisor p tag 0x3C (channelReset ch))

/-! ## FORMAT_SET (R5, R193) -/

/-- A cue clock at FORMAT_SET (R19). -/
def CueClock.formatSet (k : CueClock) : CueClock :=
  match k.source with
  | .embedded =>
    { k with status := .invalid, value := 0, freewheelCount := 0, lastValid := none
             pendingPreset := none }
  | .internal =>
    { k with status := .valid, value := 0, freewheelCount := 0, lastValid := some 0
             pendingPreset := none }

/-- A preset store at a FORMAT_SET from one format to another: the defaults of the new raster when its
size changes, and otherwise every record refitted, its last writer kept (R91). -/
def presetsAfterFormat (old new : Format) (presets : Bank 8 Preset) : Bank 8 Preset :=
  if height old ≠ height new then defaultPresets new
  else presets.map fun p => { p with layout := fitLayout new p.layout }

/-- The latches at a reset that blackens the signer ring. The signer picture reference names slot 0, the current
slot, black as the slot it named now is too, so no output sample changes (R98, R117, R135); the slot read is thus
never the write slot (R113, R124; DEDUCED: notes/assumptions/22.md). -/
def Latches.ringReset (l : Latches) : Latches := { l with signer := 0 }

/-- A channel that has had its channel reset, taken to its FORMAT_SET values (R5, R19, R51, R79, R91,
R135, R152, R167). That no step report is then kept, and that the delayed frame is black and its kind
ordinary, is the model's choice: the manual gives none of the three a value (DESIGN CHOICE:
notes/assumptions/24.md). -/
def ChannelState.formatSet (x : ChannelState) (old new : Format) : ChannelState :=
  let presets := presetsAfterFormat old new x.presets
  { x with
    clock := x.clock.formatSet
    report := none
    scheduler := { x.scheduler with scan := none }
    presets := presets
    window := { x.window with
      geometry := (presets.pick 0).layout
      suppression := { x.window.suppression with signer := false } }
    sync := resetSync x.sync.holdLimit x.sync.policy x.sync.signal
    delay := resetDelay x.delay.slewInterval
    calibration := { x.calibration with latency := 8, lastMeasured := none }
    latches := x.latches.ringReset }

/-- The timing unit at a FORMAT_SET (R1, R5, R7): the frame in progress ends, so the outputs are black at
once. -/
def Timing.formatSet (t : Timing) (f : Format) : Timing :=
  { t with
    format := f
    reference := .free
    goodIntervals := 0
    lastReference := none
    relockCount := 8
    relocking := true
    relockPeriod := true
    lastFrameStart := none
    extending := false
    blanking := false
    firstPeriodDue := true
    secondPeriod := false }

/-- The format put in force: timing, channels and pool (R5). -/
def State.putFormat (s : State) (f : Format) : State :=
  { s with
    timing := s.timing.formatSet f
    channels := s.channels.map fun x => x.formatSet s.format f
    free := resetFree }

/-- FORMAT_SET taken: every channel reset, CLOCK_CHANGE where a clock's state changes, REFERENCE_CHANGE,
and then signal up where a stream is present (R5, R119, R193). -/
def State.setFormat (s : State) (f : Format) : State :=
  let t := (s.eachChannel fun c u => u.resetOne c).putFormat f
  let u := t.eachChannel fun c v =>
    if (s.chan c).clock.status = (t.chan c).clock.status then v
    else v.postAll (.channel .clockChange c)
  (u.postAll .referenceChange).resumeSignals fun c => (s.chan c).sync.signal

/-- FORMAT_SET (R5). -/
def formatSet (format : Byte) (s : State) : State × Answer :=
  match readFormat format with
  | none => (s, refuse .badParam)
  | some f => (s.setFormat f, taken false [])

/-- FORMAT_SET as a command. -/
def execFormatSet (p : PortId) (tag format : Byte) (s : State) : Answered :=
  .next (s.serveSupervisor p tag 0x3B (formatSet format))

/-! ## DEVICE_RESET (R194) -/

/-- A control port at a DEVICE_RESET (R194): supervisor flag and the line's condition stay. -/
def Port.deviceReset (x : Port) : Port :=
  { x with
    receiver := match x.receiver with
      | .receiving _ => .discarding
      | .idle => .idle
      | .discarding => .discarding
    abandoned := 0
    queue := []
    sending := false
    mask := 0
    latches := Bank.fill 26 false }

/-- The timing unit at a DEVICE_RESET: the output timing continues, and a relock begins (R4, R7). The period
in progress goes on as it was latched (R79, R98), and every later one is black (R117;
notes/assumptions/15.md). -/
def Timing.deviceReset (t : Timing) : Timing :=
  { t with
    reference := .free
    goodIntervals := 0
    lastReference := none
    relockCount := 8
    relocking := true
    extending := false }

/-- A channel at a DEVICE_RESET: the compositor's latches, with the reference to the black ring, and a marker in the
booth feed, stand until the next period start takes them anew (R117; notes/assumptions/15.md and 22.md), and the link receiver keeps its stream. -/
def ChannelState.deviceReset (x : ChannelState) (f : Format) : ChannelState :=
  { resetChannel f with
    sync := resetSync 10 .withdraw x.sync.signal
    calibration := { resetCalibration with inserting := x.calibration.inserting }
    latches := x.latches.ringReset }

/-- A slot of the cue pool freed, its generation kept (R51). -/
def CueSlot.freed (x : CueSlot) : CueSlot := { x with cue := none }

/-- The device reset (R194), and then signal up where a stream is present (R119). -/
def State.resetDevice (s : State) : State :=
  State.resumeSignals
    { timing := s.timing.deviceReset
      cues := s.cues.map CueSlot.freed
      channels := s.channels.map fun x => x.deviceReset s.format
      free := resetFree
      gpis := Bank.fill 8 resetGpi
      tallies := Bank.fill 4 resetTally
      ports := { a := s.ports.a.deviceReset, b := s.ports.b.deviceReset,
                 c := s.ports.c.deviceReset }
      pending := s.pending } fun c => (s.chan c).sync.signal

/-- DEVICE_RESET as taken by the dispatcher: after the supervisor's flag and the queue it has no refusal,
and no reply of its own (R185, R194). -/
def State.serveDeviceReset (s : State) (p : PortId) (tag : Byte) : State :=
  if (s.port p).supervisor = false then s.queueReply p (replyTo 0x3D tag (refuse .notSupervisor))
  else if tag ≠ 0xFF ∧ 4 ≤ (s.port p).queue.length then s.post p .replyOverrun
  else s.resetDevice

/-- DEVICE_RESET as a command. -/
def execDeviceReset (p : PortId) (tag : Byte) (s : State) : Answered :=
  .next (s.serveDeviceReset p tag)

end Sys2Proof.Machine
end

