-- ==== Sys2Proof/Machine/Reads.lean ====
section
/-! DEFINITION. What a port reads of the device as a whole: STATUS_READ, ATTENTION_READ, ATTENTION_MASK and
CONFIG_READ (R186, R188 to R190). -/

namespace Sys2Proof.Machine

open Sys2Proof

/-! ## STATUS_READ (R78, R151, R166, R189) -/

/-- The window controller's part of the status record, offsets 0 to 13 (11.4). -/
def Window.statusBytes (w : Window) : List Byte :=
  [windowStateByte w.state] ++ bytes2 w.opacity ++ [flagByte w.requested, byte1 w.lastPreset]
    ++ (match w.move with
      | none => [0xFF, 0, 0]
      | some m => [byte1 m.preset, byte1 m.count, byte1 m.length])
    ++ (match w.pendingLayout with
      | none => [0xFF, 0] ++ handleBytes? none
      | some q => [byte1 q.preset, byte1 q.duration] ++ handleBytes? (q.cue.map (·.1)))
    ++ [suppressionByte w.suppression, flagByte w.contactHold]

/-- The delay line's part of the status record, offsets 20 to 25 (11.4). -/
def State.delayStatusBytes (s : State) (c : Channel) : List Byte :=
  let d := (s.chan c).delay
  [byte1 d.actual, byte1 d.target, byte1 d.requested, byte1 d.held, byte1 d.lag, byte1 s.free]

/-- The status record of a channel, 43 bytes (11.4). -/
def State.statusBytes (s : State) (c : Channel) : List Byte :=
  let x := s.chan c
  x.window.statusBytes ++ [holdByte x.scheduler.hold, clockStatusByte x.clock.status]
    ++ labelBytes? (s.clockLabel c) ++ s.delayStatusBytes c ++ x.calibration.statusBytes
    ++ [lockByte x.sync.lock]

/-- STATUS_READ (R189). -/
def statusRead (ch : Byte) (s : State) : State × Answer :=
  match readChannel ch with
  | none => (s, refuse .badParam)
  | some c => (s, taken false (s.statusBytes c))

/-- STATUS_READ as a command. -/
def execStatusRead (p : PortId) (tag ch : Byte) (s : State) : Answered :=
  .next (s.serve p tag 0x01 (statusRead ch))

/-! ## ATTENTION_READ and ATTENTION_MASK (R186, R188) -/

/-- The condition byte of a latch: 1–8 in the order of R187 (11.2). -/
def Latch.byte (l : Latch) : Byte := byte1 (l.bit + 1)

/-- The channel byte of a latch, FFh for a device-wide condition. -/
def Latch.channelByte : Latch → Byte
  | .replyOverrun => 0xFF
  | .referenceChange => 0xFF
  | .channel _ c => Machine.channelByte c

/-- The latch that ATTENTION_READ takes next (R188). -/
def Port.firstLatch (x : Port) : Option Latch := Latch.all.find? x.holds

/-- ATTENTION_READ (R188). -/
def attentionRead (p : PortId) (s : State) : State × Answer :=
  match (s.port p).firstLatch with
  | none => (s, taken false [0, 0xFF, 0])
  | some l =>
    let x := (s.port p).latch l false
    (s.setPort p x, taken false [l.byte, l.channelByte, byte1 x.latchCount])

/-- ATTENTION_READ as a command. -/
def execAttentionRead (p : PortId) (tag : Byte) (s : State) : Answered :=
  .next (s.serve p tag 0x02 (attentionRead p))

/-- ATTENTION_MASK (R186, R197). -/
def attentionMask (p : PortId) (mask : Half) (s : State) : State × Answer :=
  if 255 < mask.toNat then (s, refuse .badParam)
  else
    (s.modPort p fun x => { x with mask := BitVec.ofNat 8 mask.toNat },
      taken false (bytes2 mask.toNat))

/-- ATTENTION_MASK as a command. -/
def execAttentionMask (p : PortId) (tag : Byte) (mask : Half) (s : State) : Answered :=
  .next (s.serve p tag 0x03 (attentionMask p mask))

/-! ## CONFIG_READ (R190) -/

/-- A receiver state byte (11.3). -/
def receiverByte : Receiver → Byte
  | .idle => 0
  | .receiving _ => 1
  | .discarding => 2

/-- A port's entry in the DEVICE part; the requester's own receiver is reported IDLE (R190). -/
def Port.bytes (x : Port) (own : Bool) : List Byte :=
  [flagByte x.supervisor, if own then 0 else receiverByte x.receiver, byte1 x.queue.length]
    ++ bytes2 x.mask.toNat ++ [byte1 x.latchCount] ++ bytes2 x.abandoned

/-- The DEVICE part, 28 bytes (11.3). -/
def State.deviceBytes (s : State) (p : PortId) : List Byte :=
  [formatByte s.timing.format, referenceByte s.timing.reference, byte1 s.timing.relockCount,
    flagByte s.timing.fastBaud]
    ++ PortId.all.flatMap fun q => (s.port q).bytes (decide (q = p))

/-- CONFIG_READ (R190). -/
def configRead (p : PortId) (part ch : Byte) (s : State) : State × Answer :=
  match part.toNat with
  | 0 => (s, taken false (s.deviceBytes p))
  | 1 =>
    match readChannel ch with
    | none => (s, refuse .badParam)
    | some c => (s, taken false (s.chan c).configuration.bytes)
  | 2 => (s, taken false (gpiIndices.flatMap fun g => (s.gpi g).bytes))
  | 3 => (s, taken false (tallyIndices.flatMap fun t => (s.tally t).bytes))
  | _ => (s, refuse .badParam)

/-- CONFIG_READ as a command. -/
def execConfigRead (p : PortId) (tag part ch : Byte) (s : State) : Answered :=
  .next (s.serve p tag 0x3E (configRead p part ch))

end Sys2Proof.Machine
end

