-- ==== Sys2Proof/Machine/Receiver.lean ====
section
/-! DEFINITION. The control ports' lines: receiver, dispatcher, line break and transmitter (R180 to R183,
R185). -/

namespace Sys2Proof.Machine

open Sys2Proof

/-- A request handed to its owner (R185): the same meaning as the command of its row. -/
def handOver (p : PortId) (tag : Byte) (r : Request) (s : State) : Answered :=
  match r with
  | .statusRead ch => execStatusRead p tag ch s
  | .attentionRead => execAttentionRead p tag s
  | .attentionMask mask => execAttentionMask p tag mask s
  | .syncStatsRead ch clear => execSyncStatsRead p tag ch clear s
  | .cueAdd f => execCueAdd p tag f s
  | .cueModify h f => execCueModify p tag h f s
  | .cueDelete h => execCueDelete p tag h s
  | .cueListRead ch selector start => execCueListRead p tag ch selector start s
  | .cueSkipNext ch => execCueSkipNext p tag ch s
  | .cueClear ch scope => execCueClear p tag ch scope s
  | .cueHold mask action => execCueHold p tag mask action s
  | .outcomeRead ch => execOutcomeRead p tag ch s
  | .windowSet ch direction duration flag preset =>
    execWindowSet p tag ch direction duration flag preset s
  | .layoutSelect ch preset duration => execLayoutSelect p tag ch preset duration s
  | .suppress mask action => execSuppress p tag mask action s
  | .presetWrite ch index f => execPresetWrite p tag ch index f s
  | .presetRead ch index => execPresetRead p tag ch index s
  | .spanSet ch index enable mode start stop => execSpanSet p tag ch index enable mode start stop s
  | .spanRead ch => execSpanRead p tag ch s
  | .lagSet ch lag => execLagSet p tag ch lag s
  | .boothLatencySet ch latency => execBoothLatencySet p tag ch latency s
  | .calibrate ch => execCalibrate p tag ch s
  | .clockPreset ch label => execClockPreset p tag ch label s
  | .channelConfig ch f => execChannelConfig p tag ch f s
  | .gpiBind gpi mode mask polarity debounce =>
    execGpiBind p tag gpi mode mask polarity debounce s
  | .tallySet tally ch mode onCount offCount =>
    execTallySet p tag tally ch mode onCount offCount s
  | .formatSet format => execFormatSet p tag format s
  | .channelReset ch => execChannelReset p tag ch s
  | .deviceReset => execDeviceReset p tag s
  | .configRead part ch => execConfigRead p tag part ch s

/-- The reply to a frame whose code names no request: its lead is the code itself (R185, R196). -/
def unknownReply (code tag : Byte) : Reply :=
  { lead := code, tag := tag, code := Completion.unknownRequest.byte, payload := [] }

/-- A frame accepted by R181, dispatched (R185). -/
def dispatch (p : PortId) (code tag : Byte) (payload : List Byte) (s : State) : Answered :=
  match readFrame code payload with
  | .unknown => .next (s.queueReply p (unknownReply code tag))
  | .badLength => .next (s.queueReply p (replyTo code tag (refuse .badLength)))
  | .request r => handOver p tag r s

/-- The receiver of a port replaced. -/
def State.setReceiver (s : State) (p : PortId) (r : Receiver) : State :=
  s.modPort p fun x => { x with receiver := r }

/-- A partial frame abandoned and counted, the receiver as given (R180). -/
def State.abandon (s : State) (p : PortId) (r : Receiver) : State :=
  s.modPort p fun x => { x with receiver := r, abandoned := saturate 65535 (x.abandoned + 1) }

/-- A frame judged when its check character completes it (R181). -/
def completeFrame (p : PortId) (frame : List Byte) (s : State) : Answered :=
  let t := s.setReceiver p .idle
  let code := byteAt frame 0
  let tag := byteAt frame 1
  if frame.sum ≠ 0 then .next (t.queueReply p (replyTo code tag (refuse .badCheck)))
  else dispatch p code tag ((frame.drop 3).dropLast) t

/-- A character with ninth bit 0 that joins a partial frame (R180, R181). -/
def joinFrame (p : PortId) (frame : List Byte) (v : Byte) (s : State) : Answered :=
  let joined := frame ++ [v]
  if joined.length = 3 ∧ 48 < v.toNat then
    .next ((s.setReceiver p .discarding).queueReply p
      (replyTo (byteAt joined 0) (byteAt joined 1) (refuse .badLength)))
  else if 4 ≤ joined.length ∧ joined.length = (byteAt joined 2).toNat + 4 then
    completeFrame p joined s
  else .next (s.setReceiver p (.receiving joined))

/-- CHARACTER_RECEIVED (R180, R181); a character on a line held at space is not taken (R182). -/
def execCharacterReceived (p : PortId) (ch : Character) (s : State) : Answered :=
  let x := s.port p
  if x.broken then .next s
  else
    match x.receiver, ch.stopError, ch.lead with
    | .receiving _, true, _ => .next (s.abandon p .discarding)
    | .receiving _, false, true => .next (s.abandon p (.receiving [ch.value]))
    | .receiving frame, false, false => joinFrame p frame ch.value s
    | .idle, true, _ | .discarding, true, _ => .next (s.setReceiver p .discarding)
    | .idle, false, true | .discarding, false, true =>
      .next (s.setReceiver p (.receiving [ch.value]))
    | .idle, false, false | .discarding, false, false => .next s

/-- FRAME_GAP_TIMEOUT (R180): a partial frame is abandoned and counted; nothing without one. -/
def execFrameGapTimeout (p : PortId) (s : State) : Answered :=
  match (s.port p).receiver with
  | .receiving _ => .next (s.abandon p .discarding)
  | .idle => .next s
  | .discarding => .next s

/-- LINE_BREAK (R182): partial frame and reply queue dropped without a count, and no character taken until
the line is back at mark. -/
def execLineBreak (p : PortId) (s : State) : Answered :=
  .next (s.modPort p fun x =>
    { x with receiver := .idle, queue := [], sending := false, broken := true })

/-- LINE_RETURNED_TO_MARK (R182). -/
def execLineReturnedToMark (p : PortId) (s : State) : Answered :=
  .next (s.modPort p fun x => { x with broken := false })

/-- REPLY_SENT (R183): the oldest reply leaves the queue, and the next is sent at once; nothing when none
is being sent. -/
def execReplySent (p : PortId) (s : State) : Answered :=
  if (s.port p).sending then
    .next (s.modPort p fun x => { x with queue := x.queue.drop 1, sending := decide (1 < x.queue.length) })
  else .next s

end Sys2Proof.Machine
end

