-- ==== Sys2Proof/Machine/Dispatch.lean ====
section
/-! DEFINITION. The meaning of every command: one arm per row of the command table. -/

namespace Sys2Proof.Machine

open Sys2Proof

def exec (i : Instr) (s : State) : Host.Outcome State Fault Refusal :=
  match i with
  | .powerOnReset straps => Sys2Proof.Machine.execPowerOnReset straps s
  | .referenceFrameStart now => Sys2Proof.Machine.execReferenceFrameStart now s
  | .referenceTimeout => Sys2Proof.Machine.execReferenceTimeout s
  | .outputFrameStart now inputs order => Sys2Proof.Machine.execOutputFrameStart now inputs order s
  | .relockEnd => Sys2Proof.Machine.execRelockEnd s
  | .freewheelExpired c => Sys2Proof.Machine.execFreewheelExpired c s
  | .clockPresetApplied c order => Sys2Proof.Machine.execClockPresetApplied c order s
  | .slewStep c => Sys2Proof.Machine.execSlewStep c s
  | .periodStart contacts order => Sys2Proof.Machine.execPeriodStart contacts order s
  | .rampEnd c => Sys2Proof.Machine.execRampEnd c s
  | .moveEnd c => Sys2Proof.Machine.execMoveEnd c s
  | .pendingLayoutTaken c => Sys2Proof.Machine.execPendingLayoutTaken c s
  | .holdLimitReached c h => Sys2Proof.Machine.execHoldLimitReached c h s
  | .debouncedStateChange g sample edges => Sys2Proof.Machine.execDebouncedStateChange g sample edges s
  | .flashPhaseChange t => Sys2Proof.Machine.execFlashPhaseChange t s
  | .markerSend c => Sys2Proof.Machine.execMarkerSend c s
  | .calibrationTimeout c => Sys2Proof.Machine.execCalibrationTimeout c s
  | .markerReceived c packet => Sys2Proof.Machine.execMarkerReceived c packet s
  | .signalUp c => Sys2Proof.Machine.execSignalUp c s
  | .signalDown c => Sys2Proof.Machine.execSignalDown c s
  | .pictureStart c now => Sys2Proof.Machine.execPictureStart c now s
  | .pictureCompletion c raster picture h => Sys2Proof.Machine.execPictureCompletion c raster picture h s
  | .characterReceived p ch => Sys2Proof.Machine.execCharacterReceived p ch s
  | .frameGapTimeout p => Sys2Proof.Machine.execFrameGapTimeout p s
  | .lineBreak p => Sys2Proof.Machine.execLineBreak p s
  | .replySent p => Sys2Proof.Machine.execReplySent p s
  | .statusRead p tag ch => Sys2Proof.Machine.execStatusRead p tag ch s
  | .attentionRead p tag => Sys2Proof.Machine.execAttentionRead p tag s
  | .attentionMask p tag mask => Sys2Proof.Machine.execAttentionMask p tag mask s
  | .syncStatsRead p tag ch clear => Sys2Proof.Machine.execSyncStatsRead p tag ch clear s
  | .cueAdd p tag f => Sys2Proof.Machine.execCueAdd p tag f s
  | .cueModify p tag h f => Sys2Proof.Machine.execCueModify p tag h f s
  | .cueDelete p tag h => Sys2Proof.Machine.execCueDelete p tag h s
  | .cueListRead p tag ch selector start => Sys2Proof.Machine.execCueListRead p tag ch selector start s
  | .cueSkipNext p tag ch => Sys2Proof.Machine.execCueSkipNext p tag ch s
  | .cueClear p tag ch scope => Sys2Proof.Machine.execCueClear p tag ch scope s
  | .cueHold p tag mask action => Sys2Proof.Machine.execCueHold p tag mask action s
  | .outcomeRead p tag ch => Sys2Proof.Machine.execOutcomeRead p tag ch s
  | .windowSet p tag ch direction duration presetFlag preset => Sys2Proof.Machine.execWindowSet p tag ch direction duration presetFlag preset s
  | .layoutSelect p tag ch preset duration => Sys2Proof.Machine.execLayoutSelect p tag ch preset duration s
  | .suppress p tag mask action => Sys2Proof.Machine.execSuppress p tag mask action s
  | .presetWrite p tag ch index f => Sys2Proof.Machine.execPresetWrite p tag ch index f s
  | .presetRead p tag ch index => Sys2Proof.Machine.execPresetRead p tag ch index s
  | .spanSet p tag ch index enable mode start stop => Sys2Proof.Machine.execSpanSet p tag ch index enable mode start stop s
  | .spanRead p tag ch => Sys2Proof.Machine.execSpanRead p tag ch s
  | .lagSet p tag ch lag => Sys2Proof.Machine.execLagSet p tag ch lag s
  | .boothLatencySet p tag ch latency => Sys2Proof.Machine.execBoothLatencySet p tag ch latency s
  | .calibrate p tag ch => Sys2Proof.Machine.execCalibrate p tag ch s
  | .clockPreset p tag ch label => Sys2Proof.Machine.execClockPreset p tag ch label s
  | .channelConfig p tag ch f => Sys2Proof.Machine.execChannelConfig p tag ch f s
  | .gpiBind p tag gpi mode mask polarity debounce => Sys2Proof.Machine.execGpiBind p tag gpi mode mask polarity debounce s
  | .tallySet p tag tally ch mode onCount offCount => Sys2Proof.Machine.execTallySet p tag tally ch mode onCount offCount s
  | .formatSet p tag format => Sys2Proof.Machine.execFormatSet p tag format s
  | .channelReset p tag ch => Sys2Proof.Machine.execChannelReset p tag ch s
  | .deviceReset p tag => Sys2Proof.Machine.execDeviceReset p tag s
  | .configRead p tag part ch => Sys2Proof.Machine.execConfigRead p tag part ch s
  | .lineReturnedToMark p => Sys2Proof.Machine.execLineReturnedToMark p s

end Sys2Proof.Machine
end

