-- ==== Sys2Proof/Safety.lean ====
section
/-! DEFINITION. What holds of the device between commands: the conditions the manual states of whole
blocks, in the terms the statements use. Each is kept by every command and holds after reset. -/

namespace Sys2Proof.Machine

open Sys2Proof

/-! ## The frame slot pool (R136, R137, R145) -/

/-- A delay line holds max(a, t) + 1 slots, its ring has as many entries, and its delays lie within 60
frames, the target not above the requested one (R136, R137, R140, R145). -/
abbrev DelayLine.Sound (d : DelayLine) : Prop :=
  d.held = max d.actual d.target + 1 ∧ d.ring.length = d.held ∧ d.actual ≤ 60
    ∧ d.target ≤ d.requested ∧ d.requested ≤ 60

/-- The free count is 96 less the sum of the four channels' held slots (R136). -/
abbrev State.PoolSound (s : State) : Prop :=
  s.free + ((s.chan 0).delay.held + (s.chan 1).delay.held + (s.chan 2).delay.held
    + (s.chan 3).delay.held) = 96 ∧ ∀ c : Channel, (s.chan c).delay.Sound

/-! ## The window (R52 to R56, R69) -/

/-- The opacity and ramp of a window agree with its state (R53, R54). -/
abbrev Window.RampSound (w : Window) : Prop :=
  (w.state = .off → w.opacity = 0) ∧ (w.state = .on → w.opacity = 1024)
    ∧ (w.state = .rising → w.ramp.count < w.ramp.length ∧ w.ramp.start < 1024
      ∧ w.opacity = w.ramp.start + (1024 - w.ramp.start) * w.ramp.count / w.ramp.length)
    ∧ (w.state = .falling → w.ramp.count < w.ramp.length ∧ 0 < w.ramp.start
      ∧ w.ramp.start ≤ 1024
      ∧ w.opacity = w.ramp.start - w.ramp.start * w.ramp.count / w.ramp.length)

/-- The window is RISING or ON exactly while effective on holds (R52, R53); a window that is OFF has
neither a move nor a pending layout (R56); a move has steps left (R69). -/
abbrev Window.Sound (w : Window) : Prop :=
  w.RampSound ∧ (w.effectiveOn = true ↔ (w.state = .rising ∨ w.state = .on))
    ∧ (w.state = .off → w.move = none ∧ w.pendingLayout = none)
    ∧ (∀ m ∈ w.move, m.count < m.length)

/-- Every channel's window is sound. -/
abbrev State.WindowsSound (s : State) : Prop := ∀ c : Channel, (s.chan c).window.Sound

/-- The members that follow a level are in the suppression set exactly while the level holds: SPAN the
span result, CONTACT contact suppress, SIGNER the SIGNER level, CALIBRATION a running calibration; and
contact hold follows its level (R55, R59, R171). -/
abbrev State.LevelsFollowed (s : State) : Prop :=
  ∀ c : Channel,
    (s.chan c).window.suppression.span = (s.chan c).window.spanMatch
    ∧ (s.chan c).window.suppression.contact = s.contactLevel .suppress c
    ∧ (s.chan c).window.suppression.signer = (s.chan c).sync.level
    ∧ (s.chan c).window.suppression.calibration = (s.chan c).calibration.running
    ∧ (s.chan c).window.contactHold = s.contactLevel .hold c

/-! ## Layouts (R83 to R87) -/

/-- A rectangle on the raster of the format, of at least the size given, its columns even and in an
interlaced format its lines too (R83, R87). -/
abbrev Rect.Fits (r : Rect) (f : Format) (least_w least_h : Nat) : Prop :=
  least_w ≤ r.w ∧ r.x + r.w ≤ width f ∧ r.x % 2 = 0 ∧ r.w % 2 = 0
    ∧ least_h ≤ r.h ∧ r.y + r.h ≤ height f
    ∧ (interlaced f = true → r.y % 2 = 0 ∧ r.h % 2 = 0)

/-- A colour in legal range (R86). -/
abbrev Colour.Legal (c : Colour) : Prop :=
  64 ≤ c.y ∧ c.y ≤ 940 ∧ 64 ≤ c.cb ∧ c.cb ≤ 960 ∧ 64 ≤ c.cr ∧ c.cr ≤ 960

/-- A layout that fits the raster of the format in every value (R83 to R87). -/
abbrev Layout.Fitted (l : Layout) (f : Format) : Prop :=
  l.window.Fits f 64 36
    ∧ l.border ≤ 16 ∧ l.border % 2 = 0 ∧ 32 + 2 * l.border ≤ l.window.w
    ∧ 18 + 2 * l.border ≤ l.window.h
    ∧ l.crop.Fits f 0 0
    ∧ l.window.w - 2 * l.border ≤ 2 * l.crop.w ∧ l.crop.w ≤ 8 * (l.window.w - 2 * l.border)
    ∧ l.window.h - 2 * l.border ≤ 2 * l.crop.h ∧ l.crop.h ≤ 8 * (l.window.h - 2 * l.border)
    ∧ l.borderColour.Legal ∧ l.fill.Legal
    ∧ 64 ≤ l.kb ∧ l.kb ≤ 960 ∧ 64 ≤ l.kr ∧ l.kr ≤ 960
    ∧ l.inner < l.outer ∧ l.outer ≤ 1792
    ∧ l.programme.Fits f (width f / 4) (height f / 4)

/-- A period geometry in the ranges R93 to R97 promise: its rectangles on the raster and not below their
least sizes, its signer steps in 32,768–524,288 and its programme steps in 65,536–262,144. -/
abbrev PeriodGeometry.InRange (g : PeriodGeometry) (f : Format) : Prop :=
  g.layout.window.Fits f 64 36 ∧ g.layout.crop.Fits f 0 0
    ∧ g.layout.border ≤ 16 ∧ g.layout.border % 2 = 0 ∧ 32 ≤ g.inner.w ∧ 18 ≤ g.inner.h
    ∧ g.inner = { x := g.layout.window.x + g.layout.border, y := g.layout.window.y + g.layout.border
                  w := g.layout.window.w - 2 * g.layout.border
                  h := g.layout.window.h - 2 * g.layout.border }
    ∧ 32768 ≤ g.stepX ∧ g.stepX ≤ 524288 ∧ 32768 ≤ g.stepY ∧ g.stepY ≤ 524288
    ∧ g.effective.Fits f (width f / 4) (height f / 4)
    ∧ 65536 ≤ g.programmeStepX ∧ g.programmeStepX ≤ 262144
    ∧ 65536 ≤ g.programmeStepY ∧ g.programmeStepY ≤ 262144
    ∧ (g.opacity = 0 → g.effective = { x := 0, y := 0, w := width f, h := height f })
    ∧ (g.opacity = 1024 → g.effective = g.layout.programme)

/-- Every stored preset, working geometry and end of a move fits the raster of the station format
(R71, R82, R91, R92). -/
abbrev State.LayoutsFitted (s : State) : Prop :=
  ∀ c : Channel, (∀ i, ((s.chan c).presets.pick i).layout.Fitted s.format)
    ∧ (s.chan c).window.geometry.Fitted s.format
    ∧ ∀ m ∈ (s.chan c).window.move, m.source.Fitted s.format ∧ m.target.Fitted s.format

/-! ## The control ports (R180, R183, R184) -/

/-- A partial frame that is not complete, its length character, if it has come, at most 48 (R180,
R181). -/
abbrev PartialFrameSound (f : List Byte) : Prop :=
  1 ≤ f.length ∧ (3 ≤ f.length → (byteAt f 2).toNat ≤ 48 ∧ f.length < (byteAt f 2).toNat + 4)

/-- The partial frame a receiver holds, if any (R180). -/
def Receiver.held : Receiver → Option (List Byte)
  | .idle => none
  | .receiving f => some f
  | .discarding => none

/-- A port holds at most 4 replies and is SENDING exactly while it holds one; a line held at space leaves
its receiver IDLE; its counts stay in range (R180, R182, R183). -/
abbrev Port.Sound (x : Port) : Prop :=
  x.queue.length ≤ 4 ∧ (x.sending = true ↔ x.queue ≠ []) ∧ (∀ f ∈ x.receiver.held, PartialFrameSound f)
    ∧ (x.broken = true → x.receiver = .idle) ∧ x.abandoned ≤ 65535

/-- Every port is sound, and at most one of them is the supervisor (R184). -/
abbrev State.PortsSound (s : State) : Prop :=
  s.ports.a.Sound ∧ s.ports.b.Sound ∧ s.ports.c.Sound
    ∧ (s.ports.a.supervisor && s.ports.b.supervisor) = false
    ∧ (s.ports.a.supervisor && s.ports.c.supervisor) = false
    ∧ (s.ports.b.supervisor && s.ports.c.supervisor) = false

/-! ## Cue clocks and outcomes (R9, R10, R15, R47) -/

/-- A cue clock of day length `day` keeps its frame numbers within the day, and an INTERNAL one is VALID
(R9, R10, R15). -/
abbrev CueClock.Sound (k : CueClock) (day : Nat) : Prop :=
  k.value < day ∧ (∀ v ∈ k.lastValid, v < day) ∧ (∀ v ∈ k.pendingPreset, v < day)
    ∧ (k.source = .internal → k.status = .valid)

/-- Every channel's cue clock is sound. -/
abbrev State.ClocksSound (s : State) : Prop := ∀ c : Channel, (s.chan c).clock.Sound (s.day c)

/-- An outcome ring never holds more than 8 records, and the total stays below 65,536 (R47). -/
abbrev State.RingsSound (s : State) : Prop :=
  ∀ c : Channel, (s.chan c).scheduler.ring.length ≤ 8 ∧ (s.chan c).scheduler.total < 65536

/-! ## The cue pool (R20, R22, R23) -/

/-- Whether a cue is a TIME cue. -/
def Cue.isTime (k : Cue) : Bool :=
  match k.trigger with
  | .time _ => true
  | .contact _ => false

/-- Every live cue stands once on the list of its channel and kind and nothing else stands on a list; a
timed list is in ascending order of fire time; and a live cue's generation lies in 1–255 (R20, R22,
R23). -/
abbrev State.CuesSound (s : State) : Prop :=
  (∀ c : Channel,
    (s.chan c).scheduler.timed.Nodup ∧ (s.chan c).scheduler.contact.Nodup
    ∧ (s.chan c).scheduler.timed.Pairwise (fun i j => s.fireTimeAt i ≤ s.fireTimeAt j)
    ∧ (∀ i : SlotIx, i ∈ (s.chan c).scheduler.timed ↔ ∃ k ∈ s.cue i, k.channel = c ∧ k.isTime = true)
    ∧ (∀ i : SlotIx, i ∈ (s.chan c).scheduler.contact ↔ ∃ k ∈ s.cue i, k.channel = c ∧ k.isTime = false))
  ∧ ∀ i : SlotIx, (s.slot i).generation ≤ 255
      ∧ ((s.cue i).isSome → 1 ≤ (s.slot i).generation)

/-- A cue record of day length `day` keeps to the ranges of 2.1: a fire time within the day, a duration of
at most 250 and none for LAG, a lag value of at most 50 and only for LAG, a preset where LAYOUT needs one and
none for WINDOW_OUT and LAG, and no late mark on a CONTACT cue. -/
abbrev Cue.Sound (k : Cue) (day : Nat) : Prop :=
  (k.isTime = true → k.fireTime < day) ∧ (k.isTime = false → k.late = false)
    ∧ k.duration ≤ 250 ∧ (k.action = .lag → k.duration = 0)
    ∧ k.lag ≤ 50 ∧ (k.action ≠ .lag → k.lag = 0)
    ∧ (k.action = .layout → k.preset.isSome = true)
    ∧ (k.action = .windowOut ∨ k.action = .lag → k.preset = none)

/-- Every live cue's record is sound. -/
abbrev State.RecordsSound (s : State) : Prop :=
  ∀ i : SlotIx, ∀ k ∈ s.cue i, k.Sound (s.day k.channel)

/-! ## The signer ring (R124, R125) -/

/-- The writer never uses the slot being read or the newest one, neither of which ever holds an unfinished
picture; the counts stay in range (R120, R121, R124, R125, R131). -/
abbrev Synchroniser.Sound (x : Synchroniser) : Prop :=
  (∀ i ∈ x.write, i ≠ x.current ∧ i ≠ x.newest)
    ∧ x.ring.pick x.current ≠ .unfinished ∧ x.ring.pick x.newest ≠ .unfinished
    ∧ x.unread ≤ 2 ∧ x.history.length ≤ 16 ∧ x.consecutive ≤ 16
    ∧ x.repeats ≤ 65535 ∧ x.drops ≤ 65535

/-- Every channel's synchroniser is sound, and its compositor's signer picture reference names the current slot, so
that the slot read is never the slot being written (R113, R124). -/
abbrev State.SynchronisersSound (s : State) : Prop :=
  ∀ c : Channel, (s.chan c).sync.Sound ∧ (s.chan c).latches.signer = (s.chan c).sync.current

/-! ## Requests, replies and postings (R181, R183, R187, R196) -/

/-- A reply to a request with the tag finds a place, or needs none (R183). -/
abbrev State.Room (s : State) (p : PortId) (tag : Byte) : Prop :=
  tag = 0xFF ∨ (s.port p).queue.length < 4

/-- The state with the reply to a request of the code in the port's queue, its transmitter SENDING; with
tag FFh the reply is discarded (R181, R183, R196). -/
def State.replied (s : State) (p : PortId) (tag code : Byte) (completion : Completion)
    (payload : List Byte) : State :=
  if tag = 0xFF then s
  else s.setPort p
    { s.port p with
      queue := (s.port p).queue
        ++ [{ lead := code + 0x80, tag := tag, code := completion.byte, payload := payload }]
      sending := true }

/-- OK_CLAMPED when a value was stored other than as written, and otherwise OK (R185). -/
def clampedCode (clamped : Bool) : Completion := if clamped then .okClamped else .ok

/-- Between two states a port keeps everything but its latches, and a latch is set after exactly when it
was set before, or is one of the posted ones with its condition enabled (R187). -/
abbrev Port.Posted (x y : Port) (posted : Latch → Prop) : Prop :=
  y = { x with latches := y.latches }
    ∧ ∀ l, y.holds l = true ↔ x.holds l = true ∨ (posted l ∧ x.enables l = true)

/-- Between two states every port keeps everything but its latches, and gains those posted to all ports
(R187). -/
abbrev State.Posted (s t : State) (posted : Latch → Prop) : Prop :=
  ∀ p : PortId, (s.port p).Posted (t.port p) posted

/-- Between two states nothing differs but the ports. -/
abbrev State.SameButPorts (s t : State) : Prop := t = { s with ports := t.ports }

/-! ## Reset values -/

/-- The window record that every reset leaves, with its preset 0, its suppression fade and the two members
and the hold that a channel reset takes again (R79, R80). -/
def Window.afterReset (geometry : Layout) (fade : Nat) (contact signer hold : Bool) : Window :=
  { requested := false
    suppression := { Suppression.empty with contact := contact, signer := signer }
    contactHold := hold
    state := .off
    opacity := 0
    ramp := { start := 0, length := 0, count := 0 }
    geometry := geometry
    lastPreset := 0
    move := none
    pendingLayout := none
    spans := Bank.fill 4 { start := 0, stop := 0, mode := .inside, enabled := false, writer := none }
    spanMatch := false
    fade := fade }

/-- The synchroniser's values after power-on reset, DEVICE_RESET and FORMAT_SET (R135), the lock state taken
on by a stream already present (R119). -/
abbrev Synchroniser.AfterReset (x : Synchroniser) (holdLimit : Nat) (policy : LossPolicy)
    (signal : Bool) : Prop :=
  x = { x with
    lock := if signal then .acquiring else .absent
    level := false, ring := Bank.fill 3 .black, current := 0, newest := 0, write := none, unread := 0
    lastStart := none, history := [], consecutive := 0, holding := 0, holdLimit := holdLimit
    policy := policy, repeats := 0, drops := 0, incoming := none, signal := signal }

/-- The delay line's values after power-on reset, DEVICE_RESET and FORMAT_SET (R152). -/
abbrev DelayLine.AfterReset (d : DelayLine) (slewInterval : Nat) : Prop :=
  d = { d with
    actual := 4, target := 4, requested := 4, lag := 0, held := 5, ring := List.replicate 5 none
    slewInterval := slewInterval, slewCount := 0 }

/-- A channel's values after power-on reset and DEVICE_RESET: the columns of R19, R51, R79, R91, R135, R152
and R167. -/
abbrev ChannelState.AfterReset (x : ChannelState) (f : Format) (signal : Bool) : Prop :=
  x.clock = {
      value := 0, status := .invalid, source := .embedded, dropMode := .df, freewheelLimit := 25
      freewheelCount := 0, lastValid := none, pendingPreset := none }
    ∧ x.scheduler = {
      timed := [], contact := [], ring := [], total := 0, hold := ⟨false, false, false⟩
      resume := false, reported := false, scan := none, lateTolerance := 10 }
    ∧ x.window = Window.afterReset (defaultLayout f) 12 false false false
    ∧ (∀ i, x.presets.pick i = defaultPreset f)
    ∧ x.sync.AfterReset 10 .withdraw signal
    ∧ x.delay.AfterReset 25
    ∧ x.calibration = { x.calibration with
      latency := 8, running := false, lastResult := .none, origin := none, base := 0, runCount := 0
      sends := Bank.fill 4 none, measured := Bank.fill 4 none, lastMeasured := none }

/-- A contact input's values after power-on reset and DEVICE_RESET (R178). -/
def Gpi.afterReset : Gpi :=
  { mode := .none, mask := Bank.fill 4 false, polarity := .activeClosed, debounce := 2
    sampled := .opened, stable := 16, debounced := .opened }

/-- A tally output's values after power-on reset and DEVICE_RESET (R178). -/
def Tally.afterReset : Tally :=
  { channel := 0, mode := .off, onCount := 12, offCount := 12, phaseOn := true, count := 0
    active := false }

/-! ## Cue fields, outcomes and layouts, as the requests' statements use them -/

/-- The request field values for which CUE_ADD is refused BAD_PARAM (R25, R197). -/
abbrev State.CueRefused (s : State) (f : CueFields) : Prop :=
  4 ≤ f.channel.toNat ∨ 2 ≤ f.kind.toNat ∨ 4 ≤ f.action.toNat ∨ 2 ≤ f.presetFlag.toNat
    ∨ (∃ c : Channel, c.val = f.channel.toNat ∧ f.kind = 0
        ∧ labelValid s.timing.format (s.chan c).clock.dropMode (labelOfBytes f.trigger) = false)
    ∨ (f.kind = 1 ∧ 8 ≤ f.trigger.hh.toNat)
    ∨ (f.action = 2 ∧ f.presetFlag = 0)
    ∨ ((f.action = 1 ∨ f.action = 3) ∧ f.presetFlag = 1)
    ∨ (f.presetFlag = 1 ∧ 8 ≤ f.preset.toNat)

/-- The cue has the trigger, action, duration, preset and lag value that the fields give it (R25). -/
abbrev State.CueRead (s : State) (f : CueFields) (k : Cue) : Prop :=
  k.channel.val = f.channel.toNat
    ∧ (f.kind = 0 → k.trigger = .time (frameNumber s.timing.format
        (s.chan k.channel).clock.dropMode (labelOfBytes f.trigger)))
    ∧ (f.kind = 1 → ∃ g : GpiIx, g.val = f.trigger.hh.toNat ∧ k.trigger = .contact g)
    ∧ actionByte k.action = f.action
    ∧ k.duration = (if f.action = 3 then 0 else min 250 f.duration.toNat)
    ∧ k.lag = (if f.action = 3 then min 50 f.lag.toNat else 0)
    ∧ (f.presetFlag = 0 → k.preset = none)
    ∧ (f.presetFlag = 1 → ∃ q : PresetIx, q.val = f.preset.toNat ∧ k.preset = some q)

/-- Whether a cue field is stored other than as written (R25). -/
def cueFieldsClamped (f : CueFields) : Bool :=
  if f.action = 3 then decide (50 < f.lag.toNat) else decide (250 < f.duration.toNat)

/-- The late mark that a TIME cue of fire time `n` takes when it is put on its list (R27). -/
abbrev State.LateMark (s : State) (c : Channel) (n : Nat) (late : Bool) : Prop :=
  late = true ↔ ∃ v, (s.chan c).scheduler.scan = some v
    ∧ ((v : Int) - (n : Int)) % (s.day c : Int) ≤ ((s.chan c).scheduler.lateTolerance : Int)

/-- A timed list `new` is the list `old` with the slot put in after every cue of an equal or lower fire
time and before every other (R22). -/
abbrev State.Inserted (s : State) (old new : List SlotIx) (i : SlotIx) (n : Nat) : Prop :=
  ∃ before after, old = before ++ after ∧ new = before ++ i :: after
    ∧ (∀ j ∈ before, s.fireTimeAt j ≤ n) ∧ ∀ j ∈ after, n < s.fireTimeAt j

/-- The outcome record of a cue of a channel, with the clock label of the moment (R47). -/
def State.recordOf (s : State) (c : Channel) (h : Handle) (a : Action) (origin : PortId) (r : Result) :
    OutcomeRecord :=
  { handle := h, action := a, origin := origin, result := r
    label := if (s.chan c).clock.status = .invalid then none
      else some (labelOf s.timing.format (s.chan c).clock.dropMode (s.chan c).clock.value) }

/-- A scheduler with records added to its ring, which keeps the newest 8, and to its total (R47). -/
def Scheduler.recorded (k : Scheduler) (records : List OutcomeRecord) : Scheduler :=
  { k with
    ring := (k.ring ++ records).drop ((k.ring ++ records).length - 8)
    total := (k.total + records.length) % 65536 }

/-- From one state to the next, the cues in the slots `gone` of a channel leave their lists, their slots
are freed with the generations kept, a record of the result is added for each in turn, and CUE_OUTCOME is
posted to the origin of each (R20, R22, R23, R47, R50). -/
abbrev State.Retired (s u : State) (c : Channel) (gone : List SlotIx) (r : Result) : Prop :=
  u = { s with cues := u.cues, channels := u.channels, ports := u.ports }
    ∧ (∀ i, u.slot i = if i ∈ gone then { s.slot i with cue := none } else s.slot i)
    ∧ (∀ d, d ≠ c → u.chan d = s.chan d)
    ∧ (u.chan c) = (s.chan c).setScheduler
        (({ (s.chan c).scheduler with
            timed := (s.chan c).scheduler.timed.filter (· ∉ gone)
            contact := (s.chan c).scheduler.contact.filter (· ∉ gone) }).recorded
          (gone.filterMap fun i => (s.cue i).map fun (k : Cue) =>
            s.recordOf c { slot := i, generation := (s.slot i).generation } k.action k.origin r))
    ∧ ∀ q, (s.port q).Posted (u.port q) fun l =>
        l = .channel .cueOutcome c ∧ ∃ i ∈ gone, ∃ k, s.cue i = some k ∧ k.origin = q

/-- From one state to the next, a layout is taken for a channel: as a cut, as a move begun, or as the
pending layout, whose predecessor is recorded SUPERSEDED when it came from a LAYOUT cue (R68 to R70,
R48). -/
abbrev State.LayoutTook (s u : State) (c : Channel) (p : PresetIx) (d : Nat)
    (cue : Option (Handle × PortId)) : Prop :=
  let w := (s.chan c).window
  let stored := ((s.chan c).presets.pick p).layout
  u = { s with channels := u.channels, ports := u.ports }
    ∧ (∀ b, b ≠ c → u.chan b = s.chan b)
    ∧ u.chan c = ((s.chan c).setWindow (u.chan c).window).setScheduler (u.chan c).scheduler
    ∧ (w.move = none → w.pendingLayout = none →
        (u.chan c).scheduler = (s.chan c).scheduler ∧ s.Posted u (fun _ => False)
        ∧ (w.opacity = 0 ∨ d = 0 →
            (u.chan c).window = { w with geometry := stored, lastPreset := p })
        ∧ (0 < w.opacity → 0 < d →
            (u.chan c).window = { w with
              lastPreset := p
              move := some { source := w.geometry, target := stored, preset := p,
                             length := d, count := 0 } }))
    ∧ (w.move.isSome = true ∨ w.pendingLayout.isSome = true →
        (u.chan c).window = { w with pendingLayout := some { preset := p, duration := d, cue := cue } }
        ∧ (w.pendingLayout.bind (·.cue) = none →
            (u.chan c).scheduler = (s.chan c).scheduler ∧ s.Posted u (fun _ => False))
        ∧ ∀ h origin, w.pendingLayout.bind (·.cue) = some (h, origin) →
            (u.chan c).scheduler = (s.chan c).scheduler.recorded
              [s.recordOf c h .layout origin .superseded]
            ∧ ∀ q, (s.port q).Posted (u.port q)
                fun l => l = .channel .cueOutcome c ∧ q = origin)

/-- From one state to the next, a channel's suppression set becomes `new`: the state machine follows a
change of effective on over the suppression fade, and a change of the set is posted to all ports (R52,
R58, R62). -/
abbrev State.SuppressionTook (s u : State) (c : Channel) (new : Suppression) : Prop :=
  let w := (s.chan c).window
  let x : Window := { w with suppression := new }
  u = { s with channels := u.channels, ports := u.ports }
    ∧ (∀ d, d ≠ c → u.chan d = s.chan d)
    ∧ u.chan c = (s.chan c).setWindow
        (if w.effectiveOn = x.effectiveOn then x else x.react (s.chan c).presets w.fade)
    ∧ s.Posted u (fun l => l = .channel .suppressionChange c ∧ new ≠ w.suppression)

/-- From one state to the next, a channel's delay target is worked out from a lag and a booth latency
(R140): the requested target, the largest target whose slots fit in what is held and free, the slots held and
free, and DELAY_SETTLED where actual and target delay become equal (R149). -/
abbrev State.TargetTook (s u : State) (c : Channel) (lag latency : Nat) : Prop :=
  let d := (s.chan c).delay
  let e := (u.chan c).delay
  u = { s with channels := u.channels, free := u.free, ports := u.ports }
    ∧ (∀ b, b ≠ c → u.chan b = s.chan b)
    ∧ u.chan c = ((s.chan c).setDelay e).setCalibration
        { (s.chan c).calibration with latency := latency }
    ∧ e = { d with
        lag := lag, requested := min 60 ((latency + 1) / 2 + lag), target := e.target
        held := max d.actual e.target + 1, ring := e.ring
        slewCount := if d.actual = e.target then 0 else d.slewCount }
    ∧ e.target ≤ e.requested ∧ e.held ≤ d.held + s.free
    ∧ (∀ n, n ≤ e.requested → max d.actual n + 1 ≤ d.held + s.free → n ≤ e.target)
    ∧ u.free + e.held = s.free + d.held
    ∧ e.ring.length = e.held
    ∧ (∀ i, i < e.held → e.ring[i]? = if i < d.held then d.ring[i]? else some none)
    ∧ s.Posted u (fun l => l = .channel .delaySettled c ∧ d.actual ≠ d.target ∧ d.actual = e.target)

/-- Between two states everything but a channel's window is as it was. -/
abbrev State.WindowBecame (s u : State) (c : Channel) (w : Window) : Prop :=
  u = s.setChan c ((s.chan c).setWindow w)

/-- From one state to the next, the action of a fired cue takes its effect (R41): WINDOW_IN, with the layout of
its preset first, and WINDOW_OUT give the requested state, which the window follows over the duration; LAYOUT
takes its layout, which `h` names as the cue's; LAG changes the delay target. -/
abbrev State.ActionTook (u v : State) (c : Channel) (h : Handle) (k : Cue) : Prop :=
  let asked := fun (s : State) (on : Bool) => (s.chan c).window.follow
    { (s.chan c).window with requested := on } (s.chan c).presets k.duration
  (k.action = .windowIn → k.preset = none → u.WindowBecame v c (asked u true))
  ∧ (∀ q, k.action = .windowIn → k.preset = some q →
      ∃ m : State, u.LayoutTook m c q k.duration none ∧ m.WindowBecame v c (asked m true))
  ∧ (k.action = .windowOut → u.WindowBecame v c (asked u false))
  ∧ (∀ q, k.action = .layout → k.preset = some q →
      u.LayoutTook v c q k.duration (some (h, k.origin)))
  ∧ (u.PoolSound → k.action = .lag → u.TargetTook v c k.lag (u.chan c).calibration.latency)

/-- From one state to the next, the live cue of a slot is dealt with, whole (R40, R41): it is retired with the
result, and unless it is MISSED its action then takes its effect. -/
abbrev State.CueDealt (s t : State) (c : Channel) (i : SlotIx) (r : Result) : Prop :=
  ∃ (k : Cue) (u : State), s.cue i = some k ∧ s.Retired u c [i] r
    ∧ (r = .missed → t = u)
    ∧ (r ≠ .missed → u.ActionTook t c { slot := i, generation := (s.slot i).generation } k)

/-- From one state to the next, cues are dealt with one after another, each with its result. -/
def State.CuesDealt (c : Channel) : State → State → List (SlotIx × Result) → Prop
  | s, t, [] => t = s
  | s, t, (i, r) :: rest => ∃ u : State, s.CueDealt u c i r ∧ State.CuesDealt c u t rest

/-- From one state to the next, a channel's signer changes to a lock state (R122): the history and count
empty on entry to ACQUIRING, the SIGNER level follows R128 and the window follows the level (R59), a run
ends with SIGNAL at a change from available to unavailable (R162), in the order `h`, and the changes are
posted (R62, R133, R164). The same lock state is no change. -/
abbrev State.LockTook (s u : State) (c : Channel) (new : LockState) (h : HandOver) : Prop :=
  let x := (s.chan c).sync
  let k := (s.chan c).calibration
  let w := (s.chan c).window
  let level :=
    if new = .lost ∨ new = .mismatch then x.level || decide (x.policy = .withdraw)
    else if new = .locked ∧ x.lock ≠ .holding then false
    else x.level
  let ends := (x.lock = .locked ∨ x.lock = .holding) ∧ new ≠ .locked ∧ new ≠ .holding
    ∧ k.running = true
  let leveled := fun v : Window => v.follow
    { v with suppression := { v.suppression with signer := level } } (s.chan c).presets v.fade
  let ended := fun v : Window => v.follow
    { v with suppression := { v.suppression with calibration := false } } (s.chan c).presets v.fade
  (x.lock = new → u = s)
  ∧ (x.lock ≠ new →
    u = { s with channels := u.channels, ports := u.ports }
    ∧ (∀ d, d ≠ c → u.chan d = s.chan d)
    ∧ u.chan c = (((s.chan c).setSync { x with
        lock := new, level := level
        history := if new = .acquiring then [] else x.history
        consecutive := if new = .acquiring then 0 else x.consecutive }).setCalibration
          (if ends then { k with running := false, lastResult := .signal } else k)).setWindow
            (if ends then
              (if h = .windowFirst then ended (leveled w) else leveled (ended w))
            else leveled w)
    ∧ ∀ q, (s.port q).Posted (u.port q) fun l =>
        l = .channel .signerChange c
        ∨ (l = .channel .suppressionChange c
            ∧ (w.suppression.signer ≠ level ∨ (ends ∧ w.suppression.calibration = true)))
        ∨ (l = .channel .calibrationDone c ∧ ends ∧ k.origin = some q))

/-- A channel's window with contact hold and the CONTACT member at the levels given, which it follows (R55, R59,
R171). -/
def ChannelState.contacted (x : ChannelState) (hold suppress : Bool) : ChannelState :=
  let w : Window := { x.window with contactHold := hold }
  x.setWindow (w.follow { w with suppression := { w.suppression with contact := suppress } }
    x.presets w.fade)

/-- From one state to the next, the levels that the contact inputs drive are taken by every channel: contact
hold, and CONTACT in the suppression set, which the window follows (R55, R59, R62, R171). -/
abbrev State.ContactsTook (s u : State) : Prop :=
  u = { s with channels := u.channels, ports := u.ports }
    ∧ (∀ c : Channel,
      u.chan c = (s.chan c).contacted (s.contactLevel .hold c) (s.contactLevel .suppress c))
    ∧ s.Posted u (fun l => ∃ c, l = .channel .suppressionChange c
        ∧ (s.chan c).window.suppression.contact ≠ s.contactLevel .suppress c)

/-- The command of a request's row, on a port and with a tag. -/
def requestCommand (p : PortId) (tag : Byte) : Request → Instr
  | .statusRead ch => .statusRead p tag ch
  | .attentionRead => .attentionRead p tag
  | .attentionMask mask => .attentionMask p tag mask
  | .syncStatsRead ch clear => .syncStatsRead p tag ch clear
  | .cueAdd f => .cueAdd p tag f
  | .cueModify h f => .cueModify p tag h f
  | .cueDelete h => .cueDelete p tag h
  | .cueListRead ch selector start => .cueListRead p tag ch selector start
  | .cueSkipNext ch => .cueSkipNext p tag ch
  | .cueClear ch scope => .cueClear p tag ch scope
  | .cueHold mask action => .cueHold p tag mask action
  | .outcomeRead ch => .outcomeRead p tag ch
  | .windowSet ch direction duration flag preset => .windowSet p tag ch direction duration flag preset
  | .layoutSelect ch preset duration => .layoutSelect p tag ch preset duration
  | .suppress mask action => .suppress p tag mask action
  | .presetWrite ch index f => .presetWrite p tag ch index f
  | .presetRead ch index => .presetRead p tag ch index
  | .spanSet ch index enable mode start stop => .spanSet p tag ch index enable mode start stop
  | .spanRead ch => .spanRead p tag ch
  | .lagSet ch lag => .lagSet p tag ch lag
  | .boothLatencySet ch latency => .boothLatencySet p tag ch latency
  | .calibrate ch => .calibrate p tag ch
  | .clockPreset ch label => .clockPreset p tag ch label
  | .channelConfig ch f => .channelConfig p tag ch f
  | .gpiBind gpi mode mask polarity debounce => .gpiBind p tag gpi mode mask polarity debounce
  | .tallySet tally ch mode onCount offCount => .tallySet p tag tally ch mode onCount offCount
  | .formatSet format => .formatSet p tag format
  | .channelReset ch => .channelReset p tag ch
  | .deviceReset => .deviceReset p tag
  | .configRead part ch => .configRead p tag part ch

/-! ## The request frames (11.2, 11.3, 11.4) -/

/-- The code of a request (11.3). -/
def requestCode : Request → Byte
  | .statusRead _ => 0x01
  | .attentionRead => 0x02
  | .attentionMask _ => 0x03
  | .syncStatsRead _ _ => 0x04
  | .cueAdd _ => 0x10
  | .cueModify _ _ => 0x11
  | .cueDelete _ => 0x12
  | .cueListRead _ _ _ => 0x13
  | .cueSkipNext _ => 0x14
  | .cueClear _ _ => 0x15
  | .cueHold _ _ => 0x16
  | .outcomeRead _ => 0x17
  | .windowSet _ _ _ _ _ => 0x20
  | .layoutSelect _ _ _ => 0x21
  | .suppress _ _ => 0x22
  | .presetWrite _ _ _ => 0x23
  | .presetRead _ _ => 0x24
  | .spanSet _ _ _ _ _ _ => 0x25
  | .spanRead _ => 0x26
  | .lagSet _ _ => 0x30
  | .boothLatencySet _ _ => 0x31
  | .calibrate _ => 0x32
  | .clockPreset _ _ => 0x33
  | .channelConfig _ _ => 0x38
  | .gpiBind _ _ _ _ _ => 0x39
  | .tallySet _ _ _ _ _ => 0x3A
  | .formatSet _ => 0x3B
  | .channelReset _ => 0x3C
  | .deviceReset => 0x3D
  | .configRead _ _ => 0x3E

/-- A two-byte field as sent, most significant byte first (R196). -/
def sentHalf (h : Half) : List Byte := [h.extractLsb' 8 8, h.extractLsb' 0 8]

/-- A label field as sent (11.2). -/
def sentLabel (l : LabelBytes) : List Byte := [l.hh, l.mm, l.ss, l.ff]

/-- A handle field as sent (11.2). -/
def sentHandle (h : HandleBytes) : List Byte := [h.slot, h.generation]

/-- A rectangle field as sent (11.2). -/
def sentRect (r : RectBytes) : List Byte := sentHalf r.x ++ sentHalf r.y ++ sentHalf r.w ++ sentHalf r.h

/-- A colour field as sent (11.2). -/
def sentColour (k : ColourBytes) : List Byte := sentHalf k.y ++ sentHalf k.cb ++ sentHalf k.cr

/-- The cue fields as sent (11.3). -/
def sentCue (f : CueFields) : List Byte :=
  [f.channel, f.kind] ++ sentLabel f.trigger ++ [f.action] ++ sentHalf f.duration
    ++ [f.presetFlag, f.preset, f.lag]

/-- A preset record as sent (11.4). -/
def sentPreset (f : PresetFields) : List Byte :=
  sentRect f.window ++ [f.border] ++ sentColour f.borderColour ++ sentRect f.crop ++ [f.key]
    ++ sentHalf f.kb ++ sentHalf f.kr ++ sentHalf f.inner ++ sentHalf f.outer
    ++ sentRect f.programme ++ sentColour f.fill

/-- The configuration fields as sent, in the order of R191. -/
def sentConfig (f : ConfigFields) : List Byte :=
  [f.source, f.dropMode, f.freewheelLimit, f.lateTolerance, f.holdLimit, f.lossPolicy, f.slewInterval,
    f.fade]

/-- The payload of a request as sent (11.3). -/
def requestPayload : Request → List Byte
  | .statusRead ch => [ch]
  | .attentionRead => []
  | .attentionMask mask => sentHalf mask
  | .syncStatsRead ch clear => [ch, clear]
  | .cueAdd f => sentCue f
  | .cueModify h f => sentHandle h ++ sentCue f
  | .cueDelete h => sentHandle h
  | .cueListRead ch selector start => [ch, selector, start]
  | .cueSkipNext ch => [ch]
  | .cueClear ch scope => [ch, scope]
  | .cueHold mask action => [mask, action]
  | .outcomeRead ch => [ch]
  | .windowSet ch direction duration flag preset => [ch, direction] ++ sentHalf duration ++ [flag, preset]
  | .layoutSelect ch preset duration => [ch, preset] ++ sentHalf duration
  | .suppress mask action => [mask, action]
  | .presetWrite ch index f => [ch, index] ++ sentPreset f
  | .presetRead ch index => [ch, index]
  | .spanSet ch index enable mode start stop =>
    [ch, index, enable, mode] ++ sentLabel start ++ sentLabel stop
  | .spanRead ch => [ch]
  | .lagSet ch lag => [ch, lag]
  | .boothLatencySet ch latency => [ch, latency]
  | .calibrate ch => [ch]
  | .clockPreset ch label => [ch] ++ sentLabel label
  | .channelConfig ch f => [ch] ++ sentConfig f
  | .gpiBind gpi mode mask polarity debounce => [gpi, mode, mask, polarity, debounce]
  | .tallySet tally ch mode onCount offCount => [tally, ch, mode, onCount, offCount]
  | .formatSet format => [format]
  | .channelReset ch => [ch]
  | .deviceReset => []
  | .configRead part ch => [part, ch]

/-! ## The inputs, the outputs and the timing (R2, R4, R168, R172, R176) -/

/-- A contact input's debounce and stable count are in range, and it has a channel mask exactly when it is
bound (9.1, R172). -/
abbrev Gpi.Sound (x : Gpi) : Prop :=
  x.debounce ≤ 15 ∧ 1 ≤ x.stable ∧ x.stable ≤ 16
    ∧ (x.mode = .none ↔ x.mask = Bank.fill 4 false)

/-- A tally's two counts are in range, and so is its flash count (R175, R176). -/
abbrev Tally.Sound (x : Tally) : Prop :=
  1 ≤ x.onCount ∧ x.onCount ≤ 250 ∧ 1 ≤ x.offCount ∧ x.offCount ≤ 250
    ∧ x.count ≤ (if x.phaseOn then x.onCount else x.offCount)
    ∧ (x.count = 0 → x.phaseOn = true) ∧ (x.mode = .off → x.active = false)

/-- Every contact input and tally output is sound. -/
abbrev State.ContactsSound (s : State) : Prop :=
  (∀ g : GpiIx, (s.gpi g).Sound) ∧ ∀ k : TallyIx, (s.tally k).Sound

/-- The counts of the timing unit are in range: a relock count above 0 belongs to a relock frame, an
output frame is extended only to a reference, and only after both its periods (R2 to R4). -/
abbrev State.TimingSound (s : State) : Prop :=
  s.timing.relockCount ≤ 8 ∧ (0 < s.timing.relockCount → s.timing.relocking = true)
    ∧ s.timing.goodIntervals ≤ 2 ∧ (s.timing.reference = .free → s.timing.goodIntervals ≤ 1)
    ∧ (s.timing.extending = true → s.timing.reference = .locked)
    ∧ (s.timing.blanking = true → s.timing.secondPeriod = true)

end Sys2Proof.Machine
end

