-- ==== Sys2Proof/Certificates/Slice0/Obligations.lean ====
section
/-! DEFINITION. The statements for the provers. In a statement about a request, `u` is the state its owner
leaves, before the reply joins the port's queue. -/

open Sys2Proof Sys2Proof.Machine

/-! ## The step and the resets -/

/-- A step runs the command at the front of the queue, with the rest still waiting; on an empty queue the
block idles, which is the model's own choice (notes/assumptions/1.md). -/
def Obligations.StepTakesFrontCommand : Prop :=
  ∀ (s : State) (i : Instr) (rest : List Instr),
    step (s.setPending (i :: rest)) = exec i (s.setPending rest)
      ∧ step (s.setPending []) = .next (s.setPending [])

/-- POWER_ON_RESET: from every state, under every strapping, the device takes its power-on values (the
power-on columns of R7, R19, R51, R79, R91, R135, R152, R167, R178 and R195). That a signer stream already
present is acquired within the reset's own step (R119), that the outputs are black at once, and that a line
held at space is forgotten are the model's readings (notes/assumptions/13.md, 15.md and 14.md). The
compositor's latches are not stated. -/
def Obligations.PowerOnResetValues : Prop :=
  ∀ (straps : Straps) (s : State), ∃ t, exec (.powerOnReset straps) s = .next t
    ∧ t.pending = s.pending
    ∧ t.timing.format = formatOfStrap straps.fmt ∧ t.timing.reference = .free
    ∧ t.timing.goodIntervals = 0 ∧ t.timing.relockCount = 8 ∧ t.timing.relocking = true
    ∧ t.timing.relockPeriod = true
    ∧ t.timing.fastBaud = decide (straps.baud = 1)
    ∧ (∀ i, t.slot i = { generation := 0, cue := none }) ∧ t.free = 76
    ∧ (∀ c, (t.chan c).AfterReset t.timing.format (s.chan c).sync.signal)
    ∧ (∀ g, t.gpi g = Gpi.afterReset)
    ∧ (∀ k, t.tally k = Tally.afterReset)
    ∧ (∀ p, (t.port p).receiver = .idle ∧ (t.port p).queue = [] ∧ (t.port p).sending = false
        ∧ (t.port p).mask = 0 ∧ (∀ l, (t.port p).holds l = false) ∧ (t.port p).attention = false
        ∧ (t.port p).abandoned = 0 ∧ (t.port p).broken = false
        ∧ (t.port p).supervisor = decide (straps.supv.toNat = match p with
          | .a => 1
          | .b => 2
          | .c => 3))

/-- DEVICE_RESET from the supervisor: every block takes its DEVICE_RESET values and no reply is queued;
format, straps' settings, output timing and cue generations stay (R7, R19, R51, R79, R91, R135, R152, R167,
R178, R194, R195). That a signer stream already present is acquired within the reset's own step, that the
period in progress goes on as it was latched and the later ones are black, and that a line held at space stays so
are the model's readings (notes/assumptions/13.md, 15.md and 14.md); so is that the compositor's latches stand until the next period start
(R117), the signer picture reference naming slot 0 of the black ring (notes/assumptions/22.md). -/
def Obligations.DeviceResetValues : Prop :=
  ∀ (s : State) (p : PortId) (tag : Byte), (s.port p).supervisor = true → s.Room p tag →
    ∃ t, exec (.deviceReset p tag) s = .next t
    ∧ t.pending = s.pending
    ∧ t.timing.format = s.timing.format ∧ t.timing.fastBaud = s.timing.fastBaud
    ∧ t.timing.lastFrameStart = s.timing.lastFrameStart ∧ t.timing.reference = .free
    ∧ t.timing.goodIntervals = 0 ∧ t.timing.relockCount = 8 ∧ t.timing.relocking = true
    ∧ t.timing.relockPeriod = s.timing.relockPeriod ∧ t.timing.blanking = s.timing.blanking
    ∧ (∀ c, (t.chan c).latches = { (s.chan c).latches with signer := 0 })
    ∧ (∀ i, t.slot i = { s.slot i with cue := none }) ∧ t.free = 76
    ∧ (∀ c, (t.chan c).AfterReset s.timing.format (s.chan c).sync.signal)
    ∧ (∀ g, t.gpi g = Gpi.afterReset)
    ∧ (∀ k, t.tally k = Tally.afterReset)
    ∧ (∀ q, (t.port q).supervisor = (s.port q).supervisor ∧ (t.port q).queue = []
        ∧ (t.port q).sending = false ∧ (t.port q).mask = 0 ∧ (∀ l, (t.port q).holds l = false)
        ∧ (t.port q).attention = false ∧ (t.port q).abandoned = 0
        ∧ (t.port q).broken = (s.port q).broken
        ∧ (t.port q).receiver = (if (s.port q).receiver = .idle then .idle else .discarding))

/-- FORMAT_SET from the supervisor: the format and a relock, the FORMAT_SET column of every block (R5, R19,
R51, R79, R80, R91, R135, R152, R167, R195), delays and pool set directly, and the latches each port then holds
(R193). A format code of no format is refused and changes nothing. That a signer stream already present is
acquired within the command's own step and then posts SIGNER_CHANGE, and that the outputs are black at once,
are the model's readings (notes/assumptions/13.md and 15.md). The compositor's latches are not stated. -/
def Obligations.FormatSetValues : Prop :=
  ∀ (s : State) (p : PortId) (tag format : Byte), (s.port p).supervisor = true → s.Room p tag →
    (∀ f, readFormat format = some f →
      ∃ u : State, exec (.formatSet p tag format) s = .next (u.replied p tag 0x3B .ok [])
      ∧ u.pending = s.pending ∧ u.gpis = s.gpis ∧ u.tallies = s.tallies
      ∧ u.timing.format = f ∧ u.timing.reference = .free ∧ u.timing.goodIntervals = 0
      ∧ u.timing.relockCount = 8 ∧ u.timing.relocking = true ∧ u.timing.firstPeriodDue = true
      ∧ u.timing.relockPeriod = true
      ∧ u.timing.fastBaud = s.timing.fastBaud ∧ u.free = 76
      ∧ (∀ i, u.slot i = { s.slot i with cue := none })
      ∧ (∀ c, (u.chan c).clock = (match (s.chan c).clock.source with
            | .embedded => { (s.chan c).clock with
                status := .invalid, value := 0, freewheelCount := 0, lastValid := none,
                pendingPreset := none }
            | .internal => { (s.chan c).clock with
                status := .valid, value := 0, freewheelCount := 0, lastValid := some 0,
                pendingPreset := none })
          ∧ (u.chan c).scheduler = {
              timed := [], contact := [], ring := [], total := 0, hold := ⟨false, false, false⟩
              resume := false, reported := false, scan := none
              lateTolerance := (s.chan c).scheduler.lateTolerance }
          ∧ (u.chan c).presets = (if height s.timing.format = height f
              then (s.chan c).presets.map fun x => { x with layout := fitLayout f x.layout }
              else Bank.fill 8 (defaultPreset f))
          ∧ (u.chan c).window = Window.afterReset ((u.chan c).presets.pick 0).layout
              (s.chan c).window.fade (s.contactLevel .suppress c) false (s.contactLevel .hold c)
          ∧ (u.chan c).sync.AfterReset (s.chan c).sync.holdLimit (s.chan c).sync.policy
              (s.chan c).sync.signal
          ∧ (u.chan c).delay.AfterReset (s.chan c).delay.slewInterval
          ∧ (u.chan c).calibration = { (s.chan c).calibration with
              latency := 8, running := false, lastMeasured := none
              lastResult := if (s.chan c).calibration.running then .aborted
                else (s.chan c).calibration.lastResult
              inserting := (u.chan c).calibration.inserting })
      ∧ (∀ q, (u.port q) = { s.port q with latches := (u.port q).latches }
          ∧ ∀ l, (u.port q).holds l = (match l with
            | .replyOverrun => (s.port q).holds l
            | .referenceChange => (s.port q).holds l || (s.port q).enables l
            | .channel k c => (s.port q).enables l && (match k with
              | .signerChange => (s.chan c).sync.signal
              | .suppressionChange => false
              | .calibrationDone => (s.chan c).calibration.running
                  && decide ((s.chan c).calibration.origin = some q)
              | .cueOutcome => false
              | .delaySettled => false
              | .clockChange =>
                  decide ((s.chan c).clock.status ≠ (u.chan c).clock.status)))))
    ∧ (readFormat format = none →
      exec (.formatSet p tag format) s = .next (s.replied p tag 0x3B .badParam []))

/-- CHANNEL_RESET from the supervisor: refused for a channel outside CH0 to CH3; otherwise the channel's cues,
window, counts, delay line and calibration take their CHANNEL_RESET values, its latches go, and everything else
stays (R51, R79, R80, R135, R152, R163, R167, R192). That the compositor's latches stand until the next period
start (R117) is the model's reading (notes/assumptions/22.md). -/
def Obligations.ChannelResetValues : Prop :=
  ∀ (s : State) (p : PortId) (tag ch : Byte),
    (s.port p).supervisor = true → s.Room p tag →
    (4 ≤ ch.toNat →
      exec (.channelReset p tag ch) s = .next (s.replied p tag 0x3C .badParam []))
    ∧ ∀ c : Channel, ch.toNat = c.val → s.PoolSound →
    ∃ u : State, exec (.channelReset p tag ch) s = .next (u.replied p tag 0x3C .ok [])
    ∧ u.timing = s.timing ∧ u.gpis = s.gpis ∧ u.tallies = s.tallies ∧ u.pending = s.pending
    ∧ (∀ d, d ≠ c → u.chan d = s.chan d)
    ∧ (∀ i, u.slot i = (if ((s.cue i).map (·.channel)) = some c
        then { s.slot i with cue := none } else s.slot i))
    ∧ (u.chan c).clock = (s.chan c).clock ∧ (u.chan c).presets = (s.chan c).presets
    ∧ (u.chan c).latches = (s.chan c).latches ∧ (u.chan c).report = (s.chan c).report
    ∧ (u.chan c).scheduler = {
        timed := [], contact := [], ring := [], total := 0, hold := ⟨false, false, false⟩,
        resume := false, reported := false, scan := (s.chan c).scheduler.scan,
        lateTolerance := (s.chan c).scheduler.lateTolerance }
    ∧ (u.chan c).window = Window.afterReset ((s.chan c).presets.pick 0).layout
        (s.chan c).window.fade (s.contactLevel .suppress c) (s.chan c).sync.level
        (s.contactLevel .hold c)
    ∧ (u.chan c).sync = { (s.chan c).sync with repeats := 0, drops := 0 }
    ∧ (let d := (s.chan c).delay
      let e := (u.chan c).delay
      e = { d with
          lag := 0, requested := min 60 (((s.chan c).calibration.latency + 1) / 2)
          actual := min e.requested (s.free + d.held - 1), target := e.actual
          held := e.actual + 1, ring := e.ring, slewCount := 0 }
      ∧ e.ring.length = e.held
      ∧ (∀ i, i < e.held → e.ring[i]? = if i < d.held then d.ring[i]? else some none)
      ∧ u.free + e.held = s.free + d.held)
    ∧ (u.chan c).calibration = (if (s.chan c).calibration.running
        then { (s.chan c).calibration with running := false, lastResult := .aborted }
        else (s.chan c).calibration)
    ∧ (∀ q, u.port q = { s.port q with latches := (u.port q).latches }
        ∧ ∀ l, (u.port q).holds l = (match l with
          | .channel k d =>
            if d = c then
              decide (k = .calibrationDone) && ((s.chan c).calibration.running
                && (decide ((s.chan c).calibration.origin = some q) && (s.port q).enables l))
            else (s.port q).holds l
          | .replyOverrun => (s.port q).holds l
          | .referenceChange => (s.port q).holds l))

/-! ## Station timing and the cue clock -/

/-- The reference state table (R2), the place of the output frame start (R3) and the posting of R6.
REFERENCE_FRAME_START and REFERENCE_TIMEOUT change the timing unit's reference as given and nothing else but the
latches. That a first reference frame start has no interval and so is not good, that one later than the
tolerance while still LOCKED is the loss itself, that the count of good intervals stands as it is while LOCKED, is
raised on locking and is 0 on loss, that a reading below the last one counts as an interval of 0, and how an
extended frame ends, are the model's readings (notes/assumptions/9.md, 11.md, 12.md, 7.md and 32.md). -/
def Obligations.ReferenceStateTable : Prop :=
  (∀ (s : State) (now : Nat),
    let k := s.timing
    let nominal := frameInterval k.format
    let tolerance := referenceTolerance k.format
    let good := ∃ last, k.lastReference = some last ∧ nominal ≤ (now - last) + tolerance
      ∧ now - last ≤ nominal + tolerance
    ∃ t, exec (.referenceFrameStart now) s = .next t
      ∧ t = { s with timing := t.timing, ports := t.ports }
      ∧ s.Posted t (fun l => l = .referenceChange ∧ t.timing.reference ≠ k.reference)
      ∧ (k.reference = .locked → good → t.timing = { k with lastReference := some now })
      ∧ (k.reference = .locked → ¬ good → t.timing = { k with
          lastReference := some now, reference := .free, goodIntervals := 0, extending := false })
      ∧ (k.reference = .free → good → k.goodIntervals = 0 → t.timing = { k with
          lastReference := some now, goodIntervals := 1 })
      ∧ (k.reference = .free → good → 1 ≤ k.goodIntervals → t.timing = { k with
          lastReference := some now, reference := .locked, goodIntervals := k.goodIntervals + 1
          extending := true })
      ∧ (k.reference = .free → ¬ good → t.timing = { k with
          lastReference := some now, goodIntervals := 0 }))
  ∧ (∀ (s : State), s.timing.reference = .locked →
    ∃ t, exec .referenceTimeout s = .next t
      ∧ t = { s with
          timing := { s.timing with reference := .free, goodIntervals := 0, extending := false }
          ports := t.ports }
      ∧ s.Posted t (fun l => l = .referenceChange))
  ∧ (∀ (s : State), s.timing.reference = .free → exec .referenceTimeout s = .next s)
  ∧ ∀ (k : Timing),
    (k.reference = .locked → k.extending = false ∨ k.lastFrameStart = none →
      k.placement = .atReference)
    ∧ (∀ last, k.reference = .locked → k.extending = true → k.lastFrameStart = some last →
      k.placement = .atReferenceFrom (last + frameInterval k.format))
    ∧ (∀ last, k.reference = .free → k.lastFrameStart = some last →
      k.placement = .atReading (last + (if fractional k.format then 900900 else 1080000)))
    ∧ (k.reference = .free → k.lastFrameStart = none → k.placement = .atOnce)

/-- A relock frame (R4): an OUTPUT_FRAME_START with the relock count above 0 counts it down and ends the extending
of a frame (R3), while what the outputs carry changes only with the next period start (R98), writes its input frame into every delay ring (R137, R138), reads the delayed frame at the actual
delay, which stays, with the kind ordinary (R139, R145), and leaves clocks, cues, windows, calibrations and
ports alone. RELOCK_END ends the relock and posts REFERENCE_CHANGE; that it is a row of its own, which changes
nothing but that, and nothing at all where no relock is at its end, is the model's choice
(notes/assumptions/2.md), and so is the moment at which black ends (notes/assumptions/15.md and 32.md). -/
def Obligations.RelockFrames : Prop :=
  (∀ (s : State) (now : Nat) (inputs : Bank 4 (List InputFrame)) (order : List FrameTask),
    0 < s.timing.relockCount →
    ∃ t, exec (.outputFrameStart now inputs order) s = .next t
      ∧ t = { s with timing := t.timing, channels := t.channels }
      ∧ t.timing.relockCount = s.timing.relockCount - 1 ∧ t.timing.relocking = true
      ∧ t.timing.lastFrameStart = some now ∧ t.timing.frameInProgress = true
      ∧ t.timing.extending = false ∧ t.timing.firstPeriodDue = true
      ∧ t.timing.blanking = s.timing.blanking ∧ t.timing.relockPeriod = s.timing.relockPeriod
      ∧ t.timing.format = s.timing.format ∧ t.timing.reference = s.timing.reference
      ∧ ∀ c, t.chan c = ((s.chan c).setReport none).setDelay (t.chan c).delay
          ∧ (t.chan c).delay = { (s.chan c).delay with
              ring := (some (s.inputFrame (inputs.pick c)) :: (s.chan c).delay.ring).take
                (s.chan c).delay.held
              kind := .ordinary
              delayed := (t.chan c).delay.frameAt (s.chan c).delay.actual })
  ∧ (∀ (s : State), s.timing.relocking = true → s.timing.relockCount = 0 →
    ∃ t, exec .relockEnd s = .next t
      ∧ t = { s with timing := { s.timing with relocking := false }, ports := t.ports }
      ∧ s.Posted t (fun l => l = .referenceChange))
  ∧ ∀ (s : State), s.timing.relocking = false ∨ 0 < s.timing.relockCount →
    exec .relockEnd s = .next s

/-- An ordinary OUTPUT_FRAME_START. After the relock's part (R4, R6) every part of the event is taken once, in some
order (channel by channel for the empty list), each report being handed to the scheduler (R36; ReportScan says what it
does) and to the span matcher (R64; SpanSetResult) after its clock's update. Whatever that order, every channel's
clock is updated once, from the frame its delay line reads after its write and slew (R13, R14, R15, R17, R139, R145),
and CLOCK_CHANGE is posted exactly for a change of the clock's state, for a jump other than the one of 2 over a
dropped frame, and for a preset that takes effect (R18). That a report's cues are one part and its span change
another, and the order that the empty list names, are the model's choice (notes/assumptions/6.md); so is that the
frame's first period is then due and an extension over (notes/assumptions/8.md and 32.md). The input frame written is
the last complete one of the station format that began within the frame now ending, and otherwise black (R138). -/
def Obligations.OrdinaryFrameClocks : Prop :=
  (∀ (s : State) (now : Nat) (inputs : Bank 4 (List InputFrame)) (order : List FrameTask),
    s.timing.relockCount = 0 →
    ∃ (r t : State) (tasks : List FrameTask), exec (.outputFrameStart now inputs order) s = .next t
      ∧ r = { s with timing := { s.timing with relocking := false }, ports := r.ports }
      ∧ s.Posted r (fun l => l = .referenceChange ∧ s.timing.relocking = true)
      ∧ tasks.Perm frameTasks ∧ (order = [] → tasks = frameTasks)
      ∧ (∀ c, [.delay c, .cues c].Sublist tasks ∧ [.delay c, .spans c].Sublist tasks)
      ∧ t = (tasks.foldl (State.frameTask inputs) r).setTiming { s.timing with
          relocking := false, lastFrameStart := some now, extending := false
          frameInProgress := true, firstPeriodDue := true }
      ∧ t.gpis = s.gpis ∧ t.tallies = s.tallies ∧ t.pending = s.pending
      ∧ ∀ c,
        let written := (s.chan c).delay.write (s.inputFrame (inputs.pick c))
        let moved := if written.stepDue then written.slewStep else { written with kind := .ordinary }
        let frame := moved.frameAt moved.actual
        let old := (s.chan c).clock
        let clock := old.update s.timing.format frame moved.kind
        let report := stepReport s.timing.format old clock
        (t.chan c).clock = clock
        ∧ (t.chan c).report = some report
        ∧ (t.chan c).delay.delayed = frame ∧ (t.chan c).delay.kind = moved.kind
        ∧ (t.chan c).delay.actual = moved.actual
        ∧ (t.chan c).presets = (s.chan c).presets ∧ (t.chan c).sync = (s.chan c).sync
        ∧ (t.chan c).calibration = (s.chan c).calibration
        ∧ (t.chan c).latches = (s.chan c).latches
        ∧ ∀ q, (t.port q).holds (.channel .clockChange c) = true ↔
            (s.port q).holds (.channel .clockChange c) = true
            ∨ ((s.port q).enables (.channel .clockChange c) = true
              ∧ (clock.status ≠ old.status
                ∨ (clock.status ≠ .invalid
                  ∧ (report.kind = .backward ∨ (report.kind = .forward
                    ∧ ¬ (report.distance = 2 ∧ moved.kind = .afterDrop))))
                ∨ (old.source = .internal ∧ old.pendingPreset ≠ none))))
  ∧ (∀ (inputs : Bank 4 (List InputFrame)) (u : State) (c : Channel),
    (∀ r, (u.chan c).report = some r → u.frameTask inputs (.cues c) = u.scheduleCues c r)
    ∧ ((u.chan c).report = none → u.frameTask inputs (.cues c) = u)
    ∧ u.frameTask inputs (.spans c) = u.reportSpans c)
  ∧ ∀ (s : State) (arrived : List InputFrame),
    (s.timing.frameInProgress = false ∨ (∀ x ∈ arrived, x.format ≠ s.timing.format) →
      s.inputFrame arrived = { first := blackPart, second := blackPart })
    ∧ ∀ before x after, s.timing.frameInProgress = true → arrived = before ++ x :: after →
      x.format = s.timing.format → (∀ y ∈ after, y.format ≠ s.timing.format) →
      s.inputFrame arrived = x.frame

/-- The cue clock's update by the tables of R13 to R15: a label, the freewheel, its end, and the three
advances of an INTERNAL clock. -/
def Obligations.CueClockTable : Prop :=
  ∀ (k : CueClock) (f : Format) (frame : ProgrammeFrame) (kind : FrameKind),
    let new := k.update f frame kind
    let day := dayLength f k.dropMode
    (∀ l, k.source = .embedded → frame.first.anc.timecode = some l →
        labelValid f k.dropMode l = true →
        new.value = frameNumber f k.dropMode l ∧ new.status = .valid ∧ new.freewheelCount = 0
          ∧ new.lastValid = some new.value)
    ∧ (k.source = .embedded →
        (∀ l, frame.first.anc.timecode = some l → labelValid f k.dropMode l = false) →
        (k.status = .valid → 0 < k.freewheelLimit →
          new.status = .freewheel ∧ new.freewheelCount = 1 ∧ new.value = (k.value + 1) % day
            ∧ new.lastValid = some new.value)
        ∧ (k.status = .valid → k.freewheelLimit = 0 → new = { k with status := .invalid })
        ∧ (k.status = .freewheel → k.freewheelCount < k.freewheelLimit →
          new.status = .freewheel ∧ new.freewheelCount = k.freewheelCount + 1
            ∧ new.value = (k.value + 1) % day ∧ new.lastValid = some new.value)
        ∧ (k.status = .freewheel → k.freewheelLimit ≤ k.freewheelCount →
          new = { k with status := .invalid })
        ∧ (k.status = .invalid → new = k))
    ∧ (k.source = .internal → k.pendingPreset = none →
        new = { k with
          value := (k.value + (match kind with
            | .ordinary => 1
            | .repeated => 0
            | .afterDrop => 2)) % day
          lastValid := some ((k.value + (match kind with
            | .ordinary => 1
            | .repeated => 0
            | .afterDrop => 2)) % day) })
    ∧ (∀ n, k.source = .internal → k.pendingPreset = some n →
        new = { k with value := n, lastValid := some n, pendingPreset := none })

/-- FREEWHEEL_EXPIRED (R14, R17, R18): an EMBEDDED clock in FREEWHEEL at its limit becomes INVALID with its value
and count held, reports INVALID, and posts CLOCK_CHANGE; that a hold counts this report as one (R44) is the model's reading
(notes/assumptions/31.md). CLOCK_PRESET in its cases (R16), and CLOCK_PRESET_APPLIED (R15, R18): a pending preset
takes effect as an advance of distance 1, and CLOCK_CHANGE is posted. That the two events are rows of their own,
taken apart from an output frame start, is the model's choice (notes/assumptions/2.md). -/
def Obligations.ClockEvents : Prop :=
  (∀ (s : State) (c : Channel), s.timing.relocking = false → (s.chan c).clock.source = .embedded →
     (s.chan c).clock.status = .freewheel →
     (s.chan c).clock.freewheelLimit ≤ (s.chan c).clock.freewheelCount →
     ∃ t, exec (.freewheelExpired c) s = .next t
       ∧ t = { s with channels := t.channels, ports := t.ports }
       ∧ (∀ d, d ≠ c → t.chan d = s.chan d)
       ∧ t.chan c = (((s.chan c).setClock { (s.chan c).clock with status := .invalid }).setReport
           (t.chan c).report).setScheduler { (s.chan c).scheduler with
             reported := (s.chan c).scheduler.reported
               || decide ((s.chan c).scheduler.hold ≠ PortSet.empty) }
       ∧ ((t.chan c).report.map (·.status)) = some .invalid
       ∧ s.Posted t (fun l => l = .channel .clockChange c))
  ∧ ((∀ (s : State) (p : PortId) (tag ch : Byte) (label : LabelBytes), s.Room p tag →
     (4 ≤ ch.toNat →
       exec (.clockPreset p tag ch label) s = .next (s.replied p tag 0x33 .badParam []))
     ∧ ∀ c : Channel, ch.toNat = c.val →
       let l := labelOfBytes label
       (labelValid s.timing.format (s.chan c).clock.dropMode l = false →
         exec (.clockPreset p tag ch label) s = .next (s.replied p tag 0x33 .badParam []))
       ∧ (labelValid s.timing.format (s.chan c).clock.dropMode l = true →
           (s.chan c).clock.source = .embedded →
         exec (.clockPreset p tag ch label) s = .next (s.replied p tag 0x33 .notReady []))
       ∧ (labelValid s.timing.format (s.chan c).clock.dropMode l = true →
           (s.chan c).clock.source = .internal →
         exec (.clockPreset p tag ch label) s = .next ((s.setChan c ((s.chan c).setClock
           { (s.chan c).clock with
             pendingPreset := some (frameNumber s.timing.format (s.chan c).clock.dropMode l) }
           )).replied p tag 0x33 .ok [])))
   ∧ (∀ (s : State) (c : Channel) (order : ReportOrder) (n : Nat),
     (s.chan c).clock.source = .internal → (s.chan c).clock.pendingPreset = some n →
     s.timing.relocking = false →
     ∃ t, exec (.clockPresetApplied c order) s = .next t
       ∧ (t.chan c).clock = { (s.chan c).clock with
           value := n, lastValid := some n, pendingPreset := none }
       ∧ ((s.chan c).clock.status ≠ .invalid →
           (t.chan c).report = some {
             status := (s.chan c).clock.status, value := n, distance := 1, kind := .advance })
       ∧ (∀ q, (s.port q).enables (.channel .clockChange c) = true →
           (t.port q).holds (.channel .clockChange c) = true)
       ∧ t.timing = s.timing ∧ t.gpis = s.gpis ∧ t.tallies = s.tallies ∧ t.pending = s.pending
       ∧ ∀ d, d ≠ c → t.chan d = s.chan d))

/-- The step report (R17): an INVALID clock reports INVALID; a preset taking effect (R15), or the want of a last
valid value (R13), makes an advance of distance 1; and otherwise the distance is measured from the last valid
value, and the kind follows from it by the table, with the half-day of the rate and drop mode. -/
def Obligations.StepReportKinds : Prop :=
  ∀ (f : Format) (old new : CueClock),
    let r := stepReport f old new
    let half := if fractional f then (if new.dropMode = .df then 1294704 else 1296000) else 1080000
    let preset := old.source = .internal ∧ old.pendingPreset ≠ none
    (new.status = .invalid → r.status = .invalid)
    ∧ (new.status ≠ .invalid →
      r.status = new.status ∧ r.value = new.value
      ∧ (old.lastValid = none ∨ preset → r.distance = 1 ∧ r.kind = .advance)
      ∧ ∀ v, old.lastValid = some v → ¬ preset →
        r.distance = ((new.value : Int) - (v : Int)) % (dayLength f new.dropMode : Int)
        ∧ (r.kind = .repeated ↔ r.distance = 0)
        ∧ (r.kind = .advance ↔ r.distance = 1)
        ∧ (r.kind = .forward ↔ 2 ≤ r.distance ∧ r.distance < half)
        ∧ (r.kind = .backward ↔ half ≤ r.distance))

/-- Labels without drop-frame counting (R9): the formula, the day length, and that every frame number of
the day has exactly one label and every valid label one frame number. -/
def Obligations.PlainLabels : Prop :=
  ∀ (f : Format) (m : DropMode), dropFrame f m = false →
    let fps := if fractional f then 30 else 25
    let day := if fractional f then 2592000 else 2160000
    dayLength f m = day
    ∧ (∀ l, labelValid f m l = true →
        frameNumber f m l = (l.hh * 3600 + l.mm * 60 + l.ss) * fps + l.ff
        ∧ frameNumber f m l < day ∧ labelOf f m (frameNumber f m l) = l)
    ∧ ∀ n, n < day →
        labelOf f m n = { ff := n % fps, ss := n / fps % 60, mm := n / fps / 60 % 60,
                          hh := n / fps / 3600 }
        ∧ labelValid f m (labelOf f m n) = true ∧ frameNumber f m (labelOf f m n) = n

/-- Drop-frame labels (R11): how the label of a frame number is found, that it is valid, and that the
conversion of R10 gives the number back. -/
def Obligations.DropFrameLabels : Prop :=
  ∀ (f : Format), fractional f = true → ∀ n, n < 2589408 →
    let counted := if n % 17982 < 2 then n + 18 * (n / 17982)
      else n + 18 * (n / 17982) + 2 * ((n % 17982 - 2) / 1798)
    let l := labelOf f .df n
    l = { ff := counted % 30, ss := counted / 30 % 60, mm := counted / 30 / 60 % 60,
          hh := counted / 30 / 3600 }
    ∧ labelValid f .df l = true
    ∧ frameNumber f .df l = (l.hh * 3600 + l.mm * 60 + l.ss) * 30 + l.ff
        - 2 * ((60 * l.hh + l.mm) - (60 * l.hh + l.mm) / 10)
    ∧ frameNumber f .df l = n

/-! ## The cue table -/

/-- CUE_ADD (R20, R25 to R27): the refusals, and for a request taken the slot, its next generation, the
record, its late mark, its place on its list, and the reply. Nothing else changes. -/
def Obligations.CueAddResult : Prop :=
  ∀ (s : State) (p : PortId) (tag : Byte) (f : CueFields), s.Room p tag → s.CuesSound →
    (s.CueRefused f → exec (.cueAdd p tag f) s = .next (s.replied p tag 0x10 .badParam []))
    ∧ (¬ s.CueRefused f → (∀ i, (s.cue i).isSome = true) →
        exec (.cueAdd p tag f) s = .next (s.replied p tag 0x10 .poolFull []))
    ∧ (¬ s.CueRefused f → ∀ i, s.cue i = none → (∀ j, j < i → (s.cue j).isSome = true) →
      ∃ (u : State) (k : Cue) (g : Nat), exec (.cueAdd p tag f) s = .next
          (u.replied p tag 0x10 (clampedCode (cueFieldsClamped f))
            ([byte1 i, byte1 g, flagByte k.late] ++ bytes2 k.duration ++ [byte1 k.lag]))
        ∧ s.CueRead f k ∧ k.origin = p
        ∧ g = (if (s.slot i).generation = 255 then 1 else (s.slot i).generation + 1)
        ∧ u = { s with cues := u.cues, channels := u.channels }
        ∧ u.slot i = { generation := g, cue := some k } ∧ (∀ j, j ≠ i → u.slot j = s.slot j)
        ∧ (∀ d, d ≠ k.channel → u.chan d = s.chan d)
        ∧ u.chan k.channel = (s.chan k.channel).setScheduler { (s.chan k.channel).scheduler with
            timed := (u.chan k.channel).scheduler.timed
            contact := (u.chan k.channel).scheduler.contact }
        ∧ (∀ n, k.trigger = .time n → s.LateMark k.channel n k.late
            ∧ s.Inserted (s.chan k.channel).scheduler.timed (u.chan k.channel).scheduler.timed i n
            ∧ (u.chan k.channel).scheduler.contact = (s.chan k.channel).scheduler.contact)
        ∧ (∀ x, k.trigger = .contact x → k.late = false
            ∧ (u.chan k.channel).scheduler.contact = (s.chan k.channel).scheduler.contact ++ [i]
            ∧ (u.chan k.channel).scheduler.timed = (s.chan k.channel).scheduler.timed))

/-- CUE_MODIFY (R21, R28, R29): a stale handle, a port that may not, and fields that do not fit are refused
and change nothing; otherwise the record is replaced, keeping handle, channel, kind and origin, and the cue
moves on its list and is judged late anew only where its fire time changes. -/
def Obligations.CueModifyResult : Prop :=
  ∀ (s : State) (p : PortId) (tag : Byte) (h : HandleBytes) (f : CueFields),
    s.Room p tag → s.CuesSound → s.RecordsSound →
    let i : SlotIx := h.slot.toFin
    let live := h.generation.toNat ≠ 0 ∧ (s.slot i).generation = h.generation.toNat
    (¬ live ∨ s.cue i = none →
      exec (.cueModify p tag h f) s = .next (s.replied p tag 0x11 .noCue []))
    ∧ ∀ old, live → s.cue i = some old →
      (old.origin ≠ p → (s.port p).supervisor = false →
        exec (.cueModify p tag h f) s = .next (s.replied p tag 0x11 .notOwner []))
      ∧ (old.origin = p ∨ (s.port p).supervisor = true →
        let misfit := s.CueRefused f ∨ f.channel.toNat ≠ old.channel.val
          ∨ f.kind ≠ (if old.isTime then 0 else 1)
        (misfit → exec (.cueModify p tag h f) s = .next (s.replied p tag 0x11 .badParam []))
        ∧ (¬ misfit → ∃ (u : State) (k : Cue), exec (.cueModify p tag h f) s = .next
              (u.replied p tag 0x11 (clampedCode (cueFieldsClamped f))
                ([flagByte k.late] ++ bytes2 k.duration ++ [byte1 k.lag]))
          ∧ s.CueRead f k ∧ k.origin = old.origin
          ∧ u = { s with cues := u.cues, channels := u.channels }
          ∧ u.slot i = { s.slot i with cue := some k } ∧ (∀ j, j ≠ i → u.slot j = s.slot j)
          ∧ (∀ d, d ≠ old.channel → u.chan d = s.chan d)
          ∧ u.chan old.channel = (s.chan old.channel).setScheduler
              { (s.chan old.channel).scheduler with
                timed := (u.chan old.channel).scheduler.timed }
          ∧ (k.trigger = old.trigger ∨ old.isTime = false → k.late = old.late
              ∧ (u.chan old.channel).scheduler.timed = (s.chan old.channel).scheduler.timed)
          ∧ (∀ n, k.trigger = .time n → k.trigger ≠ old.trigger →
              s.LateMark old.channel n k.late
              ∧ s.Inserted ((s.chan old.channel).scheduler.timed.filter (· ≠ i))
                  (u.chan old.channel).scheduler.timed i n)))

/-- CUE_DELETE (R21, R28, R30, R47, R50): refused for a stale handle or a port that may not; otherwise the
cue is retired CANCELLED. -/
def Obligations.CueDeleteResult : Prop :=
  ∀ (s : State) (p : PortId) (tag : Byte) (h : HandleBytes), s.Room p tag →
    let i : SlotIx := h.slot.toFin
    let live := h.generation.toNat ≠ 0 ∧ (s.slot i).generation = h.generation.toNat
    (¬ live ∨ s.cue i = none →
      exec (.cueDelete p tag h) s = .next (s.replied p tag 0x12 .noCue []))
    ∧ ∀ k, live → s.cue i = some k →
      (k.origin ≠ p → (s.port p).supervisor = false →
        exec (.cueDelete p tag h) s = .next (s.replied p tag 0x12 .notOwner []))
      ∧ (k.origin = p ∨ (s.port p).supervisor = true →
        ∃ u : State, exec (.cueDelete p tag h) s = .next (u.replied p tag 0x12 .ok [])
          ∧ s.Retired u k.channel [i] .cancelled)

/-- CUE_CLEAR (R31): the cues of the channel that are the port's own, or all of them for the supervisor,
are retired CANCELLED, those of the timed list first, and the reply counts them. -/
def Obligations.CueClearResult : Prop :=
  ∀ (s : State) (p : PortId) (tag ch scope : Byte), s.Room p tag → s.CuesSound → s.RingsSound →
    (4 ≤ ch.toNat ∨ 2 ≤ scope.toNat →
      exec (.cueClear p tag ch scope) s = .next (s.replied p tag 0x15 .badParam []))
    ∧ (ch.toNat < 4 → scope = 1 → (s.port p).supervisor = false →
      exec (.cueClear p tag ch scope) s = .next (s.replied p tag 0x15 .notSupervisor []))
    ∧ ∀ c : Channel, ch.toNat = c.val → (scope = 0 ∨ (scope = 1 ∧ (s.port p).supervisor = true)) →
      ∃ (u : State) (gone : List SlotIx),
        exec (.cueClear p tag ch scope) s = .next (u.replied p tag 0x15 .ok (bytes2 gone.length))
        ∧ gone = ((s.chan c).scheduler.timed ++ (s.chan c).scheduler.contact).filter (fun i =>
            decide (scope = 1) || decide ((s.cue i).map (·.origin) = some p))
        ∧ s.Retired u c gone .cancelled

/-- CUE_SKIP_NEXT (R32): the first late-marked cue of the timed list, or else the first of least distance
ahead of the scan value (of the clock value where there is none), is retired SKIPPED; an empty list gives
NO_CUE. -/
def Obligations.CueSkipNextResult : Prop :=
  ∀ (s : State) (p : PortId) (tag ch : Byte), s.Room p tag → s.CuesSound →
    (4 ≤ ch.toNat →
      exec (.cueSkipNext p tag ch) s = .next (s.replied p tag 0x14 .badParam []))
    ∧ ∀ c : Channel, ch.toNat = c.val →
      ((s.chan c).scheduler.timed = [] →
        exec (.cueSkipNext p tag ch) s = .next (s.replied p tag 0x14 .noCue []))
      ∧ ((s.chan c).scheduler.timed ≠ [] →
        ∃ (u : State) (before after : List SlotIx) (i : SlotIx),
          exec (.cueSkipNext p tag ch) s = .next
            (u.replied p tag 0x14 .ok [byte1 i, byte1 (s.slot i).generation])
          ∧ s.Retired u c [i] .skipped
          ∧ (s.chan c).scheduler.timed = before ++ i :: after
          ∧ ((∃ j ∈ (s.chan c).scheduler.timed, s.lateAt j = true) →
              s.lateAt i = true ∧ ∀ j ∈ before, s.lateAt j = false)
          ∧ ((∀ j ∈ (s.chan c).scheduler.timed, s.lateAt j = false) →
              let r := (s.chan c).scheduler.scan.getD (s.chan c).clock.value
              let ahead := fun j : SlotIx =>
                let d := ((s.fireTimeAt j : Int) - (r : Int)) % (s.day c : Int)
                if d = 0 then (s.day c : Int) else d
              (∀ j ∈ before, ahead i < ahead j) ∧ ∀ j ∈ after, ahead i ≤ ahead j))

/-- CUE_HOLD (R43), with the resume flag (R44): each channel of the mask alone has the port's member put in or
taken out, or its hold set emptied. A hold sets the flag; one released without a report of the clock since leaves
the next step as the clock reports it, which the model reads as clearing the flag again
(notes/assumptions/31.md). -/
def Obligations.CueHoldResult : Prop :=
  ∀ (s : State) (p : PortId) (tag mask action : Byte), s.Room p tag →
    (mask = 0 ∨ 16 ≤ mask.toNat ∨ 3 ≤ action.toNat →
      exec (.cueHold p tag mask action) s = .next (s.replied p tag 0x16 .badParam []))
    ∧ (0 < mask.toNat → mask.toNat < 16 → action = 2 → (s.port p).supervisor = false →
      exec (.cueHold p tag mask action) s = .next (s.replied p tag 0x16 .notSupervisor []))
    ∧ (0 < mask.toNat → mask.toNat < 16 →
        (action = 0 ∨ action = 1 ∨ (action = 2 ∧ (s.port p).supervisor = true)) →
      ∃ u : State, exec (.cueHold p tag mask action) s = .next (u.replied p tag 0x16 .ok [])
        ∧ u = { s with channels := u.channels }
        ∧ ∀ c : Channel,
          (mask.getLsbD c = false → u.chan c = s.chan c)
          ∧ (mask.getLsbD c = true →
            let k := (s.chan c).scheduler
            let h := (u.chan c).scheduler.hold
            u.chan c = (s.chan c).setScheduler { k with
              hold := h
              resume := if k.hold = PortSet.empty ∧ h ≠ PortSet.empty then true
                else if k.hold ≠ PortSet.empty ∧ h = PortSet.empty then k.resume && k.reported
                else k.resume
              reported := if k.hold = PortSet.empty ∧ h ≠ PortSet.empty then k.resume && k.reported
                else k.reported }
            ∧ (action = 0 → h.pick p = true) ∧ (action = 1 → h.pick p = false)
            ∧ (action ≠ 2 → ∀ q, q ≠ p → h.pick q = k.hold.pick q)
            ∧ (action = 2 → h = PortSet.empty)))
    ∧ ∀ (k : Scheduler) (h : PortSet), k.hold = PortSet.empty → k.resume = false →
      h ≠ PortSet.empty →
      (k.setHold h).setHold PortSet.empty = { k with reported := false }
      ∧ (k.setHold h).noteReport.setHold PortSet.empty = { k with resume := true, reported := true }

/-- What a step report does to the plan (R36 to R40): a report made during a hold or while the clock is
INVALID changes nothing; any other takes the reported value as scan value, clears the resume flag, and
removes from the timed list exactly the late-marked cues, those a forward jump passes, and on an advance
or a forward jump those at the new value. They are dealt with one after another, each whole (R41), in these three
groups: the late-marked in list order as FIRED_LATE; the passed in ascending distance from the old value, equal
ones in list order, as FIRED_LATE within the tolerance (R40) and else MISSED; and those at the new value in list
order as FIRED. The old value is the scan value after a hold. The report's distance lies below the day length, as every
distance that R17 makes does. -/
def Obligations.ReportScan : Prop :=
  ∀ (s : State) (c : Channel) (r : StepReport), s.CuesSound →
    r.status = .invalid ∨ r.distance < s.day c →
    let k := (s.chan c).scheduler
    let t := s.scheduleCues c r
    (k.hold ≠ PortSet.empty ∨ r.status = .invalid → t = s)
    ∧ (k.hold = PortSet.empty → r.status ≠ .invalid →
      ∀ (old d : Nat) (kind : StepKind),
        (∀ v, k.resume = true → k.scan = some v →
          old = v ∧ (d : Int) = ((r.value : Int) - (v : Int)) % (s.day c : Int)
            ∧ kind = stepKind s.timing.format (s.chan c).clock.dropMode d) →
        (k.resume = false ∨ k.scan = none →
          (old : Int) = ((r.value : Int) - (r.distance : Int)) % (s.day c : Int)
            ∧ d = r.distance ∧ kind = r.kind) →
        let ahead := fun i : SlotIx => ((s.fireTimeAt i : Int) - (old : Int)) % (s.day c : Int)
        let dealt := fun i : SlotIx =>
          s.lateAt i = true
            ∨ (kind = .forward ∧ 0 < ahead i ∧ ahead i < (d : Int))
            ∨ ((kind = .advance ∨ kind = .forward) ∧ s.fireTimeAt i = r.value)
        (t.chan c).scheduler.scan = some r.value ∧ (t.chan c).scheduler.resume = false
        ∧ (t.chan c).scheduler.hold = k.hold ∧ (t.chan c).scheduler.contact = k.contact
        ∧ (t.chan c).scheduler.timed.Sublist k.timed
        ∧ (∀ i, i ∈ (t.chan c).scheduler.timed ↔ i ∈ k.timed ∧ ¬ dealt i)
        ∧ (∀ i, i ∈ k.timed → dealt i → t.slot i = { s.slot i with cue := none })
        ∧ (∀ i, ¬ (i ∈ k.timed ∧ dealt i) → t.slot i = s.slot i)
        ∧ (∀ b, b ≠ c → t.chan b = s.chan b)
        ∧ (t.chan c).clock = (s.chan c).clock ∧ (t.chan c).sync = (s.chan c).sync
        ∧ t.timing = s.timing ∧ t.gpis = s.gpis ∧ t.tallies = s.tallies
        ∧ ∃ (u : State) (passed : List SlotIx),
          passed.Nodup
          ∧ (∀ i, i ∈ passed ↔ i ∈ k.timed ∧ s.lateAt i = false ∧ kind = .forward ∧ 0 < ahead i
              ∧ ahead i < (d : Int))
          ∧ passed.Pairwise (fun i j => ahead i < ahead j ∨ (ahead i = ahead j ∧ [i, j].Sublist k.timed))
          ∧ State.CuesDealt c s u
              ((k.timed.filter fun i => s.lateAt i).map (·, .firedLate)
                ++ passed.map (·, if d ≤ k.lateTolerance + 1 then .firedLate else .missed)
                ++ (k.timed.filter fun i => !s.lateAt i && decide (s.fireTimeAt i = r.value)
                    && decide (kind = .advance ∨ kind = .forward)).map (·, .fired))
          ∧ t = u.setChan c ((u.chan c).setScheduler
              { (u.chan c).scheduler with scan := some r.value, resume := false }))

/-- MISSED cues (R40): a forward jump further than the late tolerance and one more, with no cue
late-marked and none at the new value, retires the cues it passed as MISSED in ascending distance from the
old value, and does nothing more than that. -/
def Obligations.MissedCues : Prop :=
  ∀ (s : State) (c : Channel) (r : StepReport), s.CuesSound → s.RingsSound →
    (s.chan c).scheduler.hold = PortSet.empty → r.status ≠ .invalid → r.kind = .forward →
    (s.chan c).scheduler.resume = false → (s.chan c).scheduler.lateTolerance + 1 < r.distance →
    (∀ i ∈ (s.chan c).scheduler.timed, s.lateAt i = false ∧ s.fireTimeAt i ≠ r.value) →
    ∃ (u : State) (gone : List SlotIx), s.Retired u c gone .missed
      ∧ s.scheduleCues c r = u.setChan c ((u.chan c).setScheduler
          { (u.chan c).scheduler with scan := some r.value })
      ∧ gone.Nodup
      ∧ (let old := ((r.value : Int) - (r.distance : Int)) % (s.day c : Int)
        let ahead := fun i : SlotIx => ((s.fireTimeAt i : Int) - old) % (s.day c : Int)
        (∀ i, i ∈ gone ↔ i ∈ (s.chan c).scheduler.timed ∧ 0 < ahead i ∧ ahead i < (r.distance : Int))
        ∧ gone.Pairwise (fun i j => ahead i ≤ ahead j))

/-- A FIRE edge (R41, R45): with the hold set empty, the oldest contact cue that names the input is retired
FIRED and its action then takes effect; otherwise nothing happens. -/
def Obligations.FireEdgeResult : Prop :=
  ∀ (s : State) (g : GpiIx) (c : Channel),
    ((s.chan c).scheduler.hold ≠ PortSet.empty → s.fireEdge g c = s)
    ∧ ((∀ i ∈ (s.chan c).scheduler.contact, ∀ k, s.cue i = some k → k.trigger ≠ .contact g) →
        s.fireEdge g c = s)
    ∧ ∀ before after i k, (s.chan c).scheduler.hold = PortSet.empty →
        (s.chan c).scheduler.contact = before ++ i :: after →
        (∀ j ∈ before, ∀ x, s.cue j = some x → x.trigger ≠ .contact g) →
        s.cue i = some k → k.trigger = .contact g →
        ∃ u, s.Retired u c [i] .fired ∧ (s.PoolSound → u.PoolSound)
          ∧ u.ActionTook (s.fireEdge g c) c { slot := i, generation := (s.slot i).generation } k

/-! ## The window controller and the layouts -/

/-- The window state machine (R53) with the entry to OFF (R56): `w` is the window with its new requested
state and suppression set, `n` the cause's duration. -/
def Obligations.WindowStateTable : Prop :=
  ∀ (w : Window) (presets : Bank 8 Preset) (n : Nat),
    let t := w.react presets n
    (w.requested = true → w.suppression = Suppression.empty →
      (w.state = .off → 0 < n → t = { w with
        state := .rising, opacity := 0, ramp := { start := 0, length := n, count := 0 } })
      ∧ (w.state = .off → n = 0 → t = { w with state := .on, opacity := 1024 })
      ∧ (w.state = .falling → 0 < n → w.opacity < 1024 → t = { w with
        state := .rising, ramp := { start := w.opacity, length := n, count := 0 } })
      ∧ (w.state = .falling → n = 0 ∨ 1024 ≤ w.opacity →
        t = { w with state := .on, opacity := 1024 })
      ∧ (w.state = .rising ∨ w.state = .on → t = w))
    ∧ (w.requested = false ∨ w.suppression ≠ Suppression.empty →
      (w.state = .rising ∨ w.state = .on → 0 < n → 0 < w.opacity → t = { w with
        state := .falling, ramp := { start := w.opacity, length := n, count := 0 } })
      ∧ (w.state = .rising ∨ w.state = .on → n = 0 ∨ w.opacity = 0 →
        t = { w with
          state := .off, opacity := 0, move := none, pendingLayout := none
          geometry := (match w.pendingLayout, w.move with
            | some q, _ => (presets.pick q.preset).layout
            | none, some m => m.target
            | none, none => w.geometry)
          lastPreset := (match w.pendingLayout with
            | some q => q.preset
            | none => w.lastPreset) })
      ∧ (w.state = .off ∨ w.state = .falling → t = w))

/-- WINDOW_SET (R72 to R74) and LAYOUT_SELECT (R68, R75): their refusals and replies, and what is taken: for
WINDOW_SET the preset's layout first, then the requested state, which the state machine follows over the
duration when effective on changes; for LAYOUT_SELECT the layout, the reply telling whether as a cut, a move
or a pending layout. -/
def Obligations.WindowRequests : Prop :=
  (∀ (s : State) (p : PortId) (tag ch direction : Byte) (duration : Half) (flag preset : Byte),
     s.Room p tag →
     let n := min 250 duration.toNat
     let code := clampedCode (decide (250 < duration.toNat))
     (4 ≤ ch.toNat ∨ 2 ≤ direction.toNat ∨ 2 ≤ flag.toNat
         ∨ (flag = 1 ∧ (direction = 1 ∨ 8 ≤ preset.toNat)) →
       exec (.windowSet p tag ch direction duration flag preset) s
         = .next (s.replied p tag 0x20 .badParam []))
     ∧ (∀ (c : Channel) (on : Bool), ch.toNat = c.val → direction = (if on then 0 else 1) → flag = 0 →
       let w := (s.chan c).window
       exec (.windowSet p tag ch direction duration flag preset) s
         = .next ((s.setChan c ((s.chan c).setWindow
             (w.follow { w with requested := on } (s.chan c).presets n))).replied p tag 0x20 code
               [byte1 n]))
     ∧ (∀ (c : Channel) (i : PresetIx), ch.toNat = c.val → direction = 0 → flag = 1 →
         preset.toNat = i.val →
       ∃ u v : State,
         exec (.windowSet p tag ch direction duration flag preset) s
           = .next (v.replied p tag 0x20 code [byte1 n])
         ∧ s.LayoutTook u c i n none
         ∧ u.WindowBecame v c ((u.chan c).window.follow
             { (u.chan c).window with requested := true } (u.chan c).presets n)))
  ∧ (∀ (s : State) (p : PortId) (tag ch preset : Byte) (duration : Half), s.Room p tag →
     (4 ≤ ch.toNat ∨ 8 ≤ preset.toNat →
       exec (.layoutSelect p tag ch preset duration) s
         = .next (s.replied p tag 0x21 .badParam []))
     ∧ ∀ (c : Channel) (i : PresetIx), ch.toNat = c.val → preset.toNat = i.val →
       let w := (s.chan c).window
       let n := min 250 duration.toNat
       let how : Byte :=
         if w.move.isSome ∨ w.pendingLayout.isSome then 2
         else if w.opacity = 0 ∨ n = 0 then 0 else 1
       ∃ u : State, exec (.layoutSelect p tag ch preset duration) s
           = .next (u.replied p tag 0x21 (clampedCode (decide (250 < duration.toNat)))
               [how, byte1 n])
         ∧ s.LayoutTook u c i n none)

/-- SUPPRESS (R60): in each channel of the mask alone, the port's member joins or leaves the suppression
set, or the three ports' members leave it, and the window follows (R52, R58, R62). -/
def Obligations.SuppressResult : Prop :=
  ∀ (s : State) (p : PortId) (tag mask action : Byte), s.Room p tag →
    (mask = 0 ∨ 16 ≤ mask.toNat ∨ 3 ≤ action.toNat →
      exec (.suppress p tag mask action) s = .next (s.replied p tag 0x22 .badParam []))
    ∧ (0 < mask.toNat → mask.toNat < 16 → action = 2 → (s.port p).supervisor = false →
      exec (.suppress p tag mask action) s = .next (s.replied p tag 0x22 .notSupervisor []))
    ∧ (0 < mask.toNat → mask.toNat < 16 →
        (action = 0 ∨ action = 1 ∨ (action = 2 ∧ (s.port p).supervisor = true)) →
      let set := fun c : Channel =>
        let old := (s.chan c).window.suppression
        if mask.getLsbD c = false then old
        else if action = 0 then old.put (portMember p) true
        else if action = 1 then old.put (portMember p) false
        else { old with portA := false, portB := false, portC := false }
      ∃ u : State, exec (.suppress p tag mask action) s = .next (u.replied p tag 0x22 .ok [])
        ∧ u = { s with channels := u.channels, ports := u.ports }
        ∧ (∀ c, let w := (s.chan c).window
          u.chan c = (s.chan c).setWindow
            (w.follow { w with suppression := set c } (s.chan c).presets w.fade))
        ∧ s.Posted u (fun l => ∃ c, l = .channel .suppressionChange c
            ∧ set c ≠ (s.chan c).window.suppression))

/-- SPAN_SET (R63, R65): its refusals; otherwise the span is replaced and the span result computed at
once, SPAN following it: against the clock value while the clock has one, and otherwise kept unless no span
is enabled. And the span matcher at a step report (R64): whatever the hold set holds, a report with a value gives
the span result of that value, SPAN following it, and an INVALID one, like a frame without a report, changes
nothing. -/
def Obligations.SpanSetResult : Prop :=
  (∀ (s : State) (c : Channel) (r : StepReport),
    ((s.chan c).report = none → s.reportSpans c = s)
    ∧ ((s.chan c).report = some r → r.status = .invalid → s.reportSpans c = s)
    ∧ ((s.chan c).report = some r → r.status ≠ .invalid →
      let w := (s.chan c).window
      ∃ result : Bool, (result = true ↔ ∃ j, (w.spans.pick j).enabled = true
          ∧ (if (w.spans.pick j).mode = .inside
              then (w.spans.pick j).start ≤ r.value ∧ r.value ≤ (w.spans.pick j).stop
              else (w.spans.pick j).start ≤ r.value ∨ r.value ≤ (w.spans.pick j).stop))
        ∧ (s.setChan c ((s.chan c).setWindow { w with spanMatch := result })).SuppressionTook
            (s.reportSpans c) c { w.suppression with span := result }))
  ∧ ∀ (s : State) (p : PortId) (tag ch index enable mode : Byte) (start stop : LabelBytes),
    s.Room p tag →
    (4 ≤ ch.toNat ∨ 4 ≤ index.toNat ∨ 2 ≤ enable.toNat ∨ 2 ≤ mode.toNat
        ∨ (∃ c : Channel, ch.toNat = c.val
          ∧ (labelValid s.timing.format (s.chan c).clock.dropMode (labelOfBytes start) = false
            ∨ labelValid s.timing.format (s.chan c).clock.dropMode (labelOfBytes stop) = false)) →
      exec (.spanSet p tag ch index enable mode start stop) s
        = .next (s.replied p tag 0x25 .badParam []))
    ∧ ∀ (c : Channel) (i : SpanIx) (on wrap : Bool), ch.toNat = c.val → index.toNat = i.val →
      enable = (if on then 1 else 0) → mode = (if wrap then 1 else 0) →
      labelValid s.timing.format (s.chan c).clock.dropMode (labelOfBytes start) = true →
      labelValid s.timing.format (s.chan c).clock.dropMode (labelOfBytes stop) = true →
      s.LevelsFollowed →
      let number := fun l => frameNumber s.timing.format (s.chan c).clock.dropMode (labelOfBytes l)
      let w := (s.chan c).window
      let spans := w.spans.put i
        { start := number start, stop := number stop, mode := if wrap then .wrap else .inside
          enabled := on, writer := some p }
      ∃ (result : Bool) (u : State),
        exec (.spanSet p tag ch index enable mode start stop) s
          = .next (u.replied p tag 0x25 .ok [])
        ∧ ((s.chan c).clock.status ≠ .invalid → (result = true ↔ ∃ j, (spans.pick j).enabled = true
            ∧ (if (spans.pick j).mode = .inside
                then (spans.pick j).start ≤ (s.chan c).clock.value
                  ∧ (s.chan c).clock.value ≤ (spans.pick j).stop
                else (spans.pick j).start ≤ (s.chan c).clock.value
                  ∨ (s.chan c).clock.value ≤ (spans.pick j).stop)))
        ∧ ((s.chan c).clock.status = .invalid → (result = true ↔
            w.spanMatch = true ∧ ∃ j, (spans.pick j).enabled = true))
        ∧ (s.setChan c ((s.chan c).setWindow
            { w with spans := spans, spanMatch := result })).SuppressionTook u c
              { w.suppression with span := result }

/-- The ramp at a period start (R54, R55), and RAMP_END, MOVE_END and PENDING_LAYOUT_TAKEN on their own (R54, R69,
R70). A ramp takes one step in RISING without contact hold and in FALLING and none otherwise; its last step
makes the window ON at 1024, or OFF at 0 with its move ended at its target and then its pending layout applied as a cut
(R56). Contact hold lets neither a rise nor a move take a step (R55, R69). Each of the three
commands takes just that step of its channel's window when it is the next, and otherwise changes nothing,
which is the model's choice (notes/assumptions/2.md). -/
def Obligations.WindowPeriodEvents : Prop :=
  (∀ (w : Window) (presets : Bank 8 Preset), w.RampSound →
     let t := w.advanceRamp presets
     let k := w.ramp.count + 1
     (w.state = .off ∨ w.state = .on ∨ (w.state = .rising ∧ w.contactHold = true) → t = w)
     ∧ (w.state = .rising → w.contactHold = false → k < w.ramp.length →
         t = { w with ramp := { w.ramp with count := k }
                      opacity := w.ramp.start + (1024 - w.ramp.start) * k / w.ramp.length }
         ∧ w.opacity ≤ t.opacity ∧ t.opacity < 1024)
     ∧ (w.state = .rising → w.contactHold = false → k = w.ramp.length →
         t = { w with ramp := { w.ramp with count := k }, state := .on, opacity := 1024 })
     ∧ (w.state = .falling → k < w.ramp.length →
         t = { w with ramp := { w.ramp with count := k }
                      opacity := w.ramp.start - w.ramp.start * k / w.ramp.length }
         ∧ t.opacity ≤ w.opacity ∧ 0 < t.opacity)
     ∧ (w.state = .falling → k = w.ramp.length →
         t = { w with
           ramp := { w.ramp with count := k }, state := .off, opacity := 0
           move := none, pendingLayout := none
           geometry := (match w.pendingLayout, w.move with
             | some q, _ => (presets.pick q.preset).layout
             | none, some m => m.target
             | none, none => w.geometry)
           lastPreset := (match w.pendingLayout with
             | some q => q.preset
             | none => w.lastPreset) }))
  ∧ (∀ (s : State) (c : Channel),
     let w := (s.chan c).window
     ((w.state = .rising ∧ w.contactHold = false) ∨ w.state = .falling →
         w.ramp.length = w.ramp.count + 1 →
       exec (.rampEnd c) s = .next (s.setChan c ((s.chan c).setWindow
         (w.advanceRamp (s.chan c).presets))))
     ∧ (w.ramp.count + 1 < w.ramp.length ∨ w.state = .off ∨ w.state = .on
         ∨ (w.state = .rising ∧ w.contactHold = true) →
       exec (.rampEnd c) s = .next s)
     ∧ (∀ m, w.move = some m → m.length = m.count + 1 → w.contactHold = false →
       exec (.moveEnd c) s = .next (s.setChan c ((s.chan c).setWindow
         { w with geometry := m.target, move := none })))
     ∧ (w.contactHold = true ∨ (∀ m, w.move = some m → m.count + 1 < m.length) →
       exec (.moveEnd c) s = .next s)
     ∧ (∀ q, w.move = none → w.pendingLayout = some q →
       exec (.pendingLayoutTaken c) s = .next (s.setChan c ((s.chan c).setWindow
         (if w.opacity = 0 ∨ q.duration = 0 then
           { w with geometry := ((s.chan c).presets.pick q.preset).layout, lastPreset := q.preset
                    pendingLayout := none }
         else
           { w with
             move := some { source := w.geometry
                            target := ((s.chan c).presets.pick q.preset).layout
                            preset := q.preset, length := q.duration, count := 0 }
             lastPreset := q.preset, pendingLayout := none }))))
     ∧ (w.move.isSome = true ∨ w.pendingLayout = none →
       exec (.pendingLayoutTaken c) s = .next s))

/-- PRESET_WRITE (R82, R88): its refusals; otherwise the values fitted to the raster of the station format in
force replace the record and are replied with the port as last writer, OK when nothing was changed and
OK_CLAMPED when something was. The working geometry and a move stay (R71). -/
def Obligations.PresetWriteResult : Prop :=
  ∀ (s : State) (p : PortId) (tag ch index : Byte) (f : PresetFields), s.Room p tag →
    (4 ≤ ch.toNat ∨ 8 ≤ index.toNat ∨ 2 ≤ f.key.toNat →
      exec (.presetWrite p tag ch index f) s = .next (s.replied p tag 0x23 .badParam []))
    ∧ ∀ (c : Channel) (i : PresetIx) (key : Bool), ch.toNat = c.val → index.toNat = i.val →
      f.key = (if key then 1 else 0) →
      let rect := fun r : RectBytes =>
        ({ x := r.x.toNat, y := r.y.toNat, w := r.w.toNat, h := r.h.toNat } : Rect)
      let colour := fun k : ColourBytes =>
        ({ y := k.y.toNat, cb := k.cb.toNat, cr := k.cr.toNat } : Colour)
      let written : Layout := {
        window := rect f.window, border := f.border.toNat, borderColour := colour f.borderColour
        crop := rect f.crop, key := key, kb := f.kb.toNat, kr := f.kr.toNat
        inner := f.inner.toNat, outer := f.outer.toNat, programme := rect f.programme
        fill := colour f.fill }
      let stored := fitLayout s.timing.format written
      exec (.presetWrite p tag ch index f) s
          = .next ((s.setChan c ((s.chan c).setPresets ((s.chan c).presets.put i
              { layout := stored, writer := some p }))).replied p tag 0x23
                (clampedCode (decide (stored ≠ written))) (layoutBytes stored ++ [portByte p]))
        ∧ stored.Fitted s.timing.format ∧ stored.key = key
        ∧ (written.Fitted s.timing.format → stored = written)
        ∧ (layoutBytes stored).length = 46

/-- Fitting: whatever is written, what is stored fits the raster, and a layout that fits is stored as written.
Value by value: the window and the programme rectangle (R83, R87), whose size is kept wherever it lies in the
range, down to even, and which are drawn back onto the raster; the border, the largest that the window leaves
room for (R84); the crop, first to the raster and then to the inner rectangle (R85); the colours, the key and
its thresholds (R86). -/
def Obligations.LayoutFitting : Prop :=
  ∀ (f : Format) (l : Layout),
    let t := fitLayout f l
    let even := fun n : Nat => n - n % 2
    let line := fun n : Nat => if interlaced f then even n else n
    let size := fun least limit n : Nat => if n < least then least else if limit < n then limit else n
    let place := fun limit n pos : Nat => if limit - n < pos then limit - n else pos
    let rect := fun (r : Rect) (lw lh : Nat) => ({
      x := even (place (width f) (size lw (width f) r.w) r.x), w := even (size lw (width f) r.w)
      y := line (place (height f) (size lh (height f) r.h) r.y)
      h := line (size lh (height f) r.h) } : Rect)
    let colour := fun k : Colour =>
      ({ y := size 64 940 k.y, cb := size 64 960 k.cb, cr := size 64 960 k.cr } : Colour)
    let iw := t.window.w - 2 * t.border
    let ih := t.window.h - 2 * t.border
    let lw := (iw + 1) / 2 + (iw + 1) / 2 % 2
    let lh := if interlaced f then (ih + 1) / 2 + (ih + 1) / 2 % 2 else (ih + 1) / 2
    let onRaster := rect l.crop 0 0
    t.Fitted f
    ∧ (l.Fitted f → t = l)
    ∧ t.window = rect l.window 64 36
    ∧ t.programme = rect l.programme (width f / 4) (height f / 4)
    ∧ (t.border % 2 = 0 ∧ t.border ≤ l.border ∧ t.border ≤ 16
      ∧ ∀ b, b % 2 = 0 → b ≤ l.border → b ≤ 16 → 32 + 2 * b ≤ t.window.w → 18 + 2 * b ≤ t.window.h →
        b ≤ t.border)
    ∧ t.crop.w = size lw (8 * iw) onRaster.w ∧ t.crop.h = size lh (8 * ih) onRaster.h
    ∧ t.crop.x = place (width f) t.crop.w onRaster.x ∧ t.crop.y = place (height f) t.crop.h onRaster.y
    ∧ t.borderColour = colour l.borderColour ∧ t.fill = colour l.fill
    ∧ t.key = l.key ∧ t.kb = size 64 960 l.kb ∧ t.kr = size 64 960 l.kr
    ∧ t.inner = min l.inner 1791
    ∧ t.outer = (if min l.outer 1792 ≤ min l.inner 1791 then min l.inner 1791 + 1
        else min l.outer 1792)

/-- The period geometry (R93 to R97): drawn from layouts that fit the raster, along a move or without one,
it keeps every range the manual gives and its steps are the truncated quotients. During a move every coordinate of its
rectangles lies the part k/L of the way from the source's to the target's, rounded as R93 says, a rectangle past the
last line being raised; its border is the largest that the window leaves room for up to the target's (R94), its crop is
fitted to the inner rectangle (R95), and at either end of the move it is the source's or the target's. The effective
programme rectangle lies the part opacity/1024 of the way from the full raster to the programme rectangle (R96). -/
def Obligations.PeriodGeometryRanges : Prop :=
  ∀ (f : Format) (l : Layout) (move : Option Move) (opacity : Nat),
    l.Fitted f → opacity ≤ 1024 →
    (∀ m ∈ move, m.source.Fitted f ∧ m.target.Fitted f ∧ 0 < m.length ∧ m.count ≤ m.length) →
    let g := periodGeometry f l move opacity
    g.InRange f ∧ g.opacity = opacity
    ∧ g.stepX = g.layout.crop.w * 65536 / g.inner.w
    ∧ g.stepY = g.layout.crop.h * 65536 / g.inner.h
    ∧ g.programmeStepX = width f * 65536 / g.effective.w
    ∧ g.programmeStepY = height f * 65536 / g.effective.h
    ∧ (move = none → g.layout = l)
    ∧ (let even := fun n : Nat => n - n % 2
      let line := fun n : Nat => if interlaced f then even n else n
      let between := fun a b k n : Nat => if a ≤ b then a + (b - a) * k / n else a - (a - b) * k / n
      let e := g.layout.programme
      g.effective = {
        x := even (e.x * opacity / 1024), y := line (e.y * opacity / 1024)
        w := even (width f - (width f - e.w) * opacity / 1024)
        h := line (height f - (height f - e.h) * opacity / 1024) }
      ∧ ∀ m ∈ move,
        let rect := fun a b : Rect =>
          let y := line (between a.y b.y m.count m.length)
          let h := line (between a.h b.h m.count m.length)
          ({ x := even (between a.x b.x m.count m.length), w := even (between a.w b.w m.count m.length)
             y := if height f < y + h then height f - h else y, h := h } : Rect)
        let size := fun least limit n : Nat => if n < least then least else if limit < n then limit else n
        let place := fun limit n pos : Nat => if limit - n < pos then limit - n else pos
        let lw := (g.inner.w + 1) / 2 + (g.inner.w + 1) / 2 % 2
        let lh := if interlaced f then (g.inner.h + 1) / 2 + (g.inner.h + 1) / 2 % 2 else (g.inner.h + 1) / 2
        let crop := rect m.source.crop m.target.crop
        g.layout.window = rect m.source.window m.target.window
        ∧ g.layout.programme = rect m.source.programme m.target.programme
        ∧ g.layout.border ≤ m.target.border
        ∧ (∀ b, b % 2 = 0 → b ≤ m.target.border → 32 + 2 * b ≤ g.layout.window.w →
            18 + 2 * b ≤ g.layout.window.h → b ≤ g.layout.border)
        ∧ g.layout.crop.w = size lw (8 * g.inner.w) crop.w ∧ g.layout.crop.h = size lh (8 * g.inner.h) crop.h
        ∧ g.layout.crop.x = place (width f) g.layout.crop.w crop.x
        ∧ g.layout.crop.y = place (height f) g.layout.crop.h crop.y
        ∧ g.layout = { m.target with
            window := g.layout.window, border := g.layout.border, crop := g.layout.crop
            programme := g.layout.programme })
    ∧ (∀ m ∈ move, m.count = 0 → g.layout.window = m.source.window
        ∧ g.layout.programme = m.source.programme ∧ g.layout.borderColour = m.target.borderColour
        ∧ g.layout.fill = m.target.fill)
    ∧ (∀ m ∈ move, m.count = m.length → g.layout = m.target)

/-! ## The delay line and the calibration unit -/

/-- LAG_SET and BOOTH_LATENCY_SET (R140, R141, R165): a channel outside CH0 to CH3 is refused; otherwise the
value, clamped, is stored, the channel's target is worked out from it, and the reply carries the result,
OK_CLAMPED when the value or the target was clamped. -/
def Obligations.DelayTargets : Prop :=
  ∀ (s : State) (p : PortId) (tag ch value : Byte), s.Room p tag → s.PoolSound →
    (4 ≤ ch.toNat → exec (.lagSet p tag ch value) s = .next (s.replied p tag 0x30 .badParam [])
      ∧ exec (.boothLatencySet p tag ch value) s = .next (s.replied p tag 0x31 .badParam []))
    ∧ ∀ c : Channel, ch.toNat = c.val →
      (∃ u : State,
        let e := (u.chan c).delay
        exec (.lagSet p tag ch value) s = .next (u.replied p tag 0x30
          (clampedCode (decide (50 < value.toNat) || decide (e.target < e.requested)))
          [byte1 (min 50 value.toNat), byte1 e.requested, byte1 e.target, byte1 e.actual,
            byte1 e.held, byte1 u.free])
        ∧ s.TargetTook u c (min 50 value.toNat) (s.chan c).calibration.latency)
      ∧ (∃ u : State,
        let e := (u.chan c).delay
        exec (.boothLatencySet p tag ch value) s = .next (u.replied p tag 0x31
          (clampedCode (decide (249 < value.toNat) || decide (e.target < e.requested)))
          [byte1 (min 249 value.toNat), byte1 e.requested, byte1 e.target, byte1 e.actual,
            byte1 e.held, byte1 u.free])
        ∧ s.TargetTook u c (s.chan c).delay.lag (min 249 value.toNat))

/-- SLEW_STEP (R145 to R147, R149): a step due moves the actual delay by one frame toward the target,
clears the count, gives a slot back to the pool on the way down where one is no longer needed, and posts
DELAY_SETTLED on arrival. That the command as a row of its own leaves the delayed frame as it was read, and that it
does nothing with no step due, is the model's choice (notes/assumptions/2.md). -/
def Obligations.SlewStepResult : Prop :=
  ∀ (s : State) (c : Channel), s.PoolSound →
    let d := (s.chan c).delay
    (s.timing.relocking = true ∨ d.actual = d.target ∨ d.slewCount + 1 < d.slewInterval →
      exec (.slewStep c) s = .next s)
    ∧ (s.timing.relocking = false → d.actual ≠ d.target → d.slewInterval ≤ d.slewCount + 1 →
      ∃ t : State, exec (.slewStep c) s = .next t
        ∧ t = { s with channels := t.channels, free := t.free, ports := t.ports }
        ∧ (∀ b, b ≠ c → t.chan b = s.chan b)
        ∧ t.chan c = (s.chan c).setDelay (t.chan c).delay
        ∧ (let e := (t.chan c).delay
          (d.actual < d.target → e = { d with
              actual := d.actual + 1, slewCount := 0, kind := .repeated } ∧ t.free = s.free)
          ∧ (d.target < d.actual → e = { d with
              actual := d.actual - 1, slewCount := 0, kind := .afterDrop
              held := d.actual, ring := d.ring.take d.actual } ∧ t.free = s.free + 1)
          ∧ s.Posted t (fun l => l = .channel .delaySettled c ∧ e.actual = e.target)))

/-- CALIBRATE (R155, R156): its refusals in their order; otherwise a run begins with the next sequence base,
no marker sent or measured, CALIBRATION in the suppression set, and the base in the reply. -/
def Obligations.CalibrateResult : Prop :=
  ∀ (s : State) (p : PortId) (tag ch : Byte), s.Room p tag →
    (4 ≤ ch.toNat → exec (.calibrate p tag ch) s = .next (s.replied p tag 0x32 .badParam []))
    ∧ ∀ c : Channel, ch.toNat = c.val →
      let k := (s.chan c).calibration
      (k.running = true → exec (.calibrate p tag ch) s = .next (s.replied p tag 0x32 .busy []))
      ∧ (k.running = false →
          (0 < s.timing.relockCount ∨ ((s.chan c).sync.lock ≠ .locked
            ∧ (s.chan c).sync.lock ≠ .holding)) →
        exec (.calibrate p tag ch) s = .next (s.replied p tag 0x32 .notReady []))
      ∧ (k.running = false → s.timing.relockCount = 0 →
          ((s.chan c).sync.lock = .locked ∨ (s.chan c).sync.lock = .holding) →
        ∃ u : State, exec (.calibrate p tag ch) s
            = .next (u.replied p tag 0x32 .ok [byte1 ((k.base + 4) % 256)])
          ∧ (s.setChan c ((s.chan c).setCalibration { k with
              running := true, origin := some p, base := (k.base + 4) % 256, runCount := 0
              sends := Bank.fill 4 none, measured := Bank.fill 4 none })).SuppressionTook u c
                { (s.chan c).window.suppression with calibration := true })

/-- MARKER_SEND and CALIBRATION_TIMEOUT (R157, R159, R161, R164): the run count goes up, and a send count
sends its marker, unless an outstanding marker was sent 250 periods ago, which ends the run with TIMEOUT; each
command does nothing when its event is not the next (the model's choice: notes/assumptions/2.md). That
the send period is recorded also in a relock period, whose booth feed carries no marker (R4), is the model's choice
(notes/assumptions/33.md). -/
def Obligations.CalibrationPeriods : Prop :=
  ∀ (s : State) (c : Channel),
    let k := (s.chan c).calibration
    let late := ∃ i n, k.sends.pick i = some n ∧ k.measured.pick i = none ∧ n + 250 ≤ k.runCount + 1
    (k.running = false → exec (.markerSend c) s = .next s ∧ exec (.calibrationTimeout c) s = .next s)
    ∧ (∀ i : MarkerIx, k.running = true → ¬ late → k.runCount + 1 = 1 + 50 * i.val →
      exec (.calibrationTimeout c) s = .next s
      ∧ exec (.markerSend c) s = .next (s.setChan c ((s.chan c).setCalibration { k with
          runCount := k.runCount + 1
          sends := k.sends.put i (some (k.runCount + 1))
          inserting := some ((k.base + i.val) % 256) })))
    ∧ (k.running = true → ¬ late → (∀ i : MarkerIx, k.runCount + 1 ≠ 1 + 50 * i.val) →
      exec (.markerSend c) s = .next s ∧ exec (.calibrationTimeout c) s = .next s)
    ∧ (k.running = true → late →
      exec (.markerSend c) s = .next s
      ∧ ∃ u t : State, exec (.calibrationTimeout c) s = .next t
        ∧ (s.setChan c ((s.chan c).setCalibration { k with
            runCount := k.runCount + 1, inserting := none, running := false
            lastResult := .timeout })).SuppressionTook u c
              { (s.chan c).window.suppression with calibration := false }
        ∧ t.SameButPorts u
        ∧ ∀ q, (u.port q).Posted (t.port q)
            fun l => l = .channel .calibrationDone c ∧ k.origin = some q)

/-- MARKER_RECEIVED (R158, R159, R160, R198): a packet that is no marker, a marker while no run is in
progress, of another channel, of another sequence, not sent or already measured changes nothing; any other is
measured by the run count, and the measurement that completes the four ends the run with OK: the largest
becomes the booth latency, a target event. -/
def Obligations.MarkerMeasured : Prop :=
  ∀ (s : State) (c : Channel) (a b n ch seq check : Sample), s.PoolSound →
    let k := (s.chan c).calibration
    let low := fun w : Sample => w.toNat % 256
    let packet : Packet := { words := [a, b, n, ch, seq, check] }
    let marker := low a = 0x51 ∧ low b = 0x2E ∧ low n = 3
      ∧ low check = 255 - (low ch + low seq) % 256
    let named := fun i : MarkerIx => low seq = (k.base + i.val) % 256
      ∧ (k.sends.pick i).isSome = true ∧ k.measured.pick i = none
    (∀ other : Packet, other.words.length ≠ 6 → exec (.markerReceived c other) s = .next s)
    ∧ (¬ marker ∨ k.running = false ∨ low ch ≠ c.val ∨ (∀ i, ¬ named i) →
      exec (.markerReceived c packet) s = .next s)
    ∧ ∀ i m, marker → k.running = true → low ch = c.val → named i → k.sends.pick i = some m →
      let x : Calibration := { k with measured := k.measured.put i (some (k.runCount - m)) }
      ((∃ j, x.measured.pick j = none) →
        exec (.markerReceived c packet) s
          = .next (s.setChan c ((s.chan c).setCalibration x)))
      ∧ (∀ largest, (∀ j, ∃ v, x.measured.pick j = some v ∧ v ≤ largest) →
          (∃ j, x.measured.pick j = some largest) →
        ∃ t u v : State, exec (.markerReceived c packet) s = .next v
          ∧ (s.setChan c ((s.chan c).setCalibration
              { x with lastMeasured := some largest })).TargetTook t c (s.chan c).delay.lag largest
          ∧ (t.setChan c ((t.chan c).setCalibration { (t.chan c).calibration with
              running := false, lastResult := .ok })).SuppressionTook u c
                { (s.chan c).window.suppression with calibration := false }
          ∧ v.SameButPorts u
          ∧ ∀ q, (u.port q).Posted (v.port q)
              fun l => l = .channel .calibrationDone c ∧ k.origin = some q)

/-! ## The signer synchroniser -/

/-- SIGNAL_UP and SIGNAL_DOWN (R119, R120, R122): the link's condition, the discard of a picture being
received, and the change from or to ABSENT where the table has one. -/
def Obligations.SignalEvents : Prop :=
  ∀ (s : State) (c : Channel),
    let x := (s.chan c).sync
    (∃ u : State, exec (.signalUp c) s = .next u
      ∧ (s.setChan c ((s.chan c).setSync { x with signal := true })).LockTook u c
          (if x.lock = .absent then .acquiring else x.lock) .windowFirst)
    ∧ ∃ u : State, exec (.signalDown c) s = .next u
      ∧ (s.setChan c ((s.chan c).setSync { x with
          signal := false, lastStart := none, incoming := none
          write := if x.incoming.isSome then none else x.write
          consecutive := if x.incoming.isSome then 0 else x.consecutive })).LockTook u c
          (if x.lock = .acquiring ∨ x.lock = .mismatch then .absent else x.lock) .windowFirst

/-- PICTURE_START (R120, R122, R124, R125): a picture still being received is discarded, LOST becomes
ACQUIRING, the interval is recorded or the break taken, and a state that writes takes as write slot the slot
that is neither current nor newest, of two the one completed less recently. That a reading below the last one
counts as an interval of 0 is the model's choice (notes/assumptions/7.md); that the start which leaves LOST adds
nothing to the history is the model's reading (notes/assumptions/16.md). -/
def Obligations.PictureStartResult : Prop :=
  ∀ (s : State) (c : Channel) (now : Nat),
    let x := (s.chan c).sync
    ∃ u : State, exec (.pictureStart c now) s = .next (u.setChan c ((u.chan c).setSync
        ((u.chan c).sync.measureStart s.timing.format now (decide (x.lock = .lost))).beginWrite))
      ∧ (s.setChan c ((s.chan c).setSync { x with
          incoming := none
          write := if x.incoming.isSome then none else x.write
          consecutive := if x.incoming.isSome then 0 else x.consecutive })).LockTook u c
          (if x.lock = .lost then .acquiring else x.lock) .windowFirst
      ∧ ∀ y : Synchroniser, y.lock ≠ .lost →
        let z := (y.measureStart s.timing.format now (decide (x.lock = .lost))).beginWrite
        z = { y with
          lastStart := some now, incoming := z.incoming, history := z.history
          consecutive := z.consecutive, write := z.write, ring := z.ring }
        ∧ (x.lock = .lost ∨ y.lastStart = none → z.incoming = some { interval := none }
          ∧ z.history = y.history ∧ z.consecutive = y.consecutive)
        ∧ (∀ last, x.lock ≠ .lost → y.lastStart = some last →
          (2 * pictureInterval s.timing.format < now - last →
            z.incoming = some { interval := none } ∧ z.history = [] ∧ z.consecutive = 0)
          ∧ (now - last ≤ 2 * pictureInterval s.timing.format →
            z.incoming = some { interval := some (now - last) } ∧ z.consecutive = y.consecutive
            ∧ z.history = (if y.history.length < 16 then y.history ++ [now - last]
                else (y.history ++ [now - last]).drop (y.history.length - 15))))
        ∧ (y.lock = .absent ∨ y.lock = .mismatch → z.write = y.write ∧ z.ring = y.ring)
        ∧ (y.lock = .acquiring ∨ y.lock = .locked ∨ y.lock = .holding →
          ∃ i : RingIx, z.write = some i ∧ i ≠ y.current ∧ i ≠ y.newest
            ∧ z.ring = y.ring.put i .unfinished
            ∧ ∀ j : RingIx, j ≠ i → j ≠ y.current → j ≠ y.newest →
              (y.ring.pick i).rank < (y.ring.pick j).rank
                ∨ ((y.ring.pick i).rank = (y.ring.pick j).rank ∧ i < j))

/-- PICTURE_COMPLETION (R119, R121, R122, R125): the verdict on the raster received, which is right when every active
line held W samples and there were H of them, in two fields of H/2 in F1 and F2; the consecutive count, the lock state by the
table, the newest slot, and the unread and drop counts. Without a picture being received it changes nothing
(the model's choice: notes/assumptions/10.md). -/
def Obligations.PictureCompletionResult : Prop :=
  ∀ (s : State) (c : Channel) (raster : Raster) (picture : Picture) (h : HandOver),
    let x := (s.chan c).sync
    let field := fun lines : List Nat => lines.length = (if (s.timing.format = .f1 ∨ s.timing.format = .f2) then 540
        else if (s.timing.format = .f5 ∨ s.timing.format = .f6) then 720 else 1080)
      ∧ ∀ n ∈ lines, n = (if (s.timing.format = .f5 ∨ s.timing.format = .f6) then 1280 else 1920)
    let right := if (s.timing.format = .f1 ∨ s.timing.format = .f2) then ∃ a b, raster = [a, b] ∧ field a ∧ field b
      else ∃ a, raster = [a] ∧ field a
    (x.incoming = none → exec (.pictureCompletion c raster picture h) s = .next s)
    ∧ ∀ i, x.incoming = some i →
      let nominal := pictureInterval s.timing.format
      let tolerance := pictureTolerance s.timing.format
      let valid := right ∧ ∃ n, i.interval = some n ∧ nominal ≤ n + tolerance
        ∧ n ≤ nominal + tolerance
      let full := 16 ≤ x.history.length
      let steady := 16 * nominal ≤ x.history.sum + 16 * tolerance
        ∧ x.history.sum ≤ 16 * nominal + 16 * tolerance
      ∃ (u : State) (n : Nat) (new : LockState) (z : Synchroniser),
        exec (.pictureCompletion c raster picture h) s = .next u
        ∧ (s.setChan c ((s.chan c).setSync z)).LockTook u c new h
        ∧ (valid → n = min 16 (x.consecutive + 1)) ∧ (¬ valid → n = 0)
        ∧ (x.lock = .absent ∨ x.lock = .lost → new = x.lock)
        ∧ (x.lock = .acquiring ∨ x.lock = .locked ∨ x.lock = .holding →
          ¬ right ∨ (full ∧ ¬ steady) → new = .mismatch)
        ∧ (x.lock = .locked ∨ x.lock = .holding → right → ¬ full ∨ steady → new = x.lock)
        ∧ (x.lock = .acquiring → right → ¬ full ∨ steady →
          new = if n = 16 then .locked else .acquiring)
        ∧ (x.lock = .mismatch → right ∧ full ∧ steady → new = .acquiring)
        ∧ (x.lock = .mismatch → ¬ (right ∧ full ∧ steady) → new = .mismatch)
        ∧ z = { x with
          consecutive := n, incoming := none, write := none, ring := z.ring, newest := z.newest
          completions := z.completions, unread := z.unread, drops := z.drops }
        ∧ (∀ w, right → x.write = some w →
          z.ring = x.ring.put w (.picture picture x.completions) ∧ z.newest = w)
        ∧ (¬ right ∨ x.write = none → z.ring = x.ring ∧ z.newest = x.newest)
        ∧ (x.lock = .acquiring → new = .locked → z.unread = 1 ∧ z.drops = x.drops)
        ∧ (x.lock ≠ .acquiring → (new = .locked ∨ new = .holding) →
          (x.unread < 2 → z.unread = x.unread + 1 ∧ z.drops = x.drops)
          ∧ (2 ≤ x.unread → z.unread = 2 ∧ z.drops = min 65535 (x.drops + 1)))
        ∧ (new ≠ .locked → new ≠ .holding → z.unread = x.unread ∧ z.drops = x.drops)

/-- The choice of an output picture start (R126), and HOLD_LIMIT_REACHED (R123): the raising of the holding
count that reaches the limit loses the signer; when the next does not, the command changes nothing (the
model's choice: notes/assumptions/2.md). -/
def Obligations.SignerChoice : Prop :=
  ∀ (s : State) (c : Channel) (h : HandOver),
    let x := (s.chan c).sync
    let put := fun z : Synchroniser => s.setChan c ((s.chan c).setSync z)
    (x.lock ≠ .locked → x.lock ≠ .holding → s.chooseSigner c h = s)
    ∧ (x.lock = .locked ∨ x.lock = .holding → 0 < x.unread →
      (put { x with current := x.newest, unread := 0
                    drops := min 65535 (x.drops + (x.unread - 1)) }).LockTook
        (s.chooseSigner c h) c .locked h)
    ∧ (x.lock = .locked ∨ x.lock = .holding → x.unread = 0 →
      (put { x with repeats := min 65535 (x.repeats + 1)
                    holding := if x.lock = .locked then 0 else x.holding }).LockTook
        (s.chooseSigner c h) c .holding h)
    ∧ (x.lock ≠ .holding ∨ x.holding + 1 < x.holdLimit →
      exec (.holdLimitReached c h) s = .next s)
    ∧ (x.lock = .holding → x.holdLimit ≤ x.holding + 1 →
      ∃ u : State, exec (.holdLimitReached c h) s = .next u
        ∧ (put { x with holding := x.holding + 1 }).LockTook u c .lost h)

/-! ## Contact inputs, tally outputs and the period start -/

/-- PERIOD_START. Its parts are taken once each, one after another in some order, and the statement says what each of
them does on any state (`State.periodTask`). A synchroniser makes its choice at an output picture start (R126; SignerChoice says
which), raises the holding count of a channel that was and is HOLDING (R123), and hands over its current slot (R113).
A contact input is sampled (R168; DebouncedChange says what a change does). A RUNNING calibration raises its run
count, and sends a marker or times out (R157, R161). A window advances its ramp, takes a pending layout and advances
its move (R54, R69, R70, R77), its geometry and the pictures are latched (R97 to R99, R112, R153), and the channel's
tallies follow (R174). That the period after an output frame start is the first of its frame and every other the
second is the model's reading of R1 (notes/assumptions/8.md); so is the order of the parts that the empty list names,
outside events first (notes/assumptions/6.md). In a frame that is being extended (R3) and has had both its periods the
command only begins the blanking, which is the model's choice (notes/assumptions/32.md). So is it
that a marker due in a relock period has its send period recorded (notes/assumptions/33.md). -/
def Obligations.PeriodStart : Prop :=
  (∀ (s : State) (contacts : Bank 8 Contact) (order : List PeriodTask),
     s.timing.firstPeriodDue = true
       ∨ (s.timing.blanking = false ∧ (s.timing.extending = false ∨ s.timing.secondPeriod = false)) →
     let timing := { s.timing with
       secondPeriod := !s.timing.firstPeriodDue, firstPeriodDue := false
       relockPeriod := s.timing.relocking, blanking := false }
     let picture := !interlaced s.timing.format || s.timing.firstPeriodDue
     ∃ (t : State) (tasks : List PeriodTask), exec (.periodStart contacts order) s = .next t
       ∧ t = tasks.foldl (State.periodTask contacts picture) (s.setTiming timing)
       ∧ (tasks.map PeriodTask.key).Perm (List.range 20)
       ∧ (order = [] → tasks = (Channel.all.map fun c => .synchronise c .windowFirst)
           ++ ((List.finRange 8).map fun g => .contact g [])
           ++ Channel.all.map .calibrate ++ Channel.all.map .window)
       ∧ t.pending = s.pending ∧ t.timing = timing
       ∧ (∀ g,
         let x := s.gpi g
         let v := contacts.pick g
         let stable := if v = x.sampled then min 16 (x.stable + 1) else 1
         t.gpi g = { x with
           sampled := v, stable := stable
           debounced := if x.debounce + 1 ≤ stable then v else x.debounced })
       ∧ (∀ c, (t.chan c).clock = (s.chan c).clock ∧ (t.chan c).report = (s.chan c).report
         ∧ (t.chan c).presets = (s.chan c).presets
         ∧ (t.chan c).delay.delayed = (s.chan c).delay.delayed
         ∧ (t.chan c).delay.actual = (s.chan c).delay.actual
         ∧ (t.chan c).latches.signer = (t.chan c).sync.current
         ∧ (t.chan c).latches.programme = (if s.timing.firstPeriodDue
             then (s.chan c).delay.delayed.first else (s.chan c).delay.delayed.second)
         ∧ (t.chan c).latches.booth = (let frame := (s.chan c).delay.frameAt 0
             if s.timing.firstPeriodDue then frame.first else frame.second)))
  ∧ (∀ (s : State) (contacts : Bank 8 Contact) (order : List PeriodTask),
     s.timing.firstPeriodDue = false →
     s.timing.blanking = true ∨ (s.timing.extending = true ∧ s.timing.secondPeriod = true) →
     exec (.periodStart contacts order) s
       = .next { s with timing := { s.timing with blanking := true } })
  ∧ (∀ (s : State) (contacts : Bank 8 Contact),
     s.timing.firstPeriodDue = true
       ∨ (s.timing.blanking = false ∧ (s.timing.extending = false ∨ s.timing.secondPeriod = false)) →
     ∃ t : State, exec (.periodStart contacts []) s = .next t
       ∧ (∀ c,
         let w := (t.chan c).window
         (t.chan c).latches.geometry = periodGeometry s.timing.format w.geometry w.move w.opacity
         ∧ (t.chan c).latches.display = (if ((t.chan c).sync.lock = .locked
               ∨ (t.chan c).sync.lock = .holding ∨ (t.chan c).sync.policy ≠ .backdrop)
             then .picture else .backdrop)
         ∧ ((s.chan c).calibration.running = true → (t.chan c).sync.lock.available = true →
           (t.chan c).calibration.runCount = (s.chan c).calibration.runCount + 1)
         ∧ ((∀ g, contacts.pick g = (s.gpi g).debounced) →
             (t.chan c).sync.lock = (s.chan c).sync.lock → (s.chan c).calibration.running = false →
           w = (s.chan c).window.advance (s.chan c).presets))
       ∧ (∀ k, let x := s.tally k
         t.tally k = x.set
           (if s.timing.relocking then 0 else (t.chan x.channel).window.opacity)
           (t.chan x.channel).sync.lock.available))
  ∧ (∀ (contacts : Bank 8 Contact) (picture : Bool) (u : State) (c : Channel) (h : HandOver),
     ∃ m n : State, m = (if picture then u.chooseSigner c h else u)
       ∧ (let x := (m.chan c).sync
         ((u.chan c).sync.lock = .holding ∧ x.lock = .holding →
           (m.setChan c ((m.chan c).setSync { x with holding := x.holding + 1 })).LockTook n c
             (if x.holdLimit ≤ x.holding + 1 then .lost else .holding) h)
         ∧ (¬ ((u.chan c).sync.lock = .holding ∧ x.lock = .holding) → n = m))
       ∧ u.periodTask contacts picture (.synchronise c h) = n.setChan c ((n.chan c).setLatches
           { (n.chan c).latches with signer := (n.chan c).sync.current }))
  ∧ (∀ (contacts : Bank 8 Contact) (picture : Bool) (u : State) (g : GpiIx) (edges : List Channel),
     let x := u.gpi g
     let v := contacts.pick g
     let stable := if v = x.sampled then min 16 (x.stable + 1) else 1
     let t := u.periodTask contacts picture (.contact g edges)
     (v = x.debounced ∨ stable < x.debounce + 1 →
       t = u.setGpi g { x with sampled := v, stable := stable })
     ∧ (v ≠ x.debounced → x.debounce + 1 ≤ stable →
       exec (.debouncedStateChange g v edges) u = .next t))
  ∧ (∀ (contacts : Bank 8 Contact) (picture : Bool) (u : State) (c : Channel),
     let k := (u.chan c).calibration
     let late := ∃ i n, k.sends.pick i = some n ∧ k.measured.pick i = none ∧ n + 250 ≤ k.runCount + 1
     let put := fun x : Calibration => u.setChan c ((u.chan c).setCalibration x)
     let t := u.periodTask contacts picture (.calibrate c)
     (k.running = false → t = put { k with inserting := none })
     ∧ (k.running = true → late → exec (.calibrationTimeout c) u = .next t)
     ∧ (k.running = true → ¬ late → (∀ i : MarkerIx, k.runCount + 1 ≠ 1 + 50 * i.val) →
       t = put { k with runCount := k.runCount + 1, inserting := none })
     ∧ (∀ i : MarkerIx, k.running = true → ¬ late → k.runCount + 1 = 1 + 50 * i.val →
       t = put { k with
         runCount := k.runCount + 1, sends := k.sends.put i (some (k.runCount + 1))
         inserting := some ((k.base + i.val) % 256) }))
  ∧ (∀ (contacts : Bank 8 Contact) (picture : Bool) (u : State) (c : Channel),
     let t := u.periodTask contacts picture (.window c)
     let w := (u.chan c).window.advance (u.chan c).presets
     t = { u with channels := t.channels, tallies := t.tallies }
     ∧ (∀ b, b ≠ c → t.chan b = u.chan b)
     ∧ t.chan c = ((u.chan c).setWindow w).setLatches (t.chan c).latches
     ∧ (t.chan c).latches.geometry = periodGeometry u.timing.format w.geometry w.move w.opacity
     ∧ (t.chan c).latches.signer = (u.chan c).latches.signer
     ∧ ∀ j, t.tally j = (if (u.tally j).channel = c
         then (u.tally j).set (if u.timing.relockPeriod then 0 else w.opacity)
           (u.chan c).sync.lock.available
         else u.tally j))
  ∧ ∀ (w : Window) (presets : Bank 8 Preset),
     let r := w.advanceRamp presets
     let t := w.advance presets
     let moved := fun m : Move =>
       if r.contactHold then (r.geometry, some m)
       else if m.count + 1 < m.length then (r.geometry, some { m with count := m.count + 1 })
       else (m.target, none)
     (r.move = none → r.pendingLayout = none → t = r)
     ∧ (∀ m, r.move = some m → t = { r with geometry := (moved m).1, move := (moved m).2 })
     ∧ ∀ q, r.move = none → r.pendingLayout = some q →
       let stored := (presets.pick q.preset).layout
       (r.opacity = 0 ∨ q.duration = 0 →
         t = { r with geometry := stored, lastPreset := q.preset, pendingLayout := none })
       ∧ (0 < r.opacity → 0 < q.duration →
         let m := moved { source := r.geometry, target := stored, preset := q.preset
                          length := q.duration, count := 0 }
         t = { r with
           geometry := m.1, move := m.2, lastPreset := q.preset, pendingLayout := none })

/-- DEBOUNCED_STATE_CHANGE (R168 to R171, R45): a sample that completes a debounce changes the debounced
state, and the channel levels are taken again; on an edge to active in mode FIRE, each channel of the mask takes
the edge once (`State.fireEdge`, which FireEdgeResult states whole), in an order that begins with `edges`, and
without such an edge no cue fires. A channel outside the mask, or held, or without a cue that names the input, only
takes the levels. Any other sample changes nothing (the model's choice: notes/assumptions/2.md). -/
def Obligations.DebouncedChange : Prop :=
  ∀ (s : State) (g : GpiIx) (v : Contact) (edges : List Channel), s.CuesSound →
    let x := s.gpi g
    let stable := if v = x.sampled then min 16 (x.stable + 1) else 1
    (v = x.debounced ∨ stable < x.debounce + 1 →
      exec (.debouncedStateChange g v edges) s = .next s)
    ∧ (v ≠ x.debounced → x.debounce + 1 ≤ stable →
      let y : Gpi := { x with sampled := v, stable := stable, debounced := v }
      let fires := x.mode = .fire ∧ (v = .closed ↔ x.polarity = .activeClosed)
      ∃ t : State, exec (.debouncedStateChange g v edges) s = .next t
        ∧ t.gpi g = y ∧ (∀ k, k ≠ g → t.gpi k = s.gpi k)
        ∧ t.timing = s.timing ∧ t.tallies = s.tallies ∧ t.pending = s.pending
        ∧ (∀ c, (t.chan c).window.contactHold = t.contactLevel .hold c
          ∧ (t.chan c).window.suppression.contact = t.contactLevel .suppress c
          ∧ (t.chan c).scheduler.timed = (s.chan c).scheduler.timed)
        ∧ (¬ fires → (s.setGpi g y).ContactsTook t)
        ∧ (fires → ∃ fired : List Channel, fired.Nodup ∧ (∀ c, c ∈ fired ↔ x.mask.pick c = true)
          ∧ (edges.Nodup → (∀ c ∈ edges, x.mask.pick c = true) → edges <+: fired)
          ∧ (fired.foldl (fun u c => u.fireEdge g c) (s.setGpi g y)).ContactsTook t)
        ∧ (fires → ∀ c,
          (x.mask.pick c = false ∨ (s.chan c).scheduler.hold ≠ PortSet.empty
              ∨ (∀ i ∈ (s.chan c).scheduler.contact, ∀ k, s.cue i = some k → k.trigger ≠ .contact g) →
            t.chan c = (s.chan c).contacted (t.contactLevel .hold c) (t.contactLevel .suppress c))
          ∧ (∀ before after i k, x.mask.pick c = true →
            (s.chan c).scheduler.hold = PortSet.empty →
            (s.chan c).scheduler.contact = before ++ i :: after →
            (∀ j ∈ before, ∀ o, s.cue j = some o → o.trigger ≠ .contact g) →
            s.cue i = some k → k.trigger = .contact g →
            (t.chan c).scheduler.contact = before ++ after
              ∧ t.slot i = { s.slot i with cue := none })))

/-- GPI_BIND from the supervisor port (R172): refused for values not defined; otherwise the binding is
replaced, sampling starts again at the inactive state where the polarity changes, the channel levels are
taken again, and no cue fires. -/
def Obligations.GpiBindResult : Prop :=
  ∀ (s : State) (p : PortId) (tag gpi mode mask polarity debounce : Byte), s.Room p tag →
    (s.port p).supervisor = true →
    (8 ≤ gpi.toNat ∨ 4 ≤ mode.toNat ∨ 2 ≤ polarity.toNat ∨ 16 ≤ mask.toNat
        ∨ (mode ≠ 0 ∧ mask = 0) →
      exec (.gpiBind p tag gpi mode mask polarity debounce) s
        = .next (s.replied p tag 0x39 .badParam []))
    ∧ ∀ (g : GpiIx) (m : GpiMode) (o : Polarity), gpi.toNat = g.val → gpiModeByte m = mode →
      polarityByte o = polarity → mask.toNat < 16 → (m ≠ .none → mask ≠ 0) →
      let x := s.gpi g
      let idle : Contact := if o = .activeClosed then .opened else .closed
      let kept := o = x.polarity
      let y : Gpi := {
        mode := m
        mask := if m = .none then Bank.fill 4 false
          else #v[mask.getLsbD 0, mask.getLsbD 1, mask.getLsbD 2, mask.getLsbD 3]
        polarity := o
        debounce := min 15 debounce.toNat
        sampled := if kept then x.sampled else idle
        stable := if kept then x.stable else 16
        debounced := if kept then x.debounced else idle }
      ∃ u : State, exec (.gpiBind p tag gpi mode mask polarity debounce) s
          = .next (u.replied p tag 0x39 (clampedCode (decide (15 < debounce.toNat)))
            [gpi, mode, if mode = 0 then 0 else mask, polarity, byte1 (min 15 debounce.toNat),
              if (y.debounced = .closed ↔ o = .activeClosed) then 1 else 0])
        ∧ (s.setGpi g y).ContactsTook u
        ∧ ∀ (c : Channel) (k : GpiMode), u.contactLevel k c = true ↔
            ∃ i : GpiIx, (u.gpi i).mode = k ∧ (u.gpi i).mask.pick c = true
              ∧ ((u.gpi i).debounced = .closed ↔ (u.gpi i).polarity = .activeClosed)

/-- A tally output set for a period, by its mode, the opacity and the signer (R174, R175); TALLY_SET from
the supervisor port (R176), refused for values not defined, and otherwise replacing the record, starting the
flash afresh and setting the output at once; and FLASH_PHASE_CHANGE (R175), which turns the phase when that is
due and otherwise changes nothing (the model's choice: notes/assumptions/2.md). -/
def Obligations.TallyOutputs : Prop :=
  (∀ (x : Tally) (opacity : Nat) (available : Bool),
     let t := x.set opacity available
     let flashing := x.mode = .onAirFlash ∧ 0 < opacity ∧ available = false
     t = { x with phaseOn := t.phaseOn, count := t.count, active := t.active }
     ∧ (x.mode = .off → t.active = false ∧ t.phaseOn = true ∧ t.count = 0)
     ∧ (x.mode ≠ .off → ¬ flashing →
       (t.active = true ↔ 0 < opacity) ∧ t.phaseOn = true ∧ t.count = 0)
     ∧ (flashing → t.active = t.phaseOn)
     ∧ (flashing → x.count = 0 → t.phaseOn = true ∧ t.count = 1)
     ∧ (flashing → x.count ≠ 0 → x.phaseOn = true →
       (x.onCount ≤ x.count → t.phaseOn = false ∧ t.count = 1)
       ∧ (x.count < x.onCount → t.phaseOn = true ∧ t.count = x.count + 1))
     ∧ (flashing → x.count ≠ 0 → x.phaseOn = false →
       (x.offCount ≤ x.count → t.phaseOn = true ∧ t.count = 1)
       ∧ (x.count < x.offCount → t.phaseOn = false ∧ t.count = x.count + 1)))
  ∧ ((∀ (s : State) (p : PortId) (tag tally ch mode a b : Byte), s.Room p tag →
     (s.port p).supervisor = true →
     (4 ≤ tally.toNat ∨ 4 ≤ ch.toNat ∨ 3 ≤ mode.toNat →
       exec (.tallySet p tag tally ch mode a b) s = .next (s.replied p tag 0x3A .badParam []))
     ∧ ∀ (k : TallyIx) (c : Channel) (m : TallyMode), tally.toNat = k.val → ch.toNat = c.val →
       tallyModeByte m = mode →
       let onCount := min 250 (max 1 a.toNat)
       let offCount := min 250 (max 1 b.toNat)
       let opacity := if s.timing.relockPeriod then 0 else (s.chan c).latches.geometry.opacity
       let x := ({ s.tally k with
         channel := c, mode := m, onCount := onCount, offCount := offCount, phaseOn := true
         count := 0 } : Tally).set opacity (s.chan c).sync.lock.available
       exec (.tallySet p tag tally ch mode a b) s
         = .next ((s.setTally k x).replied p tag 0x3A
           (clampedCode (decide (onCount ≠ a.toNat) || decide (offCount ≠ b.toNat)))
           [tally, ch, mode, byte1 onCount, byte1 offCount, flagByte x.active]))
   ∧ ∀ (s : State) (k : TallyIx),
     let x := s.tally k
     let opacity := if s.timing.relockPeriod then 0 else (s.chan x.channel).latches.geometry.opacity
     let due := x.mode = .onAirFlash ∧ 0 < opacity
       ∧ (s.chan x.channel).sync.lock.available = false ∧ x.count ≠ 0
       ∧ (if x.phaseOn then x.onCount else x.offCount) ≤ x.count
     (due → exec (.flashPhaseChange k) s = .next (s.setTally k
       { x with phaseOn := !x.phaseOn, count := 1, active := !x.phaseOn }))
     ∧ (¬ due → exec (.flashPhaseChange k) s = .next s))

/-! ## What the outputs carry -/

/-- A period of opacity 0 (R100): programme out is the programme picture itself at every sample, whatever the
period's geometry and whatever the signer picture; and the general path would select the same samples, since
the effective programme rectangle is then the full raster and both programme steps are 65,536. -/
def Obligations.OpacityZero : Prop :=
  (∀ (f : Format) (l : Latches) (signer : Picture) (x y line : Nat), l.geometry.opacity = 0 →
    composite f l signer x y line = pairAt l.programme.picture line (x / 2))
  ∧ (∀ (s : State) (c : Channel) (line x : Nat), s.timing.relockPeriod = false →
    s.timing.blanking = false → (s.chan c).latches.geometry.opacity = 0 →
    s.programmeOut c line x = pairAt (s.chan c).latches.programme.picture line (x / 2))
  ∧ ∀ (f : Format) (l : Layout) (move : Option Move),
    let g := periodGeometry f l move 0
    g.effective = { x := 0, y := 0, w := width f, h := height f }
    ∧ g.programmeStepX = 65536 ∧ g.programmeStepY = 65536
    ∧ ∀ (p : Picture) (second : Bool) (x line : Nat), x % 2 = 0 → x < width f →
      frameLine f second line < height f →
      programmePair f g p x (frameLine f second line) = pairAt p line (x / 2)

/-- Key alpha (R108) and effective alpha (R109). -/
def Obligations.AlphaValues : Prop :=
  (∀ (f : Format) (l : Latches) (signer : Picture) (x y : Nat),
    l.geometry.layout.inner < l.geometry.layout.outer →
    (windowPair f l signer x y).2 ≤ 1024
    ∧ (l.geometry.layout.key = false ∨ l.display = .backdrop
        ∨ l.geometry.inner.holds x y = false → (windowPair f l signer x y).2 = 1024)
    ∧ (l.geometry.layout.key = true → l.display = .picture → l.geometry.inner.holds x y = true →
      let s := (windowPair f l signer x y).1
      let d := ((s.cb.toNat : Int) - (l.geometry.layout.kb : Int)).natAbs
        + ((s.cr.toNat : Int) - (l.geometry.layout.kr : Int)).natAbs
      let k := (windowPair f l signer x y).2
      (d ≤ l.geometry.layout.inner → k = 0)
      ∧ (l.geometry.layout.inner < d → d < l.geometry.layout.outer →
        k = (d - l.geometry.layout.inner) * 1024
          / (l.geometry.layout.outer - l.geometry.layout.inner))
      ∧ (l.geometry.layout.outer ≤ d → k = 1024)
      ∧ 64 ≤ s.cb.toNat ∧ s.cb.toNat ≤ 960 ∧ 64 ≤ s.cr.toNat ∧ s.cr.toNat ≤ 960))
  ∧ ∀ opacity k, opacity ≤ 1024 → k ≤ 1024 →
    let a := effectiveAlpha opacity k
    a = (opacity * k + 512) / 1024 ∧ a ≤ 1024
    ∧ (k = 1024 → a = opacity) ∧ (k = 0 → a = 0) ∧ (opacity = 1024 → a = k)

/-- The mix (R110): the formula with its floor and its clamp, the ends of the alpha range, and that every
sample inside the window rectangle in a period of opacity above 0 is in legal range. With it what is mixed: the
programme layer's pair, which outside the window rectangle is the output unchanged (R102 to R104), and the
window's pair: the signer picture's, in legal range, in the inner rectangle under PICTURE, and otherwise the border
colour (R105 to R107, R111, R112). `x` is even, and `y` the frame line. Programme out carries this of a period outside
relock and blanking, from the period's latches, the picture in the signer slot that they name (R98, R113), and the frame
line that the line of the period stands on (R99); where the slot is black the signer picture is. -/
def Obligations.MixedSamples : Prop :=
  (∀ (lo hi a : Nat) (p s : Sample), lo ≤ hi → hi < 1024 → a ≤ 1024 →
    ((mixSample lo hi a p s).toNat : Int) = max (lo : Int) (min (hi : Int)
      ((p.toNat : Int) + (((s.toNat : Int) - (p.toNat : Int)) * (a : Int) + 512) / 1024))
    ∧ (a = 0 → (mixSample lo hi a p s).toNat = max lo (min hi p.toNat))
    ∧ (a = 1024 → (mixSample lo hi a p s).toNat = max lo (min hi s.toNat)))
  ∧ (∀ (f : Format) (l : Latches) (signer : Picture) (x y line : Nat), 0 < l.geometry.opacity →
    l.geometry.layout.window.holds x y = true →
    let p := programmePair f l.geometry l.programme.picture x y
    let s := (windowPair f l signer x y).1
    let a := effectiveAlpha l.geometry.opacity (windowPair f l signer x y).2
    let out := composite f l signer x y line
    out = { y0 := mixSample 64 940 a p.y0 s.y0, y1 := mixSample 64 940 a p.y1 s.y1
            cb := mixSample 64 960 a p.cb s.cb, cr := mixSample 64 960 a p.cr s.cr }
    ∧ 64 ≤ out.y0.toNat ∧ out.y0.toNat ≤ 940 ∧ 64 ≤ out.y1.toNat ∧ out.y1.toNat ≤ 940
    ∧ 64 ≤ out.cb.toNat ∧ out.cb.toNat ≤ 960 ∧ 64 ≤ out.cr.toNat ∧ out.cr.toNat ≤ 960)
  ∧ (∀ (f : Format) (l : Latches) (signer : Picture) (x y line : Nat), 0 < l.geometry.opacity →
    l.geometry.layout.window.holds x y = false →
    composite f l signer x y line = programmePair f l.geometry l.programme.picture x y)
  ∧ (∀ (s : State) (c : Channel) (line x : Nat), s.timing.relockPeriod = false →
    s.timing.blanking = false → 0 < (s.chan c).latches.geometry.opacity →
    let l := (s.chan c).latches
    let y := if interlaced s.timing.format then (if s.timing.secondPeriod then 2 * line + 1 else 2 * line)
      else line
    let out := fun signer : Picture => composite s.timing.format l signer x y line
    (∀ p n, (s.chan c).sync.ring.pick l.signer = .picture p n → s.programmeOut c line x = out p)
    ∧ ((s.chan c).sync.ring.pick l.signer = .black → s.programmeOut c line x = out
        { base := { y0 := 64, y1 := 64, cb := 512, cr := 512 }, listed := [] }))
  ∧ ∀ (f : Format) (l : Latches) (signer : Picture) (x y : Nat), x % 2 = 0 →
    let g := l.geometry
    let inside := fun r : Rect => r.x ≤ x ∧ x < r.x + r.w ∧ r.y ≤ y ∧ y < r.y + r.h
    let luma := fun (p : Picture) (row column : Nat) =>
      if column % 2 = 0 then (pairAt p row (column / 2)).y0 else (pairAt p row (column / 2)).y1
    let plain := fun k : Colour => ({
      y0 := BitVec.ofNat 10 k.y, y1 := BitVec.ofNat 10 k.y, cb := BitVec.ofNat 10 k.cb
      cr := BitVec.ofNat 10 k.cr } : Pair)
    let p := programmePair f g l.programme.picture x y
    let s := (windowPair f l signer x y).1
    (inside g.effective →
      let column := fun n => (n - g.effective.x) * g.programmeStepX / 65536
      let row := if interlaced f then (y / 2 - g.effective.y / 2) * g.programmeStepY / 65536
        else (y - g.effective.y) * g.programmeStepY / 65536
      p = { y0 := luma l.programme.picture row (column x)
            y1 := luma l.programme.picture row (column (x + 1))
            cb := (pairAt l.programme.picture row (column x / 2)).cb
            cr := (pairAt l.programme.picture row (column x / 2)).cr })
    ∧ (¬ inside g.effective → p = plain g.layout.fill)
    ∧ (inside g.inner → l.display = .picture →
      let column := fun n => g.layout.crop.x + (n - g.inner.x) * g.stepX / 65536
      let row := if interlaced f
        then 2 * (g.layout.crop.y / 2 + (y / 2 - g.inner.y / 2) * g.stepY / 65536) + y % 2
        else g.layout.crop.y + (y - g.inner.y) * g.stepY / 65536
      let legal := fun (top n : Nat) => if n < 64 then 64 else if top < n then top else n
      s.y0.toNat = legal 940 (luma signer row (column x)).toNat
      ∧ s.y1.toNat = legal 940 (luma signer row (column (x + 1))).toNat
      ∧ s.cb.toNat = legal 960 (pairAt signer row (column x / 2)).cb.toNat
      ∧ s.cr.toNat = legal 960 (pairAt signer row (column x / 2)).cr.toNat)
    ∧ (¬ inside g.inner ∨ l.display = .backdrop → s = plain g.layout.borderColour)

/-- What the booth feed and programme out carry besides (R4, R114, R115, R153, R154, R157, R198): black without
ancillary data in a relock period; otherwise programme out carries the ancillary data of the latched period, and
the booth feed the picture of the input frame's part latched with the period, with its timecode and every packet
that is no marker, in order. In a period with a marker to send the marker stands first on the first vertical line,
and nothing else is new in the vertical space; without one no marker packet is left in it. That the outputs are
functions of the state, which periods belong to a relock, and that the blanking of an extended frame is black, is
the model's reading (notes/assumptions/29.md, 15.md and 32.md); so is the place of the
packets a marker displaces, which is not stated, and that without a vertical line there is no marker
(notes/assumptions/19.md). That a
marker due in a relock period is not carried follows R4, where R157 would have it inserted: the model's choice
(notes/assumptions/33.md). -/
def Obligations.BoothFeedContents : Prop :=
  ∀ (s : State) (c : Channel),
    let out := s.boothFeed c
    (s.timing.relockPeriod = true ∨ s.timing.blanking = true →
      out = blackPart ∧ s.programmeAnc c = noAnc
      ∧ ∀ line x, s.programmeOut c line x = { y0 := 64, y1 := 64, cb := 512, cr := 512 })
    ∧ (s.timing.relockPeriod = false → s.timing.blanking = false →
      let part := (s.chan c).latches.booth
      let packets := fun line : List AncItem => line.filterMap fun i =>
        match i with
        | .packet p => some p
        | .space _ => none
      let kept := fun line : List AncItem => (packets line).filter fun p => !markerIdentified p
      s.programmeAnc c = (s.chan c).latches.programme.anc
      ∧ out.picture = part.picture ∧ out.anc.timecode = part.anc.timecode
      ∧ out.anc.horizontal.map packets = part.anc.horizontal.map kept
      ∧ ((s.chan c).calibration.inserting = none →
        out.anc.vertical.map packets = part.anc.vertical.map kept
        ∧ out.anc.vertical.map (fun line => (line.map ancRoom).sum)
          = part.anc.vertical.map (fun line => (line.map ancRoom).sum))
      ∧ ∀ n, (s.chan c).calibration.inserting = some n →
        (0 < Config.verticalLines s.timing.format ∨ part.anc.vertical ≠ [] →
          ∃ (marker : Packet) (items : List AncItem) (lines : List (List AncItem)),
            out.anc.vertical = (.packet marker :: items) :: lines
            ∧ marker.words.map (fun word => word.toNat % 256)
              = [0x51, 0x2E, 3, c.val, n % 256, 255 - (c.val + n) % 256]
            ∧ (packets items ++ lines.flatMap packets).Subperm (part.anc.vertical.flatMap kept))
        ∧ (Config.verticalLines s.timing.format = 0 → part.anc.vertical = [] → out.anc.vertical = []))

/-! ## The control ports -/

/-- The reading requests (R33, R49, R66, R89, R132, R189, R190): each is refused for a value not defined,
and otherwise answered OK with a payload of the length 11.3 gives, a cue summary being of 12 bytes, and changes
nothing, but that SYNC_STATS_READ with CLEAR sets the repeat and drop counts to 0. That the last preset in the
reply of PRESET_READ with index 8 is the window's of that moment, and not a latched one, is the model's reading
(notes/assumptions/17.md). -/
def Obligations.ReadReplies : Prop :=
  ∀ (s : State) (p : PortId) (tag ch : Byte), s.Room p tag →
    (4 ≤ ch.toNat →
      exec (.statusRead p tag ch) s = .next (s.replied p tag 0x01 .badParam [])
      ∧ exec (.outcomeRead p tag ch) s = .next (s.replied p tag 0x17 .badParam [])
      ∧ exec (.spanRead p tag ch) s = .next (s.replied p tag 0x26 .badParam [])
      ∧ (∀ b, exec (.presetRead p tag ch b) s = .next (s.replied p tag 0x24 .badParam [])
        ∧ exec (.syncStatsRead p tag ch b) s = .next (s.replied p tag 0x04 .badParam [])
        ∧ ∀ start, exec (.cueListRead p tag ch b start) s = .next (s.replied p tag 0x13 .badParam [])))
    ∧ (∀ c : Channel, ch.toNat = c.val →
      let x := s.chan c
      let w := x.window
      (exec (.statusRead p tag ch) s = .next (s.replied p tag 0x01 .ok (s.statusBytes c))
        ∧ (s.statusBytes c).length = 43
        ∧ byteAt (s.statusBytes c) 0 = windowStateByte w.state
        ∧ halfAt (s.statusBytes c) 1 = BitVec.ofNat 16 w.opacity
        ∧ byteAt (s.statusBytes c) 12 = suppressionByte w.suppression
        ∧ byteAt (s.statusBytes c) 14 = holdByte x.scheduler.hold
        ∧ byteAt (s.statusBytes c) 15 = clockStatusByte x.clock.status
        ∧ (x.clock.status = .invalid → labelAt (s.statusBytes c) 16 = ⟨0xFF, 0xFF, 0xFF, 0xFF⟩)
        ∧ byteAt (s.statusBytes c) 20 = byte1 x.delay.actual
        ∧ byteAt (s.statusBytes c) 25 = byte1 s.free
        ∧ byteAt (s.statusBytes c) 26 = byte1 x.calibration.latency
        ∧ halfAt (s.statusBytes c) 32 = BitVec.ofNat 16 x.calibration.runCount
        ∧ byteAt (s.statusBytes c) 42 = lockByte x.sync.lock)
      ∧ (let k := x.scheduler
        exec (.outcomeRead p tag ch) s = .next (s.replied p tag 0x17 .ok
          (bytes2 k.total ++ [byte1 k.ring.length] ++ k.ring.flatMap outcomeBytes))
        ∧ ∀ r, (outcomeBytes r).length = 9)
      ∧ (∃ body, exec (.spanRead p tag ch) s = .next (s.replied p tag 0x26 .ok
            (body ++ [flagByte w.spanMatch])) ∧ body.length = 44
          ∧ ∀ i : SpanIx, byteAt body (11 * i.val) = flagByte (w.spans.pick i).enabled
            ∧ byteAt body (11 * i.val + 10) = portByte? (w.spans.pick i).writer)
      ∧ (∀ (b : Byte) (i : PresetIx), b.toNat = i.val →
        exec (.presetRead p tag ch b) s = .next (s.replied p tag 0x24 .ok
          (layoutBytes (x.presets.pick i).layout ++ [portByte? (x.presets.pick i).writer])))
      ∧ (∃ body, exec (.presetRead p tag ch 8) s = .next (s.replied p tag 0x24 .ok
            (layoutBytes x.latches.geometry.layout ++ [byte1 w.lastPreset] ++ body))
          ∧ body.length = 34 ∧ halfAt body 32 = BitVec.ofNat 16 x.latches.geometry.opacity)
      ∧ (∀ b : Byte, 9 ≤ b.toNat →
        exec (.presetRead p tag ch b) s = .next (s.replied p tag 0x24 .badParam []))
      ∧ (exec (.syncStatsRead p tag ch 0) s
            = .next (s.replied p tag 0x04 .ok x.sync.statsBytes)
          ∧ exec (.syncStatsRead p tag ch 1) s = .next ((s.setChan c (x.setSync
            { x.sync with repeats := 0, drops := 0 })).replied p tag 0x04 .ok x.sync.statsBytes)
          ∧ x.sync.statsBytes.length = 19
          ∧ ∀ b : Byte, 2 ≤ b.toNat →
            exec (.syncStatsRead p tag ch b) s = .next (s.replied p tag 0x04 .badParam []))
      ∧ (∀ (selector start : Byte) (contact : Bool), selector = (if contact then 1 else 0) →
        let list := if contact then x.scheduler.contact else x.scheduler.timed
        let shown := (list.drop start.toNat).take 5
        exec (.cueListRead p tag ch selector start) s = .next (s.replied p tag 0x13 .ok
          (bytes2 list.length ++ [start, byte1 shown.length] ++ shown.flatMap s.summaryBytes)))
      ∧ (∀ (selector start : Byte), 2 ≤ selector.toNat →
        exec (.cueListRead p tag ch selector start) s = .next (s.replied p tag 0x13 .badParam []))
      ∧ (∀ i : SlotIx, (s.cue i).isSome = true → (s.summaryBytes i).length = 12)
      ∧ exec (.configRead p tag 1 ch) s = .next (s.replied p tag 0x3E .ok
          [sourceByte x.clock.source, dropModeByte x.clock.dropMode, byte1 x.clock.freewheelLimit,
            byte1 x.scheduler.lateTolerance, byte1 x.sync.holdLimit, policyByte x.sync.policy,
            byte1 x.delay.slewInterval, byte1 w.fade]))
    ∧ (∃ body, exec (.configRead p tag 0 ch) s = .next (s.replied p tag 0x3E .ok
          ([formatByte s.timing.format, referenceByte s.timing.reference,
            byte1 s.timing.relockCount, flagByte s.timing.fastBaud] ++ body)) ∧ body.length = 24)
    ∧ (∃ body, exec (.configRead p tag 2 ch) s = .next (s.replied p tag 0x3E .ok body)
        ∧ body.length = 40
        ∧ ∀ g : GpiIx, byteAt body (5 * g.val) = gpiModeByte (s.gpi g).mode
          ∧ byteAt body (5 * g.val + 4) = flagByte (s.gpi g).level)
    ∧ (∃ body, exec (.configRead p tag 3 ch) s = .next (s.replied p tag 0x3E .ok body)
        ∧ body.length = 20
        ∧ ∀ k : TallyIx, byteAt body (5 * k.val + 4) = flagByte (s.tally k).active)
    ∧ (∀ part : Byte, 4 ≤ part.toNat ∨ (part = 1 ∧ 4 ≤ ch.toNat) →
      exec (.configRead p tag part ch) s = .next (s.replied p tag 0x3E .badParam []))

/-- ATTENTION_READ and ATTENTION_MASK (R186 to R188): the first takes the latch of highest priority, and of
the lowest channel within it, and tells how many are left; the second replaces the mask and leaves the latches,
and is refused for a mask with a bit above the eighth. -/
def Obligations.AttentionRequests : Prop :=
  ∀ (s : State) (p : PortId) (tag : Byte), s.Room p tag →
    let x := s.port p
    let channel := fun l : Latch => match l with
      | .channel _ c => byte1 c
      | .replyOverrun => 0xFF
      | .referenceChange => 0xFF
    ((∀ l, x.holds l = false) →
      exec (.attentionRead p tag) s = .next (s.replied p tag 0x02 .ok [0, 0xFF, 0])
      ∧ x.attention = false)
    ∧ (∀ l, x.holds l = true →
      (∀ k, x.holds k = true → l.bit < k.bit ∨ (l.bit = k.bit ∧ (channel l).toNat ≤ (channel k).toNat)) →
      x.attention = true
      ∧ ∃ y : Port, y = { x with latches := y.latches }
        ∧ (∀ k, y.holds k = (x.holds k && decide (k ≠ l)))
        ∧ exec (.attentionRead p tag) s = .next ((s.setPort p y).replied p tag 0x02 .ok
            [byte1 (l.bit.val + 1), channel l, byte1 (Latch.all.filter y.holds).length]))
    ∧ (∀ mask : Half, 256 ≤ mask.toNat →
      exec (.attentionMask p tag mask) s = .next (s.replied p tag 0x03 .badParam []))
    ∧ (∀ mask : Half, mask.toNat < 256 →
      ∃ y : Port, y = { x with mask := BitVec.ofNat 8 mask.toNat }
        ∧ (∀ l, y.enables l = mask.getLsbD l.bit)
        ∧ exec (.attentionMask p tag mask) s
          = .next ((s.setPort p y).replied p tag 0x03 .ok (bytes2 mask.toNat)))

/-- Requests that no owner takes (R183 to R185): the six supervisor requests on another port are refused
NOT_SUPERVISOR and change nothing but the reply; and any request whose reply finds the queue full changes
nothing, whatever it is, but that REPLY_OVERRUN is posted to its port. -/
def Obligations.UntakenRequests : Prop :=
  (∀ (s : State) (p : PortId) (tag : Byte), s.Room p tag → (s.port p).supervisor = false →
    (∀ ch f, exec (.channelConfig p tag ch f) s = .next (s.replied p tag 0x38 .notSupervisor []))
    ∧ (∀ g m k o d, exec (.gpiBind p tag g m k o d) s
        = .next (s.replied p tag 0x39 .notSupervisor []))
    ∧ (∀ t ch m a b, exec (.tallySet p tag t ch m a b) s
        = .next (s.replied p tag 0x3A .notSupervisor []))
    ∧ (∀ f, exec (.formatSet p tag f) s = .next (s.replied p tag 0x3B .notSupervisor []))
    ∧ (∀ ch, exec (.channelReset p tag ch) s = .next (s.replied p tag 0x3C .notSupervisor []))
    ∧ exec (.deviceReset p tag) s = .next (s.replied p tag 0x3D .notSupervisor []))
  ∧ ∀ (s : State) (p : PortId) (tag : Byte) (r : Request), tag ≠ 0xFF →
    4 ≤ (s.port p).queue.length →
    ∃ u : State, exec (requestCommand p tag r) s = .next u ∧ u = { s with ports := u.ports }
      ∧ ∀ q, (s.port q).Posted (u.port q) fun l => l = .replyOverrun ∧ q = p

/-- The dispatcher (R181, R183 to R185): a code and a payload of its length spell exactly the request of the code's
row, with its fields in the bytes that 11.3 and 11.4 lay out (R196, R197). Then the check character, the code, the
length, the supervisor's flag and the queue, in that order; a frame that passes them runs the command of its request's
row, and a refused one changes nothing but its reply, REPLY_OVERRUN being posted where the queue has no place for it.
`frame` is the whole frame, and its last character is the one now received. -/
def Obligations.RequestChecks : Prop :=
  (∀ r : Request, requestLength (requestCode r) = some (requestPayload r).length
    ∧ requestOf (requestCode r) (requestPayload r) = some r)
  ∧ (∀ (code : Byte) (payload : List Byte) (r : Request), requestLength code = some payload.length →
    requestOf code payload = some r → code = requestCode r ∧ payload = requestPayload r)
  ∧ ∀ (s : State) (p : PortId) (held : List Byte) (v : Byte), (s.port p).receiver = .receiving held →
    (s.port p).broken = false → 3 ≤ held.length → held.length = (byteAt held 2).toNat + 3 →
    let frame := held ++ [v]
    let code := byteAt frame 0
    let tag := byteAt frame 1
    let payload := held.drop 3
    let t := s.setReceiver p .idle
    let run := exec (.characterReceived p { stopError := false, lead := false, value := v }) s
    let overrun := ∃ u : State, run = .next u ∧ u = { t with ports := u.ports }
      ∧ ∀ q, (t.port q).Posted (u.port q) fun l => l = .replyOverrun ∧ q = p
    (frame.sum ≠ 0 → s.Room p tag → run = .next (t.replied p tag code .badCheck []))
    ∧ (frame.sum ≠ 0 → ¬ s.Room p tag → overrun)
    ∧ (frame.sum = 0 → requestLength code = none → ¬ s.Room p tag → overrun)
    ∧ (∀ n, frame.sum = 0 → requestLength code = some n → payload.length ≠ n → ¬ s.Room p tag → overrun)
    ∧ (frame.sum = 0 → requestLength code = none → s.Room p tag →
      ∃ u : State, run = .next u ∧ (tag = 0xFF → u = t)
        ∧ (tag ≠ 0xFF → u = t.setPort p { t.port p with
          queue := (t.port p).queue ++ [{ lead := code, tag := tag, code := 0x04, payload := [] }]
          sending := true }))
    ∧ (∀ n, frame.sum = 0 → requestLength code = some n → payload.length ≠ n → s.Room p tag →
      run = .next (t.replied p tag code .badLength []))
    ∧ (requestLength code = some payload.length → ∃ r, requestOf code payload = some r
      ∧ (frame.sum = 0 → run = exec (requestCommand p tag r) t)
      ∧ (frame.sum = 0 → (s.port p).supervisor = false → s.Room p tag →
          (∃ c ∈ ([0x38, 0x39, 0x3A, 0x3B, 0x3C, 0x3D] : List Byte), code = c) →
        run = .next (t.replied p tag code .notSupervisor []))
      ∧ (frame.sum = 0 → tag ≠ 0xFF → 4 ≤ (s.port p).queue.length → overrun))

/-- The receiver table (R180, R181), FRAME_GAP_TIMEOUT, LINE_BREAK and LINE_RETURNED_TO_MARK (R182) and
REPLY_SENT (R183): everything but the port's own line state, abandoned count and reply queue stays. -/
def Obligations.ReceiverTable : Prop :=
  ∀ (s : State) (p : PortId),
    let x := s.port p
    let put := fun y : Port => s.setPort p y
    let got := fun (stop lead : Bool) (v : Byte) =>
      exec (.characterReceived p { stopError := stop, lead := lead, value := v }) s
    (x.broken = true → ∀ stop lead v, got stop lead v = .next s)
    ∧ (x.broken = false → ∀ v,
      (x.receiver = .idle ∨ x.receiver = .discarding →
        got false true v = .next (put { x with receiver := .receiving [v] })
        ∧ got false false v = .next s
        ∧ (∀ b, got true b v = .next (put { x with receiver := .discarding })))
      ∧ (∀ held, x.receiver = .receiving held →
        got false true v = .next (put { x with
          receiver := .receiving [v], abandoned := min 65535 (x.abandoned + 1) })
        ∧ (∀ b, got true b v = .next (put { x with
          receiver := .discarding, abandoned := min 65535 (x.abandoned + 1) }))
        ∧ (held.length < 2 ∨ (held.length = 2 ∧ v.toNat ≤ 48)
            ∨ (2 < held.length ∧ held.length ≠ (byteAt held 2).toNat + 3) →
          got false false v = .next (put { x with receiver := .receiving (held ++ [v]) }))
        ∧ (held.length = 2 → 48 < v.toNat →
          let t := put { x with receiver := .discarding }
          (s.Room p (byteAt held 1) → got false false v = .next (t.replied p
            (byteAt held 1) (byteAt held 0) .badLength []))
          ∧ (¬ s.Room p (byteAt held 1) →
            ∃ u : State, got false false v = .next u ∧ u = { t with ports := u.ports }
              ∧ ∀ q, (t.port q).Posted (u.port q) fun l => l = .replyOverrun ∧ q = p))))
    ∧ (∀ held, x.receiver = .receiving held →
      exec (.frameGapTimeout p) s = .next (put { x with
        receiver := .discarding, abandoned := min 65535 (x.abandoned + 1) }))
    ∧ (x.receiver = .idle ∨ x.receiver = .discarding → exec (.frameGapTimeout p) s = .next s)
    ∧ exec (.lineBreak p) s = .next (put { x with
        receiver := .idle, broken := true, queue := [], sending := false })
    ∧ exec (.lineReturnedToMark p) s = .next (put { x with broken := false })
    ∧ (∀ r rest, x.queue = r :: rest → x.sending = true →
      exec (.replySent p) s = .next (put { x with
        queue := rest, sending := decide (rest ≠ []) }))
    ∧ (x.sending = false → exec (.replySent p) s = .next s)

/-- CHANNEL_CONFIG (R12, R18, R34, R58, R61, R62, R67, R130, R148, R191): refused off the supervisor port and for
values not defined; otherwise the eight fields are stored, clamped, and replied; the clock follows, and the SIGNER
level; and a change of drop mode at 29.97 frame/s keeps the label of every TIME cue and of both ends of every span,
the timed list going into the order of the new fire times, and the span result being computed anew for an INTERNAL
clock. The window follows the SPAN and then the SIGNER member over the suppression fade it had. Without such a
change no cue, no list and no span changes. -/
def Obligations.ChannelConfigResult : Prop :=
  ∀ (s : State) (p : PortId) (tag ch : Byte) (f : ConfigFields), s.Room p tag →
    ((s.port p).supervisor = false →
      exec (.channelConfig p tag ch f) s = .next (s.replied p tag 0x38 .notSupervisor []))
    ∧ ((s.port p).supervisor = true →
      4 ≤ ch.toNat ∨ 2 ≤ f.source.toNat ∨ 2 ≤ f.dropMode.toNat ∨ 3 ≤ f.lossPolicy.toNat →
      exec (.channelConfig p tag ch f) s = .next (s.replied p tag 0x38 .badParam []))
    ∧ ∀ (c : Channel) (source : Source) (mode : DropMode) (policy : LossPolicy),
      (s.port p).supervisor = true → ch.toNat = c.val → sourceByte source = f.source →
      dropModeByte mode = f.dropMode → policyByte policy = f.lossPolicy →
      s.LevelsFollowed → s.CuesSound → s.RecordsSound → s.ClocksSound →
      let x := s.chan c
      let limit := min 250 f.freewheelLimit.toNat
      let tolerance := min 250 f.lateTolerance.toNat
      let hold := min 250 (max 1 f.holdLimit.toNat)
      let slew := min 250 (max 1 f.slewInterval.toNat)
      let fade := min 250 f.fade.toNat
      let clamped := f.freewheelLimit.toNat ≠ limit ∨ f.lateTolerance.toNat ≠ tolerance
        ∨ f.holdLimit.toNat ≠ hold ∨ f.slewInterval.toNat ≠ slew ∨ f.fade.toNat ≠ fade
      let k : CueClock :=
        if source = x.clock.source then x.clock
        else if source = .internal then { x.clock with
          source := .internal, value := x.clock.lastValid.getD 0
          lastValid := some (x.clock.lastValid.getD 0), status := .valid, freewheelCount := 0
          pendingPreset := none }
        else { x.clock with
          source := .embedded, status := .valid, freewheelCount := 0, pendingPreset := none }
      let converts := mode ≠ x.clock.dropMode ∧ fractional s.timing.format = true
      let day := dayLength s.timing.format mode
      let j : CueClock :=
        if ¬ converts then { k with dropMode := mode }
        else if source = .embedded then { k with
          dropMode := mode, status := .invalid, value := 0, freewheelCount := 0, lastValid := none
          pendingPreset := none }
        else { k with
          dropMode := mode, value := k.value % day, lastValid := k.lastValid.map (· % day)
          pendingPreset := k.pendingPreset.map (· % day) }
      let level :=
        if x.sync.policy = .withdraw ∧ policy ≠ .withdraw then false
        else if x.sync.policy ≠ .withdraw ∧ policy = .withdraw then
          x.sync.level || decide (x.sync.lock = .lost) || decide (x.sync.lock = .mismatch)
        else x.sync.level
      let keep := fun n : Nat =>
        let old := labelOf s.timing.format x.clock.dropMode n
        frameNumber s.timing.format mode (if x.clock.dropMode = .df ∨ labelValid s.timing.format .df old
          then old else { old with ff := 2 })
      let spans : Bank 4 Span := if converts then x.window.spans.map fun y =>
        { y with start := keep y.start, stop := keep y.stop } else x.window.spans
      ∃ (u : State) (result : Bool),
        let w : Window := { x.window with spans := spans, spanMatch := result }
        let spanned := w.follow
          { w with suppression := { w.suppression with span := result } } x.presets w.fade
        let signed := spanned.follow
          { spanned with suppression := { spanned.suppression with signer := level } } x.presets w.fade
        exec (.channelConfig p tag ch f) s = .next (u.replied p tag 0x38 (clampedCode (decide clamped))
          [f.source, f.dropMode, byte1 limit, byte1 tolerance, byte1 hold, f.lossPolicy, byte1 slew,
            byte1 fade])
        ∧ u = { s with cues := u.cues, channels := u.channels, ports := u.ports }
        ∧ (∀ d, d ≠ c → u.chan d = s.chan d)
        ∧ u.chan c = (((((x.setClock { j with freewheelLimit := limit }).setScheduler
            { x.scheduler with
              lateTolerance := tolerance, timed := (u.chan c).scheduler.timed
              scan := (u.chan c).scheduler.scan }).setSync
            { x.sync with holdLimit := hold, policy := policy, level := level }).setDelay
            { x.delay with slewInterval := slew }).setWindow { signed with fade := fade })
        ∧ (¬ converts ∨ source = .embedded → result = x.window.spanMatch)
        ∧ (converts → source = .internal → (result = true ↔ ∃ i, (spans.pick i).enabled = true
            ∧ (if (spans.pick i).mode = .inside
                then (spans.pick i).start ≤ j.value ∧ j.value ≤ (spans.pick i).stop
                else (spans.pick i).start ≤ j.value ∨ j.value ≤ (spans.pick i).stop)))
        ∧ u.LevelsFollowed
        ∧ s.Posted u (fun l =>
          (l = .channel .clockChange c ∧ (source ≠ x.clock.source ∨ k.status ≠ j.status))
          ∨ (l = .channel .suppressionChange c
            ∧ (result ≠ x.window.spanMatch ∨ level ≠ x.sync.level)))
        ∧ (¬ converts → u.cues = s.cues ∧ (u.chan c).scheduler.timed = x.scheduler.timed
          ∧ (u.chan c).scheduler.scan = x.scheduler.scan)
        ∧ (converts → ∀ n, n < dayLength s.timing.format x.clock.dropMode → keep n < day)
        ∧ (converts →
          (∀ i, (∀ n, ∀ o ∈ s.cue i, o.channel = c → o.trigger ≠ .time n) → u.slot i = s.slot i)
          ∧ (∀ i o n, s.cue i = some o → o.channel = c → o.trigger = .time n →
            let old := labelOf s.timing.format x.clock.dropMode n
            ∃ m, u.slot i = { s.slot i with cue := some { o with trigger := .time m } } ∧ m < day
              ∧ labelOf s.timing.format mode m
                = (if labelValid s.timing.format mode old then old else { old with ff := 2 }))
          ∧ (u.chan c).scheduler.timed.Perm x.scheduler.timed
          ∧ (u.chan c).scheduler.timed.Pairwise (fun a b => u.fireTimeAt a ≤ u.fireTimeAt b)
          ∧ (u.chan c).scheduler.scan = (if source = .embedded then none
            else x.scheduler.scan.map (· % day)))

/-! ## What every step keeps -/

/-- The frame slot pool (R136, R137, R140, R145): every step keeps the count of free slots, and every delay line
its slots, ring and range. -/
def Obligations.PoolKept : Prop :=
  ∀ s t : State, s.PoolSound → step s = .next t → t.PoolSound

/-- The window and its ramp (R52 to R56, R69): every step keeps each window RISING or ON exactly while effective
on holds, its opacity what its state and ramp say, and its moves unfinished. -/
def Obligations.WindowsKept : Prop :=
  ∀ s t : State, s.WindowsSound → step s = .next t → t.WindowsSound

/-- The members of the suppression set that follow a level (R55, R59, R171): every step keeps SPAN, CONTACT,
SIGNER, CALIBRATION and contact hold in step with their levels. -/
def Obligations.LevelsKept : Prop :=
  ∀ s t : State, s.LevelsFollowed → step s = .next t → t.LevelsFollowed

/-- Stored presets, working geometries and the ends of moves (R71, R82 to R87, R91, R92): every step keeps them
fitted to the raster of the format in force. -/
def Obligations.LayoutsKept : Prop :=
  ∀ s t : State, s.LayoutsFitted → step s = .next t → t.LayoutsFitted

/-- The plan and the clocks (2.1, R9, R10, R15, R20, R22, R23, R34, R47): every step keeps every live cue once on
the list of its channel and kind, the timed lists in order, the records and clocks in range, and the rings at
8 records or fewer. -/
def Obligations.PlanKept : Prop :=
  ∀ s t : State, s.CuesSound → s.RecordsSound → s.ClocksSound → s.RingsSound → step s = .next t →
    t.CuesSound ∧ t.RecordsSound ∧ t.ClocksSound ∧ t.RingsSound

/-- The ports, the signer rings, the contacts and tallies, and the timing unit (R2 to R4, R120 to R125, R131,
R168, R172, R175, R180 to R184): every step keeps each of them in its bounds; the writer never uses the slot being
read or the newest; at most one port is the supervisor. -/
def Obligations.BlocksKept : Prop :=
  ∀ s t : State, step s = .next t →
    (s.PortsSound → t.PortsSound) ∧ (s.SynchronisersSound → t.SynchronisersSound)
    ∧ (s.ContactsSound → t.ContactsSound) ∧ (s.TimingSound → t.TimingSound)

/-- All of these hold after power-on reset, under every strapping. -/
def Obligations.PowerOnSound : Prop :=
  ∀ straps : Straps,
    let s := State.powerOn straps
    s.PoolSound ∧ s.WindowsSound ∧ s.LevelsFollowed ∧ s.LayoutsFitted ∧ s.CuesSound ∧ s.RecordsSound
    ∧ s.ClocksSound ∧ s.RingsSound ∧ s.PortsSound ∧ s.SynchronisersSound ∧ s.ContactsSound
    ∧ s.TimingSound
end

