-- ==== Sys2Proof/Laws/State.lean ====
section
/-! SUPPORT. The small lemmas of State: reading a field of an updated record, and reading back one of like
things after a write. -/

namespace Sys2Proof

/-! ## Banks and trios -/

@[simp] theorem Bank.pick_put_same {n : Nat} {α : Type} (b : Bank n α) (i : Fin n) (x : α) :
    (b.put i x).pick i = x := by simp [Bank.pick, Bank.put]

theorem Bank.pick_put_ne {n : Nat} {α : Type} (b : Bank n α) {i j : Fin n} (x : α) (h : j ≠ i) :
    (b.put i x).pick j = b.pick j := by
  have h' : i.val ≠ j.val := fun e => h (Fin.ext e.symm)
  simp [Bank.pick, Bank.put, h']

theorem Bank.pick_put {n : Nat} {α : Type} (b : Bank n α) (i j : Fin n) (x : α) :
    (b.put i x).pick j = if j = i then x else b.pick j := by
  by_cases h : j = i
  · subst h; simp
  · simp [h, Bank.pick_put_ne b x h]

@[simp] theorem Bank.pick_fill {n : Nat} {α : Type} (x : α) (i : Fin n) :
    (Bank.fill n x).pick i = x := by simp [Bank.pick, Bank.fill]

@[simp] theorem Bank.pick_map {n : Nat} {α β : Type} (f : α → β) (b : Bank n α) (i : Fin n) :
    Bank.pick (Vector.map f b) i = f (b.pick i) := by simp [Bank.pick]

@[simp] theorem Trio.pick_put_same {α : Type} (t : Trio α) (p : PortId) (x : α) :
    (t.put p x).pick p = x := by cases p <;> rfl

theorem Trio.pick_put_ne {α : Type} (t : Trio α) {p q : PortId} (x : α) (h : q ≠ p) :
    (t.put p x).pick q = t.pick q := by cases p <;> cases q <;> simp_all [Trio.put, Trio.pick]

theorem Trio.pick_put {α : Type} (t : Trio α) (p q : PortId) (x : α) :
    (t.put p x).pick q = if q = p then x else t.pick q := by
  by_cases h : q = p
  · subst h; simp
  · simp [h, Trio.pick_put_ne t x h]

namespace Machine

/-! ## The parts of a channel -/

@[simp] theorem ChannelState.setClock_clock (x : ChannelState) (v : CueClock) :
    (x.setClock v).clock = v := rfl

@[simp] theorem ChannelState.setClock_report (x : ChannelState) (v : CueClock) :
    (x.setClock v).report = x.report := rfl

@[simp] theorem ChannelState.setClock_scheduler (x : ChannelState) (v : CueClock) :
    (x.setClock v).scheduler = x.scheduler := rfl

@[simp] theorem ChannelState.setClock_window (x : ChannelState) (v : CueClock) :
    (x.setClock v).window = x.window := rfl

@[simp] theorem ChannelState.setClock_presets (x : ChannelState) (v : CueClock) :
    (x.setClock v).presets = x.presets := rfl

@[simp] theorem ChannelState.setClock_sync (x : ChannelState) (v : CueClock) :
    (x.setClock v).sync = x.sync := rfl

@[simp] theorem ChannelState.setClock_delay (x : ChannelState) (v : CueClock) :
    (x.setClock v).delay = x.delay := rfl

@[simp] theorem ChannelState.setClock_calibration (x : ChannelState) (v : CueClock) :
    (x.setClock v).calibration = x.calibration := rfl

@[simp] theorem ChannelState.setClock_latches (x : ChannelState) (v : CueClock) :
    (x.setClock v).latches = x.latches := rfl

@[simp] theorem ChannelState.setReport_clock (x : ChannelState) (v : Option StepReport) :
    (x.setReport v).clock = x.clock := rfl

@[simp] theorem ChannelState.setReport_report (x : ChannelState) (v : Option StepReport) :
    (x.setReport v).report = v := rfl

@[simp] theorem ChannelState.setReport_scheduler (x : ChannelState) (v : Option StepReport) :
    (x.setReport v).scheduler = x.scheduler := rfl

@[simp] theorem ChannelState.setReport_window (x : ChannelState) (v : Option StepReport) :
    (x.setReport v).window = x.window := rfl

@[simp] theorem ChannelState.setReport_presets (x : ChannelState) (v : Option StepReport) :
    (x.setReport v).presets = x.presets := rfl

@[simp] theorem ChannelState.setReport_sync (x : ChannelState) (v : Option StepReport) :
    (x.setReport v).sync = x.sync := rfl

@[simp] theorem ChannelState.setReport_delay (x : ChannelState) (v : Option StepReport) :
    (x.setReport v).delay = x.delay := rfl

@[simp] theorem ChannelState.setReport_calibration (x : ChannelState) (v : Option StepReport) :
    (x.setReport v).calibration = x.calibration := rfl

@[simp] theorem ChannelState.setReport_latches (x : ChannelState) (v : Option StepReport) :
    (x.setReport v).latches = x.latches := rfl

@[simp] theorem ChannelState.setScheduler_clock (x : ChannelState) (v : Scheduler) :
    (x.setScheduler v).clock = x.clock := rfl

@[simp] theorem ChannelState.setScheduler_report (x : ChannelState) (v : Scheduler) :
    (x.setScheduler v).report = x.report := rfl

@[simp] theorem ChannelState.setScheduler_scheduler (x : ChannelState) (v : Scheduler) :
    (x.setScheduler v).scheduler = v := rfl

@[simp] theorem ChannelState.setScheduler_window (x : ChannelState) (v : Scheduler) :
    (x.setScheduler v).window = x.window := rfl

@[simp] theorem ChannelState.setScheduler_presets (x : ChannelState) (v : Scheduler) :
    (x.setScheduler v).presets = x.presets := rfl

@[simp] theorem ChannelState.setScheduler_sync (x : ChannelState) (v : Scheduler) :
    (x.setScheduler v).sync = x.sync := rfl

@[simp] theorem ChannelState.setScheduler_delay (x : ChannelState) (v : Scheduler) :
    (x.setScheduler v).delay = x.delay := rfl

@[simp] theorem ChannelState.setScheduler_calibration (x : ChannelState) (v : Scheduler) :
    (x.setScheduler v).calibration = x.calibration := rfl

@[simp] theorem ChannelState.setScheduler_latches (x : ChannelState) (v : Scheduler) :
    (x.setScheduler v).latches = x.latches := rfl

@[simp] theorem ChannelState.setWindow_clock (x : ChannelState) (v : Window) :
    (x.setWindow v).clock = x.clock := rfl

@[simp] theorem ChannelState.setWindow_report (x : ChannelState) (v : Window) :
    (x.setWindow v).report = x.report := rfl

@[simp] theorem ChannelState.setWindow_scheduler (x : ChannelState) (v : Window) :
    (x.setWindow v).scheduler = x.scheduler := rfl

@[simp] theorem ChannelState.setWindow_window (x : ChannelState) (v : Window) :
    (x.setWindow v).window = v := rfl

@[simp] theorem ChannelState.setWindow_presets (x : ChannelState) (v : Window) :
    (x.setWindow v).presets = x.presets := rfl

@[simp] theorem ChannelState.setWindow_sync (x : ChannelState) (v : Window) :
    (x.setWindow v).sync = x.sync := rfl

@[simp] theorem ChannelState.setWindow_delay (x : ChannelState) (v : Window) :
    (x.setWindow v).delay = x.delay := rfl

@[simp] theorem ChannelState.setWindow_calibration (x : ChannelState) (v : Window) :
    (x.setWindow v).calibration = x.calibration := rfl

@[simp] theorem ChannelState.setWindow_latches (x : ChannelState) (v : Window) :
    (x.setWindow v).latches = x.latches := rfl

@[simp] theorem ChannelState.setPresets_clock (x : ChannelState) (v : Bank 8 Preset) :
    (x.setPresets v).clock = x.clock := rfl

@[simp] theorem ChannelState.setPresets_report (x : ChannelState) (v : Bank 8 Preset) :
    (x.setPresets v).report = x.report := rfl

@[simp] theorem ChannelState.setPresets_scheduler (x : ChannelState) (v : Bank 8 Preset) :
    (x.setPresets v).scheduler = x.scheduler := rfl

@[simp] theorem ChannelState.setPresets_window (x : ChannelState) (v : Bank 8 Preset) :
    (x.setPresets v).window = x.window := rfl

@[simp] theorem ChannelState.setPresets_presets (x : ChannelState) (v : Bank 8 Preset) :
    (x.setPresets v).presets = v := rfl

@[simp] theorem ChannelState.setPresets_sync (x : ChannelState) (v : Bank 8 Preset) :
    (x.setPresets v).sync = x.sync := rfl

@[simp] theorem ChannelState.setPresets_delay (x : ChannelState) (v : Bank 8 Preset) :
    (x.setPresets v).delay = x.delay := rfl

@[simp] theorem ChannelState.setPresets_calibration (x : ChannelState) (v : Bank 8 Preset) :
    (x.setPresets v).calibration = x.calibration := rfl

@[simp] theorem ChannelState.setPresets_latches (x : ChannelState) (v : Bank 8 Preset) :
    (x.setPresets v).latches = x.latches := rfl

@[simp] theorem ChannelState.setSync_clock (x : ChannelState) (v : Synchroniser) :
    (x.setSync v).clock = x.clock := rfl

@[simp] theorem ChannelState.setSync_report (x : ChannelState) (v : Synchroniser) :
    (x.setSync v).report = x.report := rfl

@[simp] theorem ChannelState.setSync_scheduler (x : ChannelState) (v : Synchroniser) :
    (x.setSync v).scheduler = x.scheduler := rfl

@[simp] theorem ChannelState.setSync_window (x : ChannelState) (v : Synchroniser) :
    (x.setSync v).window = x.window := rfl

@[simp] theorem ChannelState.setSync_presets (x : ChannelState) (v : Synchroniser) :
    (x.setSync v).presets = x.presets := rfl

@[simp] theorem ChannelState.setSync_sync (x : ChannelState) (v : Synchroniser) :
    (x.setSync v).sync = v := rfl

@[simp] theorem ChannelState.setSync_delay (x : ChannelState) (v : Synchroniser) :
    (x.setSync v).delay = x.delay := rfl

@[simp] theorem ChannelState.setSync_calibration (x : ChannelState) (v : Synchroniser) :
    (x.setSync v).calibration = x.calibration := rfl

@[simp] theorem ChannelState.setSync_latches (x : ChannelState) (v : Synchroniser) :
    (x.setSync v).latches = x.latches := rfl

@[simp] theorem ChannelState.setDelay_clock (x : ChannelState) (v : DelayLine) :
    (x.setDelay v).clock = x.clock := rfl

@[simp] theorem ChannelState.setDelay_report (x : ChannelState) (v : DelayLine) :
    (x.setDelay v).report = x.report := rfl

@[simp] theorem ChannelState.setDelay_scheduler (x : ChannelState) (v : DelayLine) :
    (x.setDelay v).scheduler = x.scheduler := rfl

@[simp] theorem ChannelState.setDelay_window (x : ChannelState) (v : DelayLine) :
    (x.setDelay v).window = x.window := rfl

@[simp] theorem ChannelState.setDelay_presets (x : ChannelState) (v : DelayLine) :
    (x.setDelay v).presets = x.presets := rfl

@[simp] theorem ChannelState.setDelay_sync (x : ChannelState) (v : DelayLine) :
    (x.setDelay v).sync = x.sync := rfl

@[simp] theorem ChannelState.setDelay_delay (x : ChannelState) (v : DelayLine) :
    (x.setDelay v).delay = v := rfl

@[simp] theorem ChannelState.setDelay_calibration (x : ChannelState) (v : DelayLine) :
    (x.setDelay v).calibration = x.calibration := rfl

@[simp] theorem ChannelState.setDelay_latches (x : ChannelState) (v : DelayLine) :
    (x.setDelay v).latches = x.latches := rfl

@[simp] theorem ChannelState.setCalibration_clock (x : ChannelState) (v : Calibration) :
    (x.setCalibration v).clock = x.clock := rfl

@[simp] theorem ChannelState.setCalibration_report (x : ChannelState) (v : Calibration) :
    (x.setCalibration v).report = x.report := rfl

@[simp] theorem ChannelState.setCalibration_scheduler (x : ChannelState) (v : Calibration) :
    (x.setCalibration v).scheduler = x.scheduler := rfl

@[simp] theorem ChannelState.setCalibration_window (x : ChannelState) (v : Calibration) :
    (x.setCalibration v).window = x.window := rfl

@[simp] theorem ChannelState.setCalibration_presets (x : ChannelState) (v : Calibration) :
    (x.setCalibration v).presets = x.presets := rfl

@[simp] theorem ChannelState.setCalibration_sync (x : ChannelState) (v : Calibration) :
    (x.setCalibration v).sync = x.sync := rfl

@[simp] theorem ChannelState.setCalibration_delay (x : ChannelState) (v : Calibration) :
    (x.setCalibration v).delay = x.delay := rfl

@[simp] theorem ChannelState.setCalibration_calibration (x : ChannelState) (v : Calibration) :
    (x.setCalibration v).calibration = v := rfl

@[simp] theorem ChannelState.setCalibration_latches (x : ChannelState) (v : Calibration) :
    (x.setCalibration v).latches = x.latches := rfl

@[simp] theorem ChannelState.setLatches_clock (x : ChannelState) (v : Latches) :
    (x.setLatches v).clock = x.clock := rfl

@[simp] theorem ChannelState.setLatches_report (x : ChannelState) (v : Latches) :
    (x.setLatches v).report = x.report := rfl

@[simp] theorem ChannelState.setLatches_scheduler (x : ChannelState) (v : Latches) :
    (x.setLatches v).scheduler = x.scheduler := rfl

@[simp] theorem ChannelState.setLatches_window (x : ChannelState) (v : Latches) :
    (x.setLatches v).window = x.window := rfl

@[simp] theorem ChannelState.setLatches_presets (x : ChannelState) (v : Latches) :
    (x.setLatches v).presets = x.presets := rfl

@[simp] theorem ChannelState.setLatches_sync (x : ChannelState) (v : Latches) :
    (x.setLatches v).sync = x.sync := rfl

@[simp] theorem ChannelState.setLatches_delay (x : ChannelState) (v : Latches) :
    (x.setLatches v).delay = x.delay := rfl

@[simp] theorem ChannelState.setLatches_calibration (x : ChannelState) (v : Latches) :
    (x.setLatches v).calibration = x.calibration := rfl

@[simp] theorem ChannelState.setLatches_latches (x : ChannelState) (v : Latches) :
    (x.setLatches v).latches = v := rfl

/-! ## The parts of State -/

@[simp] theorem State.setChan_timing (s : State) (c : Channel) (x : ChannelState) :
    (s.setChan c x).timing = s.timing := rfl

@[simp] theorem State.setChan_cues (s : State) (c : Channel) (x : ChannelState) :
    (s.setChan c x).cues = s.cues := rfl

@[simp] theorem State.setChan_channels (s : State) (c : Channel) (x : ChannelState) :
    (s.setChan c x).channels = s.channels.put c x := rfl

@[simp] theorem State.setChan_free (s : State) (c : Channel) (x : ChannelState) :
    (s.setChan c x).free = s.free := rfl

@[simp] theorem State.setChan_gpis (s : State) (c : Channel) (x : ChannelState) :
    (s.setChan c x).gpis = s.gpis := rfl

@[simp] theorem State.setChan_tallies (s : State) (c : Channel) (x : ChannelState) :
    (s.setChan c x).tallies = s.tallies := rfl

@[simp] theorem State.setChan_ports (s : State) (c : Channel) (x : ChannelState) :
    (s.setChan c x).ports = s.ports := rfl

@[simp] theorem State.setChan_pending (s : State) (c : Channel) (x : ChannelState) :
    (s.setChan c x).pending = s.pending := rfl

@[simp] theorem State.setPort_timing (s : State) (p : PortId) (x : Port) :
    (s.setPort p x).timing = s.timing := rfl

@[simp] theorem State.setPort_cues (s : State) (p : PortId) (x : Port) :
    (s.setPort p x).cues = s.cues := rfl

@[simp] theorem State.setPort_channels (s : State) (p : PortId) (x : Port) :
    (s.setPort p x).channels = s.channels := rfl

@[simp] theorem State.setPort_free (s : State) (p : PortId) (x : Port) :
    (s.setPort p x).free = s.free := rfl

@[simp] theorem State.setPort_gpis (s : State) (p : PortId) (x : Port) :
    (s.setPort p x).gpis = s.gpis := rfl

@[simp] theorem State.setPort_tallies (s : State) (p : PortId) (x : Port) :
    (s.setPort p x).tallies = s.tallies := rfl

@[simp] theorem State.setPort_ports (s : State) (p : PortId) (x : Port) :
    (s.setPort p x).ports = s.ports.put p x := rfl

@[simp] theorem State.setPort_pending (s : State) (p : PortId) (x : Port) :
    (s.setPort p x).pending = s.pending := rfl

@[simp] theorem State.setTiming_timing (s : State) (t : Timing) :
    (s.setTiming t).timing = t := rfl

@[simp] theorem State.setTiming_cues (s : State) (t : Timing) :
    (s.setTiming t).cues = s.cues := rfl

@[simp] theorem State.setTiming_channels (s : State) (t : Timing) :
    (s.setTiming t).channels = s.channels := rfl

@[simp] theorem State.setTiming_free (s : State) (t : Timing) :
    (s.setTiming t).free = s.free := rfl

@[simp] theorem State.setTiming_gpis (s : State) (t : Timing) :
    (s.setTiming t).gpis = s.gpis := rfl

@[simp] theorem State.setTiming_tallies (s : State) (t : Timing) :
    (s.setTiming t).tallies = s.tallies := rfl

@[simp] theorem State.setTiming_ports (s : State) (t : Timing) :
    (s.setTiming t).ports = s.ports := rfl

@[simp] theorem State.setTiming_pending (s : State) (t : Timing) :
    (s.setTiming t).pending = s.pending := rfl

@[simp] theorem State.setFree_timing (s : State) (n : Nat) :
    (s.setFree n).timing = s.timing := rfl

@[simp] theorem State.setFree_cues (s : State) (n : Nat) :
    (s.setFree n).cues = s.cues := rfl

@[simp] theorem State.setFree_channels (s : State) (n : Nat) :
    (s.setFree n).channels = s.channels := rfl

@[simp] theorem State.setFree_free (s : State) (n : Nat) :
    (s.setFree n).free = n := rfl

@[simp] theorem State.setFree_gpis (s : State) (n : Nat) :
    (s.setFree n).gpis = s.gpis := rfl

@[simp] theorem State.setFree_tallies (s : State) (n : Nat) :
    (s.setFree n).tallies = s.tallies := rfl

@[simp] theorem State.setFree_ports (s : State) (n : Nat) :
    (s.setFree n).ports = s.ports := rfl

@[simp] theorem State.setFree_pending (s : State) (n : Nat) :
    (s.setFree n).pending = s.pending := rfl

@[simp] theorem State.setSlot_timing (s : State) (i : SlotIx) (x : CueSlot) :
    (s.setSlot i x).timing = s.timing := rfl

@[simp] theorem State.setSlot_cues (s : State) (i : SlotIx) (x : CueSlot) :
    (s.setSlot i x).cues = s.cues.put i x := rfl

@[simp] theorem State.setSlot_channels (s : State) (i : SlotIx) (x : CueSlot) :
    (s.setSlot i x).channels = s.channels := rfl

@[simp] theorem State.setSlot_free (s : State) (i : SlotIx) (x : CueSlot) :
    (s.setSlot i x).free = s.free := rfl

@[simp] theorem State.setSlot_gpis (s : State) (i : SlotIx) (x : CueSlot) :
    (s.setSlot i x).gpis = s.gpis := rfl

@[simp] theorem State.setSlot_tallies (s : State) (i : SlotIx) (x : CueSlot) :
    (s.setSlot i x).tallies = s.tallies := rfl

@[simp] theorem State.setSlot_ports (s : State) (i : SlotIx) (x : CueSlot) :
    (s.setSlot i x).ports = s.ports := rfl

@[simp] theorem State.setSlot_pending (s : State) (i : SlotIx) (x : CueSlot) :
    (s.setSlot i x).pending = s.pending := rfl

@[simp] theorem State.setGpi_timing (s : State) (g : GpiIx) (x : Gpi) :
    (s.setGpi g x).timing = s.timing := rfl

@[simp] theorem State.setGpi_cues (s : State) (g : GpiIx) (x : Gpi) :
    (s.setGpi g x).cues = s.cues := rfl

@[simp] theorem State.setGpi_channels (s : State) (g : GpiIx) (x : Gpi) :
    (s.setGpi g x).channels = s.channels := rfl

@[simp] theorem State.setGpi_free (s : State) (g : GpiIx) (x : Gpi) :
    (s.setGpi g x).free = s.free := rfl

@[simp] theorem State.setGpi_gpis (s : State) (g : GpiIx) (x : Gpi) :
    (s.setGpi g x).gpis = s.gpis.put g x := rfl

@[simp] theorem State.setGpi_tallies (s : State) (g : GpiIx) (x : Gpi) :
    (s.setGpi g x).tallies = s.tallies := rfl

@[simp] theorem State.setGpi_ports (s : State) (g : GpiIx) (x : Gpi) :
    (s.setGpi g x).ports = s.ports := rfl

@[simp] theorem State.setGpi_pending (s : State) (g : GpiIx) (x : Gpi) :
    (s.setGpi g x).pending = s.pending := rfl

@[simp] theorem State.setTally_timing (s : State) (t : TallyIx) (x : Tally) :
    (s.setTally t x).timing = s.timing := rfl

@[simp] theorem State.setTally_cues (s : State) (t : TallyIx) (x : Tally) :
    (s.setTally t x).cues = s.cues := rfl

@[simp] theorem State.setTally_channels (s : State) (t : TallyIx) (x : Tally) :
    (s.setTally t x).channels = s.channels := rfl

@[simp] theorem State.setTally_free (s : State) (t : TallyIx) (x : Tally) :
    (s.setTally t x).free = s.free := rfl

@[simp] theorem State.setTally_gpis (s : State) (t : TallyIx) (x : Tally) :
    (s.setTally t x).gpis = s.gpis := rfl

@[simp] theorem State.setTally_tallies (s : State) (t : TallyIx) (x : Tally) :
    (s.setTally t x).tallies = s.tallies.put t x := rfl

@[simp] theorem State.setTally_ports (s : State) (t : TallyIx) (x : Tally) :
    (s.setTally t x).ports = s.ports := rfl

@[simp] theorem State.setTally_pending (s : State) (t : TallyIx) (x : Tally) :
    (s.setTally t x).pending = s.pending := rfl

@[simp] theorem State.setPending_timing (s : State) (q : List Instr) :
    (s.setPending q).timing = s.timing := rfl

@[simp] theorem State.setPending_cues (s : State) (q : List Instr) :
    (s.setPending q).cues = s.cues := rfl

@[simp] theorem State.setPending_channels (s : State) (q : List Instr) :
    (s.setPending q).channels = s.channels := rfl

@[simp] theorem State.setPending_free (s : State) (q : List Instr) :
    (s.setPending q).free = s.free := rfl

@[simp] theorem State.setPending_gpis (s : State) (q : List Instr) :
    (s.setPending q).gpis = s.gpis := rfl

@[simp] theorem State.setPending_tallies (s : State) (q : List Instr) :
    (s.setPending q).tallies = s.tallies := rfl

@[simp] theorem State.setPending_ports (s : State) (q : List Instr) :
    (s.setPending q).ports = s.ports := rfl

@[simp] theorem State.setPending_pending (s : State) (q : List Instr) :
    (s.setPending q).pending = q := rfl

@[simp] theorem State.modChan_timing (s : State) (c : Channel) (f : ChannelState → ChannelState) :
    (s.modChan c f).timing = s.timing := rfl

@[simp] theorem State.modChan_cues (s : State) (c : Channel) (f : ChannelState → ChannelState) :
    (s.modChan c f).cues = s.cues := rfl

@[simp] theorem State.modChan_channels (s : State) (c : Channel) (f : ChannelState → ChannelState) :
    (s.modChan c f).channels = s.channels.put c (f (s.chan c)) := rfl

@[simp] theorem State.modChan_free (s : State) (c : Channel) (f : ChannelState → ChannelState) :
    (s.modChan c f).free = s.free := rfl

@[simp] theorem State.modChan_gpis (s : State) (c : Channel) (f : ChannelState → ChannelState) :
    (s.modChan c f).gpis = s.gpis := rfl

@[simp] theorem State.modChan_tallies (s : State) (c : Channel) (f : ChannelState → ChannelState) :
    (s.modChan c f).tallies = s.tallies := rfl

@[simp] theorem State.modChan_ports (s : State) (c : Channel) (f : ChannelState → ChannelState) :
    (s.modChan c f).ports = s.ports := rfl

@[simp] theorem State.modChan_pending (s : State) (c : Channel) (f : ChannelState → ChannelState) :
    (s.modChan c f).pending = s.pending := rfl

@[simp] theorem State.modPort_timing (s : State) (p : PortId) (f : Port → Port) :
    (s.modPort p f).timing = s.timing := rfl

@[simp] theorem State.modPort_cues (s : State) (p : PortId) (f : Port → Port) :
    (s.modPort p f).cues = s.cues := rfl

@[simp] theorem State.modPort_channels (s : State) (p : PortId) (f : Port → Port) :
    (s.modPort p f).channels = s.channels := rfl

@[simp] theorem State.modPort_free (s : State) (p : PortId) (f : Port → Port) :
    (s.modPort p f).free = s.free := rfl

@[simp] theorem State.modPort_gpis (s : State) (p : PortId) (f : Port → Port) :
    (s.modPort p f).gpis = s.gpis := rfl

@[simp] theorem State.modPort_tallies (s : State) (p : PortId) (f : Port → Port) :
    (s.modPort p f).tallies = s.tallies := rfl

@[simp] theorem State.modPort_ports (s : State) (p : PortId) (f : Port → Port) :
    (s.modPort p f).ports = s.ports.put p (f (s.port p)) := rfl

@[simp] theorem State.modPort_pending (s : State) (p : PortId) (f : Port → Port) :
    (s.modPort p f).pending = s.pending := rfl

@[simp] theorem State.setChan_port (s : State) (c : Channel) (x : ChannelState) (q' : PortId) :
    (s.setChan c x).port q' = s.port q' := rfl

@[simp] theorem State.setChan_gpi (s : State) (c : Channel) (x : ChannelState) (g' : GpiIx) :
    (s.setChan c x).gpi g' = s.gpi g' := rfl

@[simp] theorem State.setChan_tally (s : State) (c : Channel) (x : ChannelState) (t' : TallyIx) :
    (s.setChan c x).tally t' = s.tally t' := rfl

@[simp] theorem State.setChan_slot (s : State) (c : Channel) (x : ChannelState) (i' : SlotIx) :
    (s.setChan c x).slot i' = s.slot i' := rfl

@[simp] theorem State.setPort_chan (s : State) (p : PortId) (x : Port) (d' : Channel) :
    (s.setPort p x).chan d' = s.chan d' := rfl

@[simp] theorem State.setPort_gpi (s : State) (p : PortId) (x : Port) (g' : GpiIx) :
    (s.setPort p x).gpi g' = s.gpi g' := rfl

@[simp] theorem State.setPort_tally (s : State) (p : PortId) (x : Port) (t' : TallyIx) :
    (s.setPort p x).tally t' = s.tally t' := rfl

@[simp] theorem State.setPort_slot (s : State) (p : PortId) (x : Port) (i' : SlotIx) :
    (s.setPort p x).slot i' = s.slot i' := rfl

@[simp] theorem State.setTiming_chan (s : State) (t : Timing) (d' : Channel) :
    (s.setTiming t).chan d' = s.chan d' := rfl

@[simp] theorem State.setTiming_port (s : State) (t : Timing) (q' : PortId) :
    (s.setTiming t).port q' = s.port q' := rfl

@[simp] theorem State.setTiming_gpi (s : State) (t : Timing) (g' : GpiIx) :
    (s.setTiming t).gpi g' = s.gpi g' := rfl

@[simp] theorem State.setTiming_tally (s : State) (t : Timing) (t' : TallyIx) :
    (s.setTiming t).tally t' = s.tally t' := rfl

@[simp] theorem State.setTiming_slot (s : State) (t : Timing) (i' : SlotIx) :
    (s.setTiming t).slot i' = s.slot i' := rfl

@[simp] theorem State.setFree_chan (s : State) (n : Nat) (d' : Channel) :
    (s.setFree n).chan d' = s.chan d' := rfl

@[simp] theorem State.setFree_port (s : State) (n : Nat) (q' : PortId) :
    (s.setFree n).port q' = s.port q' := rfl

@[simp] theorem State.setFree_gpi (s : State) (n : Nat) (g' : GpiIx) :
    (s.setFree n).gpi g' = s.gpi g' := rfl

@[simp] theorem State.setFree_tally (s : State) (n : Nat) (t' : TallyIx) :
    (s.setFree n).tally t' = s.tally t' := rfl

@[simp] theorem State.setFree_slot (s : State) (n : Nat) (i' : SlotIx) :
    (s.setFree n).slot i' = s.slot i' := rfl

@[simp] theorem State.setSlot_chan (s : State) (i : SlotIx) (x : CueSlot) (d' : Channel) :
    (s.setSlot i x).chan d' = s.chan d' := rfl

@[simp] theorem State.setSlot_port (s : State) (i : SlotIx) (x : CueSlot) (q' : PortId) :
    (s.setSlot i x).port q' = s.port q' := rfl

@[simp] theorem State.setSlot_gpi (s : State) (i : SlotIx) (x : CueSlot) (g' : GpiIx) :
    (s.setSlot i x).gpi g' = s.gpi g' := rfl

@[simp] theorem State.setSlot_tally (s : State) (i : SlotIx) (x : CueSlot) (t' : TallyIx) :
    (s.setSlot i x).tally t' = s.tally t' := rfl

@[simp] theorem State.setGpi_chan (s : State) (g : GpiIx) (x : Gpi) (d' : Channel) :
    (s.setGpi g x).chan d' = s.chan d' := rfl

@[simp] theorem State.setGpi_port (s : State) (g : GpiIx) (x : Gpi) (q' : PortId) :
    (s.setGpi g x).port q' = s.port q' := rfl

@[simp] theorem State.setGpi_tally (s : State) (g : GpiIx) (x : Gpi) (t' : TallyIx) :
    (s.setGpi g x).tally t' = s.tally t' := rfl

@[simp] theorem State.setGpi_slot (s : State) (g : GpiIx) (x : Gpi) (i' : SlotIx) :
    (s.setGpi g x).slot i' = s.slot i' := rfl

@[simp] theorem State.setTally_chan (s : State) (t : TallyIx) (x : Tally) (d' : Channel) :
    (s.setTally t x).chan d' = s.chan d' := rfl

@[simp] theorem State.setTally_port (s : State) (t : TallyIx) (x : Tally) (q' : PortId) :
    (s.setTally t x).port q' = s.port q' := rfl

@[simp] theorem State.setTally_gpi (s : State) (t : TallyIx) (x : Tally) (g' : GpiIx) :
    (s.setTally t x).gpi g' = s.gpi g' := rfl

@[simp] theorem State.setTally_slot (s : State) (t : TallyIx) (x : Tally) (i' : SlotIx) :
    (s.setTally t x).slot i' = s.slot i' := rfl

@[simp] theorem State.setPending_chan (s : State) (q : List Instr) (d' : Channel) :
    (s.setPending q).chan d' = s.chan d' := rfl

@[simp] theorem State.setPending_port (s : State) (q : List Instr) (q' : PortId) :
    (s.setPending q).port q' = s.port q' := rfl

@[simp] theorem State.setPending_gpi (s : State) (q : List Instr) (g' : GpiIx) :
    (s.setPending q).gpi g' = s.gpi g' := rfl

@[simp] theorem State.setPending_tally (s : State) (q : List Instr) (t' : TallyIx) :
    (s.setPending q).tally t' = s.tally t' := rfl

@[simp] theorem State.setPending_slot (s : State) (q : List Instr) (i' : SlotIx) :
    (s.setPending q).slot i' = s.slot i' := rfl

@[simp] theorem State.modChan_port (s : State) (c : Channel) (f : ChannelState → ChannelState) (q' : PortId) :
    (s.modChan c f).port q' = s.port q' := rfl

@[simp] theorem State.modChan_gpi (s : State) (c : Channel) (f : ChannelState → ChannelState) (g' : GpiIx) :
    (s.modChan c f).gpi g' = s.gpi g' := rfl

@[simp] theorem State.modChan_tally (s : State) (c : Channel) (f : ChannelState → ChannelState) (t' : TallyIx) :
    (s.modChan c f).tally t' = s.tally t' := rfl

@[simp] theorem State.modChan_slot (s : State) (c : Channel) (f : ChannelState → ChannelState) (i' : SlotIx) :
    (s.modChan c f).slot i' = s.slot i' := rfl

@[simp] theorem State.modPort_chan (s : State) (p : PortId) (f : Port → Port) (d' : Channel) :
    (s.modPort p f).chan d' = s.chan d' := rfl

@[simp] theorem State.modPort_gpi (s : State) (p : PortId) (f : Port → Port) (g' : GpiIx) :
    (s.modPort p f).gpi g' = s.gpi g' := rfl

@[simp] theorem State.modPort_tally (s : State) (p : PortId) (f : Port → Port) (t' : TallyIx) :
    (s.modPort p f).tally t' = s.tally t' := rfl

@[simp] theorem State.modPort_slot (s : State) (p : PortId) (f : Port → Port) (i' : SlotIx) :
    (s.modPort p f).slot i' = s.slot i' := rfl

@[simp] theorem State.setChan_chan_same (s : State) (c : Channel) (x : ChannelState) :
    (s.setChan c x).chan c = x := by simp [State.chan]

theorem State.setChan_chan_ne (s : State) {c d : Channel} (x : ChannelState) (h : d ≠ c) :
    (s.setChan c x).chan d = s.chan d := by simp [State.chan, Bank.pick_put_ne _ _ h]

@[simp] theorem State.modChan_chan_same (s : State) (c : Channel)
    (f : ChannelState → ChannelState) : (s.modChan c f).chan c = f (s.chan c) := by
  simp [State.chan]

theorem State.modChan_chan_ne (s : State) {c d : Channel} (f : ChannelState → ChannelState)
    (h : d ≠ c) : (s.modChan c f).chan d = s.chan d := by
  simp [State.chan, Bank.pick_put_ne _ _ h]

theorem State.modChan_chan (s : State) (c d : Channel) (f : ChannelState → ChannelState) :
    (s.modChan c f).chan d = if d = c then f (s.chan c) else s.chan d := by
  by_cases h : d = c
  · subst h; simp
  · simp [h, State.modChan_chan_ne s f h]

@[simp] theorem State.setPort_port_same (s : State) (p : PortId) (x : Port) :
    (s.setPort p x).port p = x := by simp [State.port]

@[simp] theorem State.modPort_port_same (s : State) (p : PortId) (f : Port → Port) :
    (s.modPort p f).port p = f (s.port p) := by simp [State.port]

theorem State.modPort_port (s : State) (p q : PortId) (f : Port → Port) :
    (s.modPort p f).port q = if q = p then f (s.port p) else s.port q := by
  simp only [State.port, State.modPort_ports, Trio.pick_put]

@[simp] theorem State.setGpi_gpi_same (s : State) (g : GpiIx) (x : Gpi) :
    (s.setGpi g x).gpi g = x := by simp [State.gpi]

theorem State.setGpi_gpi (s : State) (g g' : GpiIx) (x : Gpi) :
    (s.setGpi g x).gpi g' = if g' = g then x else s.gpi g' := by
  simp only [State.gpi, State.setGpi_gpis, Bank.pick_put]

@[simp] theorem State.setTally_tally_same (s : State) (t : TallyIx) (x : Tally) :
    (s.setTally t x).tally t = x := by simp [State.tally]

@[simp] theorem State.setSlot_slot_same (s : State) (i : SlotIx) (x : CueSlot) :
    (s.setSlot i x).slot i = x := by simp [State.slot]

theorem State.setSlot_slot (s : State) (i j : SlotIx) (x : CueSlot) :
    (s.setSlot i x).slot j = if j = i then x else s.slot j := by
  simp only [State.slot, State.setSlot_cues, Bank.pick_put]

/-! ## One thing done to each channel or port -/

theorem State.eachChannel_eq (s : State) (f : Channel → State → State) :
    s.eachChannel f = f 3 (f 2 (f 1 (f 0 s))) := rfl

theorem State.eachPort_eq (s : State) (f : PortId → State → State) :
    s.eachPort f = f .c (f .b (f .a s)) := rfl

end Machine

end Sys2Proof
end

