-- ==== Sys2Proof/Laws/Frames.lean ====
section
/-! SUPPORT. Frames of the shared operations: the parts of State that each leaves as they were. -/

namespace Sys2Proof.Machine

open Sys2Proof

/-- A field that every step of a fold leaves alone, the fold leaves alone. -/
theorem foldl_keeps {α β γ : Type} (f : β → α → β) (g : β → γ) (h : ∀ b a, g (f b a) = g b)
    (l : List α) (b : β) : g (l.foldl f b) = g b := by
  induction l generalizing b with
  | nil => rfl
  | cons a rest ih => rw [List.foldl_cons, ih, h]

@[simp] theorem State.post_timing (s : State) (p : PortId) (l : Latch) :
    (s.post p l).timing = s.timing := by
  simp only [State.post]
  all_goals simp

@[simp] theorem State.post_cues (s : State) (p : PortId) (l : Latch) :
    (s.post p l).cues = s.cues := by
  simp only [State.post]
  all_goals simp

@[simp] theorem State.post_channels (s : State) (p : PortId) (l : Latch) :
    (s.post p l).channels = s.channels := by
  simp only [State.post]
  all_goals simp

@[simp] theorem State.post_free (s : State) (p : PortId) (l : Latch) :
    (s.post p l).free = s.free := by
  simp only [State.post]
  all_goals simp

@[simp] theorem State.post_gpis (s : State) (p : PortId) (l : Latch) :
    (s.post p l).gpis = s.gpis := by
  simp only [State.post]
  all_goals simp

@[simp] theorem State.post_tallies (s : State) (p : PortId) (l : Latch) :
    (s.post p l).tallies = s.tallies := by
  simp only [State.post]
  all_goals simp

@[simp] theorem State.post_pending (s : State) (p : PortId) (l : Latch) :
    (s.post p l).pending = s.pending := by
  simp only [State.post]
  all_goals simp

@[simp] theorem State.postAll_timing (s : State) (l : Latch) :
    (s.postAll l).timing = s.timing := by
  simp only [State.postAll, State.eachPort_eq]
  all_goals simp

@[simp] theorem State.postAll_cues (s : State) (l : Latch) :
    (s.postAll l).cues = s.cues := by
  simp only [State.postAll, State.eachPort_eq]
  all_goals simp

@[simp] theorem State.postAll_channels (s : State) (l : Latch) :
    (s.postAll l).channels = s.channels := by
  simp only [State.postAll, State.eachPort_eq]
  all_goals simp

@[simp] theorem State.postAll_free (s : State) (l : Latch) :
    (s.postAll l).free = s.free := by
  simp only [State.postAll, State.eachPort_eq]
  all_goals simp

@[simp] theorem State.postAll_gpis (s : State) (l : Latch) :
    (s.postAll l).gpis = s.gpis := by
  simp only [State.postAll, State.eachPort_eq]
  all_goals simp

@[simp] theorem State.postAll_tallies (s : State) (l : Latch) :
    (s.postAll l).tallies = s.tallies := by
  simp only [State.postAll, State.eachPort_eq]
  all_goals simp

@[simp] theorem State.postAll_pending (s : State) (l : Latch) :
    (s.postAll l).pending = s.pending := by
  simp only [State.postAll, State.eachPort_eq]
  all_goals simp

@[simp] theorem State.clearLatches_timing (s : State) (c : Channel) :
    (s.clearLatches c).timing = s.timing := by
  simp only [State.clearLatches, State.eachPort_eq]
  all_goals simp

@[simp] theorem State.clearLatches_cues (s : State) (c : Channel) :
    (s.clearLatches c).cues = s.cues := by
  simp only [State.clearLatches, State.eachPort_eq]
  all_goals simp

@[simp] theorem State.clearLatches_channels (s : State) (c : Channel) :
    (s.clearLatches c).channels = s.channels := by
  simp only [State.clearLatches, State.eachPort_eq]
  all_goals simp

@[simp] theorem State.clearLatches_free (s : State) (c : Channel) :
    (s.clearLatches c).free = s.free := by
  simp only [State.clearLatches, State.eachPort_eq]
  all_goals simp

@[simp] theorem State.clearLatches_gpis (s : State) (c : Channel) :
    (s.clearLatches c).gpis = s.gpis := by
  simp only [State.clearLatches, State.eachPort_eq]
  all_goals simp

@[simp] theorem State.clearLatches_tallies (s : State) (c : Channel) :
    (s.clearLatches c).tallies = s.tallies := by
  simp only [State.clearLatches, State.eachPort_eq]
  all_goals simp

@[simp] theorem State.clearLatches_pending (s : State) (c : Channel) :
    (s.clearLatches c).pending = s.pending := by
  simp only [State.clearLatches, State.eachPort_eq]
  all_goals simp

@[simp] theorem State.queueReply_timing (s : State) (p : PortId) (r : Reply) :
    (s.queueReply p r).timing = s.timing := by
  simp only [State.queueReply]
  all_goals repeat' split
  all_goals simp

@[simp] theorem State.queueReply_cues (s : State) (p : PortId) (r : Reply) :
    (s.queueReply p r).cues = s.cues := by
  simp only [State.queueReply]
  all_goals repeat' split
  all_goals simp

@[simp] theorem State.queueReply_channels (s : State) (p : PortId) (r : Reply) :
    (s.queueReply p r).channels = s.channels := by
  simp only [State.queueReply]
  all_goals repeat' split
  all_goals simp

@[simp] theorem State.queueReply_free (s : State) (p : PortId) (r : Reply) :
    (s.queueReply p r).free = s.free := by
  simp only [State.queueReply]
  all_goals repeat' split
  all_goals simp

@[simp] theorem State.queueReply_gpis (s : State) (p : PortId) (r : Reply) :
    (s.queueReply p r).gpis = s.gpis := by
  simp only [State.queueReply]
  all_goals repeat' split
  all_goals simp

@[simp] theorem State.queueReply_tallies (s : State) (p : PortId) (r : Reply) :
    (s.queueReply p r).tallies = s.tallies := by
  simp only [State.queueReply]
  all_goals repeat' split
  all_goals simp

@[simp] theorem State.queueReply_pending (s : State) (p : PortId) (r : Reply) :
    (s.queueReply p r).pending = s.pending := by
  simp only [State.queueReply]
  all_goals repeat' split
  all_goals simp

@[simp] theorem State.setReceiver_timing (s : State) (p : PortId) (r : Receiver) :
    (s.setReceiver p r).timing = s.timing := by
  simp only [State.setReceiver]
  all_goals simp

@[simp] theorem State.setReceiver_cues (s : State) (p : PortId) (r : Receiver) :
    (s.setReceiver p r).cues = s.cues := by
  simp only [State.setReceiver]
  all_goals simp

@[simp] theorem State.setReceiver_channels (s : State) (p : PortId) (r : Receiver) :
    (s.setReceiver p r).channels = s.channels := by
  simp only [State.setReceiver]
  all_goals simp

@[simp] theorem State.setReceiver_free (s : State) (p : PortId) (r : Receiver) :
    (s.setReceiver p r).free = s.free := by
  simp only [State.setReceiver]
  all_goals simp

@[simp] theorem State.setReceiver_gpis (s : State) (p : PortId) (r : Receiver) :
    (s.setReceiver p r).gpis = s.gpis := by
  simp only [State.setReceiver]
  all_goals simp

@[simp] theorem State.setReceiver_tallies (s : State) (p : PortId) (r : Receiver) :
    (s.setReceiver p r).tallies = s.tallies := by
  simp only [State.setReceiver]
  all_goals simp

@[simp] theorem State.setReceiver_pending (s : State) (p : PortId) (r : Receiver) :
    (s.setReceiver p r).pending = s.pending := by
  simp only [State.setReceiver]
  all_goals simp

@[simp] theorem State.abandon_timing (s : State) (p : PortId) (r : Receiver) :
    (s.abandon p r).timing = s.timing := by
  simp only [State.abandon]
  all_goals simp

@[simp] theorem State.abandon_cues (s : State) (p : PortId) (r : Receiver) :
    (s.abandon p r).cues = s.cues := by
  simp only [State.abandon]
  all_goals simp

@[simp] theorem State.abandon_channels (s : State) (p : PortId) (r : Receiver) :
    (s.abandon p r).channels = s.channels := by
  simp only [State.abandon]
  all_goals simp

@[simp] theorem State.abandon_free (s : State) (p : PortId) (r : Receiver) :
    (s.abandon p r).free = s.free := by
  simp only [State.abandon]
  all_goals simp

@[simp] theorem State.abandon_gpis (s : State) (p : PortId) (r : Receiver) :
    (s.abandon p r).gpis = s.gpis := by
  simp only [State.abandon]
  all_goals simp

@[simp] theorem State.abandon_tallies (s : State) (p : PortId) (r : Receiver) :
    (s.abandon p r).tallies = s.tallies := by
  simp only [State.abandon]
  all_goals simp

@[simp] theorem State.abandon_pending (s : State) (p : PortId) (r : Receiver) :
    (s.abandon p r).pending = s.pending := by
  simp only [State.abandon]
  all_goals simp

@[simp] theorem State.addOutcome_timing (s : State) (c : Channel) (h : Handle) (a : Action) (o : PortId) (r : Result) :
    (s.addOutcome c h a o r).timing = s.timing := by
  simp only [State.addOutcome]
  all_goals simp

@[simp] theorem State.addOutcome_cues (s : State) (c : Channel) (h : Handle) (a : Action) (o : PortId) (r : Result) :
    (s.addOutcome c h a o r).cues = s.cues := by
  simp only [State.addOutcome]
  all_goals simp

@[simp] theorem State.addOutcome_free (s : State) (c : Channel) (h : Handle) (a : Action) (o : PortId) (r : Result) :
    (s.addOutcome c h a o r).free = s.free := by
  simp only [State.addOutcome]
  all_goals simp

@[simp] theorem State.addOutcome_gpis (s : State) (c : Channel) (h : Handle) (a : Action) (o : PortId) (r : Result) :
    (s.addOutcome c h a o r).gpis = s.gpis := by
  simp only [State.addOutcome]
  all_goals simp

@[simp] theorem State.addOutcome_tallies (s : State) (c : Channel) (h : Handle) (a : Action) (o : PortId) (r : Result) :
    (s.addOutcome c h a o r).tallies = s.tallies := by
  simp only [State.addOutcome]
  all_goals simp

@[simp] theorem State.addOutcome_pending (s : State) (c : Channel) (h : Handle) (a : Action) (o : PortId) (r : Result) :
    (s.addOutcome c h a o r).pending = s.pending := by
  simp only [State.addOutcome]
  all_goals simp

@[simp] theorem State.setMember_timing (s : State) (c : Channel) (m : Member) (b : Bool) :
    (s.setMember c m b).timing = s.timing := by
  simp only [State.setMember]
  all_goals repeat' split
  all_goals simp

@[simp] theorem State.setMember_cues (s : State) (c : Channel) (m : Member) (b : Bool) :
    (s.setMember c m b).cues = s.cues := by
  simp only [State.setMember]
  all_goals repeat' split
  all_goals simp

@[simp] theorem State.setMember_free (s : State) (c : Channel) (m : Member) (b : Bool) :
    (s.setMember c m b).free = s.free := by
  simp only [State.setMember]
  all_goals repeat' split
  all_goals simp

@[simp] theorem State.setMember_gpis (s : State) (c : Channel) (m : Member) (b : Bool) :
    (s.setMember c m b).gpis = s.gpis := by
  simp only [State.setMember]
  all_goals repeat' split
  all_goals simp

@[simp] theorem State.setMember_tallies (s : State) (c : Channel) (m : Member) (b : Bool) :
    (s.setMember c m b).tallies = s.tallies := by
  simp only [State.setMember]
  all_goals repeat' split
  all_goals simp

@[simp] theorem State.setMember_pending (s : State) (c : Channel) (m : Member) (b : Bool) :
    (s.setMember c m b).pending = s.pending := by
  simp only [State.setMember]
  all_goals repeat' split
  all_goals simp

@[simp] theorem State.request_timing (s : State) (c : Channel) (b : Bool) (d : Nat) :
    (s.request c b d).timing = s.timing := by
  simp only [State.request]
  all_goals simp

@[simp] theorem State.request_cues (s : State) (c : Channel) (b : Bool) (d : Nat) :
    (s.request c b d).cues = s.cues := by
  simp only [State.request]
  all_goals simp

@[simp] theorem State.request_free (s : State) (c : Channel) (b : Bool) (d : Nat) :
    (s.request c b d).free = s.free := by
  simp only [State.request]
  all_goals simp

@[simp] theorem State.request_gpis (s : State) (c : Channel) (b : Bool) (d : Nat) :
    (s.request c b d).gpis = s.gpis := by
  simp only [State.request]
  all_goals simp

@[simp] theorem State.request_tallies (s : State) (c : Channel) (b : Bool) (d : Nat) :
    (s.request c b d).tallies = s.tallies := by
  simp only [State.request]
  all_goals simp

@[simp] theorem State.request_ports (s : State) (c : Channel) (b : Bool) (d : Nat) :
    (s.request c b d).ports = s.ports := by
  simp only [State.request]
  all_goals simp

@[simp] theorem State.request_pending (s : State) (c : Channel) (b : Bool) (d : Nat) :
    (s.request c b d).pending = s.pending := by
  simp only [State.request]
  all_goals simp

@[simp] theorem State.takeLayout_timing (s : State) (c : Channel) (p : PresetIx) (d : Nat) (h : Option (Handle × PortId)) :
    (s.takeLayout c p d h).timing = s.timing := by
  simp only [State.takeLayout]
  all_goals repeat' split
  all_goals simp

@[simp] theorem State.takeLayout_cues (s : State) (c : Channel) (p : PresetIx) (d : Nat) (h : Option (Handle × PortId)) :
    (s.takeLayout c p d h).cues = s.cues := by
  simp only [State.takeLayout]
  all_goals repeat' split
  all_goals simp

@[simp] theorem State.takeLayout_free (s : State) (c : Channel) (p : PresetIx) (d : Nat) (h : Option (Handle × PortId)) :
    (s.takeLayout c p d h).free = s.free := by
  simp only [State.takeLayout]
  all_goals repeat' split
  all_goals simp

@[simp] theorem State.takeLayout_gpis (s : State) (c : Channel) (p : PresetIx) (d : Nat) (h : Option (Handle × PortId)) :
    (s.takeLayout c p d h).gpis = s.gpis := by
  simp only [State.takeLayout]
  all_goals repeat' split
  all_goals simp

@[simp] theorem State.takeLayout_tallies (s : State) (c : Channel) (p : PresetIx) (d : Nat) (h : Option (Handle × PortId)) :
    (s.takeLayout c p d h).tallies = s.tallies := by
  simp only [State.takeLayout]
  all_goals repeat' split
  all_goals simp

@[simp] theorem State.takeLayout_pending (s : State) (c : Channel) (p : PresetIx) (d : Nat) (h : Option (Handle × PortId)) :
    (s.takeLayout c p d h).pending = s.pending := by
  simp only [State.takeLayout]
  all_goals repeat' split
  all_goals simp

@[simp] theorem State.windowIn_timing (s : State) (c : Channel) (d : Nat) (p : Option PresetIx) :
    (s.windowIn c d p).timing = s.timing := by
  simp only [State.windowIn]
  all_goals repeat' split
  all_goals simp

@[simp] theorem State.windowIn_cues (s : State) (c : Channel) (d : Nat) (p : Option PresetIx) :
    (s.windowIn c d p).cues = s.cues := by
  simp only [State.windowIn]
  all_goals repeat' split
  all_goals simp

@[simp] theorem State.windowIn_free (s : State) (c : Channel) (d : Nat) (p : Option PresetIx) :
    (s.windowIn c d p).free = s.free := by
  simp only [State.windowIn]
  all_goals repeat' split
  all_goals simp

@[simp] theorem State.windowIn_gpis (s : State) (c : Channel) (d : Nat) (p : Option PresetIx) :
    (s.windowIn c d p).gpis = s.gpis := by
  simp only [State.windowIn]
  all_goals repeat' split
  all_goals simp

@[simp] theorem State.windowIn_tallies (s : State) (c : Channel) (d : Nat) (p : Option PresetIx) :
    (s.windowIn c d p).tallies = s.tallies := by
  simp only [State.windowIn]
  all_goals repeat' split
  all_goals simp

@[simp] theorem State.windowIn_pending (s : State) (c : Channel) (d : Nat) (p : Option PresetIx) :
    (s.windowIn c d p).pending = s.pending := by
  simp only [State.windowIn]
  all_goals repeat' split
  all_goals simp

@[simp] theorem State.windowOut_timing (s : State) (c : Channel) (d : Nat) :
    (s.windowOut c d).timing = s.timing := by
  simp only [State.windowOut]
  all_goals simp

@[simp] theorem State.windowOut_cues (s : State) (c : Channel) (d : Nat) :
    (s.windowOut c d).cues = s.cues := by
  simp only [State.windowOut]
  all_goals simp

@[simp] theorem State.windowOut_free (s : State) (c : Channel) (d : Nat) :
    (s.windowOut c d).free = s.free := by
  simp only [State.windowOut]
  all_goals simp

@[simp] theorem State.windowOut_gpis (s : State) (c : Channel) (d : Nat) :
    (s.windowOut c d).gpis = s.gpis := by
  simp only [State.windowOut]
  all_goals simp

@[simp] theorem State.windowOut_tallies (s : State) (c : Channel) (d : Nat) :
    (s.windowOut c d).tallies = s.tallies := by
  simp only [State.windowOut]
  all_goals simp

@[simp] theorem State.windowOut_ports (s : State) (c : Channel) (d : Nat) :
    (s.windowOut c d).ports = s.ports := by
  simp only [State.windowOut]
  all_goals simp

@[simp] theorem State.windowOut_pending (s : State) (c : Channel) (d : Nat) :
    (s.windowOut c d).pending = s.pending := by
  simp only [State.windowOut]
  all_goals simp

@[simp] theorem State.suppressChannel_timing (s : State) (p : PortId) (a : Nat) (c : Channel) :
    (s.suppressChannel p a c).timing = s.timing := by
  simp only [State.suppressChannel]
  all_goals repeat' split
  all_goals simp

@[simp] theorem State.suppressChannel_cues (s : State) (p : PortId) (a : Nat) (c : Channel) :
    (s.suppressChannel p a c).cues = s.cues := by
  simp only [State.suppressChannel]
  all_goals repeat' split
  all_goals simp

@[simp] theorem State.suppressChannel_free (s : State) (p : PortId) (a : Nat) (c : Channel) :
    (s.suppressChannel p a c).free = s.free := by
  simp only [State.suppressChannel]
  all_goals repeat' split
  all_goals simp

@[simp] theorem State.suppressChannel_gpis (s : State) (p : PortId) (a : Nat) (c : Channel) :
    (s.suppressChannel p a c).gpis = s.gpis := by
  simp only [State.suppressChannel]
  all_goals repeat' split
  all_goals simp

@[simp] theorem State.suppressChannel_tallies (s : State) (p : PortId) (a : Nat) (c : Channel) :
    (s.suppressChannel p a c).tallies = s.tallies := by
  simp only [State.suppressChannel]
  all_goals repeat' split
  all_goals simp

@[simp] theorem State.suppressChannel_pending (s : State) (p : PortId) (a : Nat) (c : Channel) :
    (s.suppressChannel p a c).pending = s.pending := by
  simp only [State.suppressChannel]
  all_goals repeat' split
  all_goals simp

@[simp] theorem State.setSpanResult_timing (s : State) (c : Channel) (b : Bool) :
    (s.setSpanResult c b).timing = s.timing := by
  simp only [State.setSpanResult]
  all_goals simp

@[simp] theorem State.setSpanResult_cues (s : State) (c : Channel) (b : Bool) :
    (s.setSpanResult c b).cues = s.cues := by
  simp only [State.setSpanResult]
  all_goals simp

@[simp] theorem State.setSpanResult_free (s : State) (c : Channel) (b : Bool) :
    (s.setSpanResult c b).free = s.free := by
  simp only [State.setSpanResult]
  all_goals simp

@[simp] theorem State.setSpanResult_gpis (s : State) (c : Channel) (b : Bool) :
    (s.setSpanResult c b).gpis = s.gpis := by
  simp only [State.setSpanResult]
  all_goals simp

@[simp] theorem State.setSpanResult_tallies (s : State) (c : Channel) (b : Bool) :
    (s.setSpanResult c b).tallies = s.tallies := by
  simp only [State.setSpanResult]
  all_goals simp

@[simp] theorem State.setSpanResult_pending (s : State) (c : Channel) (b : Bool) :
    (s.setSpanResult c b).pending = s.pending := by
  simp only [State.setSpanResult]
  all_goals simp

@[simp] theorem State.matchSpans_timing (s : State) (c : Channel) (r : StepReport) :
    (s.matchSpans c r).timing = s.timing := by
  simp only [State.matchSpans]
  all_goals repeat' split
  all_goals simp

@[simp] theorem State.matchSpans_cues (s : State) (c : Channel) (r : StepReport) :
    (s.matchSpans c r).cues = s.cues := by
  simp only [State.matchSpans]
  all_goals repeat' split
  all_goals simp

@[simp] theorem State.matchSpans_free (s : State) (c : Channel) (r : StepReport) :
    (s.matchSpans c r).free = s.free := by
  simp only [State.matchSpans]
  all_goals repeat' split
  all_goals simp

@[simp] theorem State.matchSpans_gpis (s : State) (c : Channel) (r : StepReport) :
    (s.matchSpans c r).gpis = s.gpis := by
  simp only [State.matchSpans]
  all_goals repeat' split
  all_goals simp

@[simp] theorem State.matchSpans_tallies (s : State) (c : Channel) (r : StepReport) :
    (s.matchSpans c r).tallies = s.tallies := by
  simp only [State.matchSpans]
  all_goals repeat' split
  all_goals simp

@[simp] theorem State.matchSpans_pending (s : State) (c : Channel) (r : StepReport) :
    (s.matchSpans c r).pending = s.pending := by
  simp only [State.matchSpans]
  all_goals repeat' split
  all_goals simp

@[simp] theorem State.respan_timing (s : State) (c : Channel) :
    (s.respan c).timing = s.timing := by
  simp only [State.respan]
  all_goals repeat' split
  all_goals simp

@[simp] theorem State.respan_cues (s : State) (c : Channel) :
    (s.respan c).cues = s.cues := by
  simp only [State.respan]
  all_goals repeat' split
  all_goals simp

@[simp] theorem State.respan_free (s : State) (c : Channel) :
    (s.respan c).free = s.free := by
  simp only [State.respan]
  all_goals repeat' split
  all_goals simp

@[simp] theorem State.respan_gpis (s : State) (c : Channel) :
    (s.respan c).gpis = s.gpis := by
  simp only [State.respan]
  all_goals repeat' split
  all_goals simp

@[simp] theorem State.respan_tallies (s : State) (c : Channel) :
    (s.respan c).tallies = s.tallies := by
  simp only [State.respan]
  all_goals repeat' split
  all_goals simp

@[simp] theorem State.respan_pending (s : State) (c : Channel) :
    (s.respan c).pending = s.pending := by
  simp only [State.respan]
  all_goals repeat' split
  all_goals simp

@[simp] theorem State.targetEvent_timing (s : State) (c : Channel) :
    (s.targetEvent c).timing = s.timing := by
  simp only [State.targetEvent]
  all_goals repeat' split
  all_goals simp

@[simp] theorem State.targetEvent_cues (s : State) (c : Channel) :
    (s.targetEvent c).cues = s.cues := by
  simp only [State.targetEvent]
  all_goals repeat' split
  all_goals simp

@[simp] theorem State.targetEvent_gpis (s : State) (c : Channel) :
    (s.targetEvent c).gpis = s.gpis := by
  simp only [State.targetEvent]
  all_goals repeat' split
  all_goals simp

@[simp] theorem State.targetEvent_tallies (s : State) (c : Channel) :
    (s.targetEvent c).tallies = s.tallies := by
  simp only [State.targetEvent]
  all_goals repeat' split
  all_goals simp

@[simp] theorem State.targetEvent_pending (s : State) (c : Channel) :
    (s.targetEvent c).pending = s.pending := by
  simp only [State.targetEvent]
  all_goals repeat' split
  all_goals simp

@[simp] theorem State.setLag_timing (s : State) (c : Channel) (n : Nat) :
    (s.setLag c n).timing = s.timing := by
  simp only [State.setLag]
  all_goals simp

@[simp] theorem State.setLag_cues (s : State) (c : Channel) (n : Nat) :
    (s.setLag c n).cues = s.cues := by
  simp only [State.setLag]
  all_goals simp

@[simp] theorem State.setLag_gpis (s : State) (c : Channel) (n : Nat) :
    (s.setLag c n).gpis = s.gpis := by
  simp only [State.setLag]
  all_goals simp

@[simp] theorem State.setLag_tallies (s : State) (c : Channel) (n : Nat) :
    (s.setLag c n).tallies = s.tallies := by
  simp only [State.setLag]
  all_goals simp

@[simp] theorem State.setLag_pending (s : State) (c : Channel) (n : Nat) :
    (s.setLag c n).pending = s.pending := by
  simp only [State.setLag]
  all_goals simp

@[simp] theorem State.slewStep_timing (s : State) (c : Channel) :
    (s.slewStep c).timing = s.timing := by
  simp only [State.slewStep]
  all_goals repeat' split
  all_goals simp

@[simp] theorem State.slewStep_cues (s : State) (c : Channel) :
    (s.slewStep c).cues = s.cues := by
  simp only [State.slewStep]
  all_goals repeat' split
  all_goals simp

@[simp] theorem State.slewStep_gpis (s : State) (c : Channel) :
    (s.slewStep c).gpis = s.gpis := by
  simp only [State.slewStep]
  all_goals repeat' split
  all_goals simp

@[simp] theorem State.slewStep_tallies (s : State) (c : Channel) :
    (s.slewStep c).tallies = s.tallies := by
  simp only [State.slewStep]
  all_goals repeat' split
  all_goals simp

@[simp] theorem State.slewStep_pending (s : State) (c : Channel) :
    (s.slewStep c).pending = s.pending := by
  simp only [State.slewStep]
  all_goals repeat' split
  all_goals simp

@[simp] theorem State.slew_timing (s : State) (c : Channel) :
    (s.slew c).timing = s.timing := by
  simp only [State.slew]
  all_goals repeat' split
  all_goals simp

@[simp] theorem State.slew_cues (s : State) (c : Channel) :
    (s.slew c).cues = s.cues := by
  simp only [State.slew]
  all_goals repeat' split
  all_goals simp

@[simp] theorem State.slew_gpis (s : State) (c : Channel) :
    (s.slew c).gpis = s.gpis := by
  simp only [State.slew]
  all_goals repeat' split
  all_goals simp

@[simp] theorem State.slew_tallies (s : State) (c : Channel) :
    (s.slew c).tallies = s.tallies := by
  simp only [State.slew]
  all_goals repeat' split
  all_goals simp

@[simp] theorem State.slew_pending (s : State) (c : Channel) :
    (s.slew c).pending = s.pending := by
  simp only [State.slew]
  all_goals repeat' split
  all_goals simp

@[simp] theorem State.delayFrame_timing (s : State) (c : Channel) (l : List InputFrame) :
    (s.delayFrame c l).timing = s.timing := by
  simp only [State.delayFrame]
  all_goals repeat' split
  all_goals simp

@[simp] theorem State.delayFrame_cues (s : State) (c : Channel) (l : List InputFrame) :
    (s.delayFrame c l).cues = s.cues := by
  simp only [State.delayFrame]
  all_goals repeat' split
  all_goals simp

@[simp] theorem State.delayFrame_gpis (s : State) (c : Channel) (l : List InputFrame) :
    (s.delayFrame c l).gpis = s.gpis := by
  simp only [State.delayFrame]
  all_goals repeat' split
  all_goals simp

@[simp] theorem State.delayFrame_tallies (s : State) (c : Channel) (l : List InputFrame) :
    (s.delayFrame c l).tallies = s.tallies := by
  simp only [State.delayFrame]
  all_goals repeat' split
  all_goals simp

@[simp] theorem State.delayFrame_pending (s : State) (c : Channel) (l : List InputFrame) :
    (s.delayFrame c l).pending = s.pending := by
  simp only [State.delayFrame]
  all_goals repeat' split
  all_goals simp

@[simp] theorem State.postDone_timing (s : State) (c : Channel) :
    (s.postDone c).timing = s.timing := by
  simp only [State.postDone]
  all_goals repeat' split
  all_goals simp

@[simp] theorem State.postDone_cues (s : State) (c : Channel) :
    (s.postDone c).cues = s.cues := by
  simp only [State.postDone]
  all_goals repeat' split
  all_goals simp

@[simp] theorem State.postDone_channels (s : State) (c : Channel) :
    (s.postDone c).channels = s.channels := by
  simp only [State.postDone]
  all_goals repeat' split
  all_goals simp

@[simp] theorem State.postDone_free (s : State) (c : Channel) :
    (s.postDone c).free = s.free := by
  simp only [State.postDone]
  all_goals repeat' split
  all_goals simp

@[simp] theorem State.postDone_gpis (s : State) (c : Channel) :
    (s.postDone c).gpis = s.gpis := by
  simp only [State.postDone]
  all_goals repeat' split
  all_goals simp

@[simp] theorem State.postDone_tallies (s : State) (c : Channel) :
    (s.postDone c).tallies = s.tallies := by
  simp only [State.postDone]
  all_goals repeat' split
  all_goals simp

@[simp] theorem State.postDone_pending (s : State) (c : Channel) :
    (s.postDone c).pending = s.pending := by
  simp only [State.postDone]
  all_goals repeat' split
  all_goals simp

@[simp] theorem State.endRun_timing (s : State) (c : Channel) (r : RunResult) :
    (s.endRun c r).timing = s.timing := by
  simp only [State.endRun]
  all_goals simp

@[simp] theorem State.endRun_cues (s : State) (c : Channel) (r : RunResult) :
    (s.endRun c r).cues = s.cues := by
  simp only [State.endRun]
  all_goals simp

@[simp] theorem State.endRun_free (s : State) (c : Channel) (r : RunResult) :
    (s.endRun c r).free = s.free := by
  simp only [State.endRun]
  all_goals simp

@[simp] theorem State.endRun_gpis (s : State) (c : Channel) (r : RunResult) :
    (s.endRun c r).gpis = s.gpis := by
  simp only [State.endRun]
  all_goals simp

@[simp] theorem State.endRun_tallies (s : State) (c : Channel) (r : RunResult) :
    (s.endRun c r).tallies = s.tallies := by
  simp only [State.endRun]
  all_goals simp

@[simp] theorem State.endRun_pending (s : State) (c : Channel) (r : RunResult) :
    (s.endRun c r).pending = s.pending := by
  simp only [State.endRun]
  all_goals simp

@[simp] theorem State.endRunOk_timing (s : State) (c : Channel) :
    (s.endRunOk c).timing = s.timing := by
  simp only [State.endRunOk]
  all_goals simp

@[simp] theorem State.endRunOk_cues (s : State) (c : Channel) :
    (s.endRunOk c).cues = s.cues := by
  simp only [State.endRunOk]
  all_goals simp

@[simp] theorem State.endRunOk_gpis (s : State) (c : Channel) :
    (s.endRunOk c).gpis = s.gpis := by
  simp only [State.endRunOk]
  all_goals simp

@[simp] theorem State.endRunOk_tallies (s : State) (c : Channel) :
    (s.endRunOk c).tallies = s.tallies := by
  simp only [State.endRunOk]
  all_goals simp

@[simp] theorem State.endRunOk_pending (s : State) (c : Channel) :
    (s.endRunOk c).pending = s.pending := by
  simp only [State.endRunOk]
  all_goals simp

@[simp] theorem State.countRun_timing (s : State) (c : Channel) :
    (s.countRun c).timing = s.timing := by
  simp only [State.countRun]
  all_goals repeat' split
  all_goals simp

@[simp] theorem State.countRun_cues (s : State) (c : Channel) :
    (s.countRun c).cues = s.cues := by
  simp only [State.countRun]
  all_goals repeat' split
  all_goals simp

@[simp] theorem State.countRun_free (s : State) (c : Channel) :
    (s.countRun c).free = s.free := by
  simp only [State.countRun]
  all_goals repeat' split
  all_goals simp

@[simp] theorem State.countRun_gpis (s : State) (c : Channel) :
    (s.countRun c).gpis = s.gpis := by
  simp only [State.countRun]
  all_goals repeat' split
  all_goals simp

@[simp] theorem State.countRun_tallies (s : State) (c : Channel) :
    (s.countRun c).tallies = s.tallies := by
  simp only [State.countRun]
  all_goals repeat' split
  all_goals simp

@[simp] theorem State.countRun_pending (s : State) (c : Channel) :
    (s.countRun c).pending = s.pending := by
  simp only [State.countRun]
  all_goals repeat' split
  all_goals simp

@[simp] theorem State.receiveMarker_timing (s : State) (c : Channel) (n q : Nat) :
    (s.receiveMarker c n q).timing = s.timing := by
  simp only [State.receiveMarker]
  all_goals repeat' split
  all_goals simp

@[simp] theorem State.receiveMarker_cues (s : State) (c : Channel) (n q : Nat) :
    (s.receiveMarker c n q).cues = s.cues := by
  simp only [State.receiveMarker]
  all_goals repeat' split
  all_goals simp

@[simp] theorem State.receiveMarker_gpis (s : State) (c : Channel) (n q : Nat) :
    (s.receiveMarker c n q).gpis = s.gpis := by
  simp only [State.receiveMarker]
  all_goals repeat' split
  all_goals simp

@[simp] theorem State.receiveMarker_tallies (s : State) (c : Channel) (n q : Nat) :
    (s.receiveMarker c n q).tallies = s.tallies := by
  simp only [State.receiveMarker]
  all_goals repeat' split
  all_goals simp

@[simp] theorem State.receiveMarker_pending (s : State) (c : Channel) (n q : Nat) :
    (s.receiveMarker c n q).pending = s.pending := by
  simp only [State.receiveMarker]
  all_goals repeat' split
  all_goals simp

@[simp] theorem State.setLevel_timing (s : State) (c : Channel) (b : Bool) :
    (s.setLevel c b).timing = s.timing := by
  simp only [State.setLevel]
  all_goals simp

@[simp] theorem State.setLevel_cues (s : State) (c : Channel) (b : Bool) :
    (s.setLevel c b).cues = s.cues := by
  simp only [State.setLevel]
  all_goals simp

@[simp] theorem State.setLevel_free (s : State) (c : Channel) (b : Bool) :
    (s.setLevel c b).free = s.free := by
  simp only [State.setLevel]
  all_goals simp

@[simp] theorem State.setLevel_gpis (s : State) (c : Channel) (b : Bool) :
    (s.setLevel c b).gpis = s.gpis := by
  simp only [State.setLevel]
  all_goals simp

@[simp] theorem State.setLevel_tallies (s : State) (c : Channel) (b : Bool) :
    (s.setLevel c b).tallies = s.tallies := by
  simp only [State.setLevel]
  all_goals simp

@[simp] theorem State.setLevel_pending (s : State) (c : Channel) (b : Bool) :
    (s.setLevel c b).pending = s.pending := by
  simp only [State.setLevel]
  all_goals simp

@[simp] theorem State.endOnLoss_timing (s : State) (c : Channel) (x y : LockState) :
    (s.endOnLoss c x y).timing = s.timing := by
  simp only [State.endOnLoss]
  all_goals repeat' split
  all_goals simp

@[simp] theorem State.endOnLoss_cues (s : State) (c : Channel) (x y : LockState) :
    (s.endOnLoss c x y).cues = s.cues := by
  simp only [State.endOnLoss]
  all_goals repeat' split
  all_goals simp

@[simp] theorem State.endOnLoss_free (s : State) (c : Channel) (x y : LockState) :
    (s.endOnLoss c x y).free = s.free := by
  simp only [State.endOnLoss]
  all_goals repeat' split
  all_goals simp

@[simp] theorem State.endOnLoss_gpis (s : State) (c : Channel) (x y : LockState) :
    (s.endOnLoss c x y).gpis = s.gpis := by
  simp only [State.endOnLoss]
  all_goals repeat' split
  all_goals simp

@[simp] theorem State.endOnLoss_tallies (s : State) (c : Channel) (x y : LockState) :
    (s.endOnLoss c x y).tallies = s.tallies := by
  simp only [State.endOnLoss]
  all_goals repeat' split
  all_goals simp

@[simp] theorem State.endOnLoss_pending (s : State) (c : Channel) (x y : LockState) :
    (s.endOnLoss c x y).pending = s.pending := by
  simp only [State.endOnLoss]
  all_goals repeat' split
  all_goals simp

@[simp] theorem State.setLock_timing (s : State) (c : Channel) (x : LockState) (h : HandOver) :
    (s.setLock c x h).timing = s.timing := by
  simp only [State.setLock]
  all_goals repeat' split
  all_goals simp

@[simp] theorem State.setLock_cues (s : State) (c : Channel) (x : LockState) (h : HandOver) :
    (s.setLock c x h).cues = s.cues := by
  simp only [State.setLock]
  all_goals repeat' split
  all_goals simp

@[simp] theorem State.setLock_free (s : State) (c : Channel) (x : LockState) (h : HandOver) :
    (s.setLock c x h).free = s.free := by
  simp only [State.setLock]
  all_goals repeat' split
  all_goals simp

@[simp] theorem State.setLock_gpis (s : State) (c : Channel) (x : LockState) (h : HandOver) :
    (s.setLock c x h).gpis = s.gpis := by
  simp only [State.setLock]
  all_goals repeat' split
  all_goals simp

@[simp] theorem State.setLock_tallies (s : State) (c : Channel) (x : LockState) (h : HandOver) :
    (s.setLock c x h).tallies = s.tallies := by
  simp only [State.setLock]
  all_goals repeat' split
  all_goals simp

@[simp] theorem State.setLock_pending (s : State) (c : Channel) (x : LockState) (h : HandOver) :
    (s.setLock c x h).pending = s.pending := by
  simp only [State.setLock]
  all_goals repeat' split
  all_goals simp

@[simp] theorem State.signalUp_timing (s : State) (c : Channel) :
    (s.signalUp c).timing = s.timing := by
  simp only [State.signalUp]
  all_goals repeat' split
  all_goals simp

@[simp] theorem State.signalUp_cues (s : State) (c : Channel) :
    (s.signalUp c).cues = s.cues := by
  simp only [State.signalUp]
  all_goals repeat' split
  all_goals simp

@[simp] theorem State.signalUp_free (s : State) (c : Channel) :
    (s.signalUp c).free = s.free := by
  simp only [State.signalUp]
  all_goals repeat' split
  all_goals simp

@[simp] theorem State.signalUp_gpis (s : State) (c : Channel) :
    (s.signalUp c).gpis = s.gpis := by
  simp only [State.signalUp]
  all_goals repeat' split
  all_goals simp

@[simp] theorem State.signalUp_tallies (s : State) (c : Channel) :
    (s.signalUp c).tallies = s.tallies := by
  simp only [State.signalUp]
  all_goals repeat' split
  all_goals simp

@[simp] theorem State.signalUp_pending (s : State) (c : Channel) :
    (s.signalUp c).pending = s.pending := by
  simp only [State.signalUp]
  all_goals repeat' split
  all_goals simp

@[simp] theorem State.completePicture_timing (s : State) (c : Channel) (b : Bool) (p : Picture) (h : HandOver) (i : Incoming) :
    (s.completePicture c b p h i).timing = s.timing := by
  simp only [State.completePicture]
  all_goals simp

@[simp] theorem State.completePicture_cues (s : State) (c : Channel) (b : Bool) (p : Picture) (h : HandOver) (i : Incoming) :
    (s.completePicture c b p h i).cues = s.cues := by
  simp only [State.completePicture]
  all_goals simp

@[simp] theorem State.completePicture_free (s : State) (c : Channel) (b : Bool) (p : Picture) (h : HandOver) (i : Incoming) :
    (s.completePicture c b p h i).free = s.free := by
  simp only [State.completePicture]
  all_goals simp

@[simp] theorem State.completePicture_gpis (s : State) (c : Channel) (b : Bool) (p : Picture) (h : HandOver) (i : Incoming) :
    (s.completePicture c b p h i).gpis = s.gpis := by
  simp only [State.completePicture]
  all_goals simp

@[simp] theorem State.completePicture_tallies (s : State) (c : Channel) (b : Bool) (p : Picture) (h : HandOver) (i : Incoming) :
    (s.completePicture c b p h i).tallies = s.tallies := by
  simp only [State.completePicture]
  all_goals simp

@[simp] theorem State.completePicture_pending (s : State) (c : Channel) (b : Bool) (p : Picture) (h : HandOver) (i : Incoming) :
    (s.completePicture c b p h i).pending = s.pending := by
  simp only [State.completePicture]
  all_goals simp

@[simp] theorem State.chooseSigner_timing (s : State) (c : Channel) (h : HandOver) :
    (s.chooseSigner c h).timing = s.timing := by
  simp only [State.chooseSigner]
  all_goals repeat' split
  all_goals simp

@[simp] theorem State.chooseSigner_cues (s : State) (c : Channel) (h : HandOver) :
    (s.chooseSigner c h).cues = s.cues := by
  simp only [State.chooseSigner]
  all_goals repeat' split
  all_goals simp

@[simp] theorem State.chooseSigner_free (s : State) (c : Channel) (h : HandOver) :
    (s.chooseSigner c h).free = s.free := by
  simp only [State.chooseSigner]
  all_goals repeat' split
  all_goals simp

@[simp] theorem State.chooseSigner_gpis (s : State) (c : Channel) (h : HandOver) :
    (s.chooseSigner c h).gpis = s.gpis := by
  simp only [State.chooseSigner]
  all_goals repeat' split
  all_goals simp

@[simp] theorem State.chooseSigner_tallies (s : State) (c : Channel) (h : HandOver) :
    (s.chooseSigner c h).tallies = s.tallies := by
  simp only [State.chooseSigner]
  all_goals repeat' split
  all_goals simp

@[simp] theorem State.chooseSigner_pending (s : State) (c : Channel) (h : HandOver) :
    (s.chooseSigner c h).pending = s.pending := by
  simp only [State.chooseSigner]
  all_goals repeat' split
  all_goals simp

@[simp] theorem State.raiseHolding_timing (s : State) (c : Channel) (h : HandOver) :
    (s.raiseHolding c h).timing = s.timing := by
  simp only [State.raiseHolding]
  all_goals repeat' split
  all_goals simp

@[simp] theorem State.raiseHolding_cues (s : State) (c : Channel) (h : HandOver) :
    (s.raiseHolding c h).cues = s.cues := by
  simp only [State.raiseHolding]
  all_goals repeat' split
  all_goals simp

@[simp] theorem State.raiseHolding_free (s : State) (c : Channel) (h : HandOver) :
    (s.raiseHolding c h).free = s.free := by
  simp only [State.raiseHolding]
  all_goals repeat' split
  all_goals simp

@[simp] theorem State.raiseHolding_gpis (s : State) (c : Channel) (h : HandOver) :
    (s.raiseHolding c h).gpis = s.gpis := by
  simp only [State.raiseHolding]
  all_goals repeat' split
  all_goals simp

@[simp] theorem State.raiseHolding_tallies (s : State) (c : Channel) (h : HandOver) :
    (s.raiseHolding c h).tallies = s.tallies := by
  simp only [State.raiseHolding]
  all_goals repeat' split
  all_goals simp

@[simp] theorem State.raiseHolding_pending (s : State) (c : Channel) (h : HandOver) :
    (s.raiseHolding c h).pending = s.pending := by
  simp only [State.raiseHolding]
  all_goals repeat' split
  all_goals simp

@[simp] theorem State.syncPeriod_timing (s : State) (c : Channel) (b : Bool) (h : HandOver) :
    (s.syncPeriod c b h).timing = s.timing := by
  simp only [State.syncPeriod]
  all_goals repeat' split
  all_goals simp

@[simp] theorem State.syncPeriod_cues (s : State) (c : Channel) (b : Bool) (h : HandOver) :
    (s.syncPeriod c b h).cues = s.cues := by
  simp only [State.syncPeriod]
  all_goals repeat' split
  all_goals simp

@[simp] theorem State.syncPeriod_free (s : State) (c : Channel) (b : Bool) (h : HandOver) :
    (s.syncPeriod c b h).free = s.free := by
  simp only [State.syncPeriod]
  all_goals repeat' split
  all_goals simp

@[simp] theorem State.syncPeriod_gpis (s : State) (c : Channel) (b : Bool) (h : HandOver) :
    (s.syncPeriod c b h).gpis = s.gpis := by
  simp only [State.syncPeriod]
  all_goals repeat' split
  all_goals simp

@[simp] theorem State.syncPeriod_tallies (s : State) (c : Channel) (b : Bool) (h : HandOver) :
    (s.syncPeriod c b h).tallies = s.tallies := by
  simp only [State.syncPeriod]
  all_goals repeat' split
  all_goals simp

@[simp] theorem State.syncPeriod_pending (s : State) (c : Channel) (b : Bool) (h : HandOver) :
    (s.syncPeriod c b h).pending = s.pending := by
  simp only [State.syncPeriod]
  all_goals repeat' split
  all_goals simp

@[simp] theorem State.modScheduler_timing (s : State) (c : Channel) (f : Scheduler → Scheduler) :
    (s.modScheduler c f).timing = s.timing := by
  simp only [State.modScheduler]
  all_goals simp

@[simp] theorem State.modScheduler_cues (s : State) (c : Channel) (f : Scheduler → Scheduler) :
    (s.modScheduler c f).cues = s.cues := by
  simp only [State.modScheduler]
  all_goals simp

@[simp] theorem State.modScheduler_free (s : State) (c : Channel) (f : Scheduler → Scheduler) :
    (s.modScheduler c f).free = s.free := by
  simp only [State.modScheduler]
  all_goals simp

@[simp] theorem State.modScheduler_gpis (s : State) (c : Channel) (f : Scheduler → Scheduler) :
    (s.modScheduler c f).gpis = s.gpis := by
  simp only [State.modScheduler]
  all_goals simp

@[simp] theorem State.modScheduler_tallies (s : State) (c : Channel) (f : Scheduler → Scheduler) :
    (s.modScheduler c f).tallies = s.tallies := by
  simp only [State.modScheduler]
  all_goals simp

@[simp] theorem State.modScheduler_ports (s : State) (c : Channel) (f : Scheduler → Scheduler) :
    (s.modScheduler c f).ports = s.ports := by
  simp only [State.modScheduler]
  all_goals simp

@[simp] theorem State.modScheduler_pending (s : State) (c : Channel) (f : Scheduler → Scheduler) :
    (s.modScheduler c f).pending = s.pending := by
  simp only [State.modScheduler]
  all_goals simp

@[simp] theorem State.removeCue_timing (s : State) (c : Channel) (i : SlotIx) :
    (s.removeCue c i).timing = s.timing := by
  simp only [State.removeCue]
  all_goals simp

@[simp] theorem State.removeCue_free (s : State) (c : Channel) (i : SlotIx) :
    (s.removeCue c i).free = s.free := by
  simp only [State.removeCue]
  all_goals simp

@[simp] theorem State.removeCue_gpis (s : State) (c : Channel) (i : SlotIx) :
    (s.removeCue c i).gpis = s.gpis := by
  simp only [State.removeCue]
  all_goals simp

@[simp] theorem State.removeCue_tallies (s : State) (c : Channel) (i : SlotIx) :
    (s.removeCue c i).tallies = s.tallies := by
  simp only [State.removeCue]
  all_goals simp

@[simp] theorem State.removeCue_ports (s : State) (c : Channel) (i : SlotIx) :
    (s.removeCue c i).ports = s.ports := by
  simp only [State.removeCue]
  all_goals simp

@[simp] theorem State.removeCue_pending (s : State) (c : Channel) (i : SlotIx) :
    (s.removeCue c i).pending = s.pending := by
  simp only [State.removeCue]
  all_goals simp

@[simp] theorem State.enlist_timing (s : State) (i : SlotIx) (k : Cue) :
    (s.enlist i k).timing = s.timing := by
  simp only [State.enlist]
  all_goals repeat' split
  all_goals simp

@[simp] theorem State.enlist_cues (s : State) (i : SlotIx) (k : Cue) :
    (s.enlist i k).cues = s.cues := by
  simp only [State.enlist]
  all_goals repeat' split
  all_goals simp

@[simp] theorem State.enlist_free (s : State) (i : SlotIx) (k : Cue) :
    (s.enlist i k).free = s.free := by
  simp only [State.enlist]
  all_goals repeat' split
  all_goals simp

@[simp] theorem State.enlist_gpis (s : State) (i : SlotIx) (k : Cue) :
    (s.enlist i k).gpis = s.gpis := by
  simp only [State.enlist]
  all_goals repeat' split
  all_goals simp

@[simp] theorem State.enlist_tallies (s : State) (i : SlotIx) (k : Cue) :
    (s.enlist i k).tallies = s.tallies := by
  simp only [State.enlist]
  all_goals repeat' split
  all_goals simp

@[simp] theorem State.enlist_ports (s : State) (i : SlotIx) (k : Cue) :
    (s.enlist i k).ports = s.ports := by
  simp only [State.enlist]
  all_goals repeat' split
  all_goals simp

@[simp] theorem State.enlist_pending (s : State) (i : SlotIx) (k : Cue) :
    (s.enlist i k).pending = s.pending := by
  simp only [State.enlist]
  all_goals repeat' split
  all_goals simp

@[simp] theorem State.retire_timing (s : State) (c : Channel) (i : SlotIx) (k : Cue) (r : Result) :
    (s.retire c i k r).timing = s.timing := by
  simp only [State.retire]
  all_goals simp

@[simp] theorem State.retire_free (s : State) (c : Channel) (i : SlotIx) (k : Cue) (r : Result) :
    (s.retire c i k r).free = s.free := by
  simp only [State.retire]
  all_goals simp

@[simp] theorem State.retire_gpis (s : State) (c : Channel) (i : SlotIx) (k : Cue) (r : Result) :
    (s.retire c i k r).gpis = s.gpis := by
  simp only [State.retire]
  all_goals simp

@[simp] theorem State.retire_tallies (s : State) (c : Channel) (i : SlotIx) (k : Cue) (r : Result) :
    (s.retire c i k r).tallies = s.tallies := by
  simp only [State.retire]
  all_goals simp

@[simp] theorem State.retire_pending (s : State) (c : Channel) (i : SlotIx) (k : Cue) (r : Result) :
    (s.retire c i k r).pending = s.pending := by
  simp only [State.retire]
  all_goals simp

@[simp] theorem State.deliver_timing (s : State) (c : Channel) (h : Handle) (k : Cue) :
    (s.deliver c h k).timing = s.timing := by
  simp only [State.deliver]
  all_goals repeat' split
  all_goals simp

@[simp] theorem State.deliver_cues (s : State) (c : Channel) (h : Handle) (k : Cue) :
    (s.deliver c h k).cues = s.cues := by
  simp only [State.deliver]
  all_goals repeat' split
  all_goals simp

@[simp] theorem State.deliver_gpis (s : State) (c : Channel) (h : Handle) (k : Cue) :
    (s.deliver c h k).gpis = s.gpis := by
  simp only [State.deliver]
  all_goals repeat' split
  all_goals simp

@[simp] theorem State.deliver_tallies (s : State) (c : Channel) (h : Handle) (k : Cue) :
    (s.deliver c h k).tallies = s.tallies := by
  simp only [State.deliver]
  all_goals repeat' split
  all_goals simp

@[simp] theorem State.deliver_pending (s : State) (c : Channel) (h : Handle) (k : Cue) :
    (s.deliver c h k).pending = s.pending := by
  simp only [State.deliver]
  all_goals repeat' split
  all_goals simp

@[simp] theorem State.fireCue_timing (s : State) (c : Channel) (r : Result) (i : SlotIx) :
    (s.fireCue c r i).timing = s.timing := by
  simp only [State.fireCue]
  all_goals repeat' split
  all_goals simp

@[simp] theorem State.fireCue_gpis (s : State) (c : Channel) (r : Result) (i : SlotIx) :
    (s.fireCue c r i).gpis = s.gpis := by
  simp only [State.fireCue]
  all_goals repeat' split
  all_goals simp

@[simp] theorem State.fireCue_tallies (s : State) (c : Channel) (r : Result) (i : SlotIx) :
    (s.fireCue c r i).tallies = s.tallies := by
  simp only [State.fireCue]
  all_goals repeat' split
  all_goals simp

@[simp] theorem State.fireCue_pending (s : State) (c : Channel) (r : Result) (i : SlotIx) :
    (s.fireCue c r i).pending = s.pending := by
  simp only [State.fireCue]
  all_goals repeat' split
  all_goals simp

@[simp] theorem State.missCue_timing (s : State) (c : Channel) (i : SlotIx) :
    (s.missCue c i).timing = s.timing := by
  simp only [State.missCue]
  all_goals repeat' split
  all_goals simp

@[simp] theorem State.missCue_free (s : State) (c : Channel) (i : SlotIx) :
    (s.missCue c i).free = s.free := by
  simp only [State.missCue]
  all_goals repeat' split
  all_goals simp

@[simp] theorem State.missCue_gpis (s : State) (c : Channel) (i : SlotIx) :
    (s.missCue c i).gpis = s.gpis := by
  simp only [State.missCue]
  all_goals repeat' split
  all_goals simp

@[simp] theorem State.missCue_tallies (s : State) (c : Channel) (i : SlotIx) :
    (s.missCue c i).tallies = s.tallies := by
  simp only [State.missCue]
  all_goals repeat' split
  all_goals simp

@[simp] theorem State.missCue_pending (s : State) (c : Channel) (i : SlotIx) :
    (s.missCue c i).pending = s.pending := by
  simp only [State.missCue]
  all_goals repeat' split
  all_goals simp

@[simp] theorem State.cancelCue_timing (s : State) (c : Channel) (i : SlotIx) :
    (s.cancelCue c i).timing = s.timing := by
  simp only [State.cancelCue]
  all_goals repeat' split
  all_goals simp

@[simp] theorem State.cancelCue_free (s : State) (c : Channel) (i : SlotIx) :
    (s.cancelCue c i).free = s.free := by
  simp only [State.cancelCue]
  all_goals repeat' split
  all_goals simp

@[simp] theorem State.cancelCue_gpis (s : State) (c : Channel) (i : SlotIx) :
    (s.cancelCue c i).gpis = s.gpis := by
  simp only [State.cancelCue]
  all_goals repeat' split
  all_goals simp

@[simp] theorem State.cancelCue_tallies (s : State) (c : Channel) (i : SlotIx) :
    (s.cancelCue c i).tallies = s.tallies := by
  simp only [State.cancelCue]
  all_goals repeat' split
  all_goals simp

@[simp] theorem State.cancelCue_pending (s : State) (c : Channel) (i : SlotIx) :
    (s.cancelCue c i).pending = s.pending := by
  simp only [State.cancelCue]
  all_goals repeat' split
  all_goals simp

@[simp] theorem State.fireEdge_timing (s : State) (g : GpiIx) (c : Channel) :
    (s.fireEdge g c).timing = s.timing := by
  simp only [State.fireEdge]
  all_goals repeat' split
  all_goals simp

@[simp] theorem State.fireEdge_gpis (s : State) (g : GpiIx) (c : Channel) :
    (s.fireEdge g c).gpis = s.gpis := by
  simp only [State.fireEdge]
  all_goals repeat' split
  all_goals simp

@[simp] theorem State.fireEdge_tallies (s : State) (g : GpiIx) (c : Channel) :
    (s.fireEdge g c).tallies = s.tallies := by
  simp only [State.fireEdge]
  all_goals repeat' split
  all_goals simp

@[simp] theorem State.fireEdge_pending (s : State) (g : GpiIx) (c : Channel) :
    (s.fireEdge g c).pending = s.pending := by
  simp only [State.fireEdge]
  all_goals repeat' split
  all_goals simp

@[simp] theorem State.takeContact_timing (s : State) (c : Channel) :
    (s.takeContact c).timing = s.timing := by
  simp only [State.takeContact]
  all_goals simp

@[simp] theorem State.takeContact_cues (s : State) (c : Channel) :
    (s.takeContact c).cues = s.cues := by
  simp only [State.takeContact]
  all_goals simp

@[simp] theorem State.takeContact_free (s : State) (c : Channel) :
    (s.takeContact c).free = s.free := by
  simp only [State.takeContact]
  all_goals simp

@[simp] theorem State.takeContact_gpis (s : State) (c : Channel) :
    (s.takeContact c).gpis = s.gpis := by
  simp only [State.takeContact]
  all_goals simp

@[simp] theorem State.takeContact_tallies (s : State) (c : Channel) :
    (s.takeContact c).tallies = s.tallies := by
  simp only [State.takeContact]
  all_goals simp

@[simp] theorem State.takeContact_pending (s : State) (c : Channel) :
    (s.takeContact c).pending = s.pending := by
  simp only [State.takeContact]
  all_goals simp

@[simp] theorem State.takeContacts_timing (s : State)  :
    s.takeContacts.timing = s.timing := by
  simp only [State.takeContacts, State.eachChannel_eq]
  all_goals simp

@[simp] theorem State.takeContacts_cues (s : State)  :
    s.takeContacts.cues = s.cues := by
  simp only [State.takeContacts, State.eachChannel_eq]
  all_goals simp

@[simp] theorem State.takeContacts_free (s : State)  :
    s.takeContacts.free = s.free := by
  simp only [State.takeContacts, State.eachChannel_eq]
  all_goals simp

@[simp] theorem State.takeContacts_gpis (s : State)  :
    s.takeContacts.gpis = s.gpis := by
  simp only [State.takeContacts, State.eachChannel_eq]
  all_goals simp

@[simp] theorem State.takeContacts_tallies (s : State)  :
    s.takeContacts.tallies = s.tallies := by
  simp only [State.takeContacts, State.eachChannel_eq]
  all_goals simp

@[simp] theorem State.takeContacts_pending (s : State)  :
    s.takeContacts.pending = s.pending := by
  simp only [State.takeContacts, State.eachChannel_eq]
  all_goals simp

@[simp] theorem State.updateTally_timing (s : State) (t : TallyIx) :
    (s.updateTally t).timing = s.timing := by
  simp only [State.updateTally]
  all_goals simp

@[simp] theorem State.updateTally_cues (s : State) (t : TallyIx) :
    (s.updateTally t).cues = s.cues := by
  simp only [State.updateTally]
  all_goals simp

@[simp] theorem State.updateTally_channels (s : State) (t : TallyIx) :
    (s.updateTally t).channels = s.channels := by
  simp only [State.updateTally]
  all_goals simp

@[simp] theorem State.updateTally_free (s : State) (t : TallyIx) :
    (s.updateTally t).free = s.free := by
  simp only [State.updateTally]
  all_goals simp

@[simp] theorem State.updateTally_gpis (s : State) (t : TallyIx) :
    (s.updateTally t).gpis = s.gpis := by
  simp only [State.updateTally]
  all_goals simp

@[simp] theorem State.updateTally_ports (s : State) (t : TallyIx) :
    (s.updateTally t).ports = s.ports := by
  simp only [State.updateTally]
  all_goals simp

@[simp] theorem State.updateTally_pending (s : State) (t : TallyIx) :
    (s.updateTally t).pending = s.pending := by
  simp only [State.updateTally]
  all_goals simp

@[simp] theorem State.dealPassed_timing (s : State) (c : Channel) (x : Scan) (l : List SlotIx) :
    (s.dealPassed c x l).timing = s.timing := by
  simp only [State.dealPassed]
  repeat' split
  all_goals simp [foldl_keeps (g := State.timing)]

@[simp] theorem State.dealPassed_gpis (s : State) (c : Channel) (x : Scan) (l : List SlotIx) :
    (s.dealPassed c x l).gpis = s.gpis := by
  simp only [State.dealPassed]
  repeat' split
  all_goals simp [foldl_keeps (g := State.gpis)]

@[simp] theorem State.dealPassed_tallies (s : State) (c : Channel) (x : Scan) (l : List SlotIx) :
    (s.dealPassed c x l).tallies = s.tallies := by
  simp only [State.dealPassed]
  repeat' split
  all_goals simp [foldl_keeps (g := State.tallies)]

@[simp] theorem State.dealPassed_pending (s : State) (c : Channel) (x : Scan) (l : List SlotIx) :
    (s.dealPassed c x l).pending = s.pending := by
  simp only [State.dealPassed]
  repeat' split
  all_goals simp [foldl_keeps (g := State.pending)]

@[simp] theorem State.scanCues_timing (s : State) (c : Channel) (r : StepReport) :
    (s.scanCues c r).timing = s.timing := by
  simp only [State.scanCues]
  repeat' split
  all_goals simp [foldl_keeps (g := State.timing)]

@[simp] theorem State.scanCues_gpis (s : State) (c : Channel) (r : StepReport) :
    (s.scanCues c r).gpis = s.gpis := by
  simp only [State.scanCues]
  repeat' split
  all_goals simp [foldl_keeps (g := State.gpis)]

@[simp] theorem State.scanCues_tallies (s : State) (c : Channel) (r : StepReport) :
    (s.scanCues c r).tallies = s.tallies := by
  simp only [State.scanCues]
  repeat' split
  all_goals simp [foldl_keeps (g := State.tallies)]

@[simp] theorem State.scanCues_pending (s : State) (c : Channel) (r : StepReport) :
    (s.scanCues c r).pending = s.pending := by
  simp only [State.scanCues]
  repeat' split
  all_goals simp [foldl_keeps (g := State.pending)]

@[simp] theorem State.scheduleCues_timing (s : State) (c : Channel) (r : StepReport) :
    (s.scheduleCues c r).timing = s.timing := by
  simp only [State.scheduleCues]
  all_goals repeat' split
  all_goals simp

@[simp] theorem State.scheduleCues_gpis (s : State) (c : Channel) (r : StepReport) :
    (s.scheduleCues c r).gpis = s.gpis := by
  simp only [State.scheduleCues]
  all_goals repeat' split
  all_goals simp

@[simp] theorem State.scheduleCues_tallies (s : State) (c : Channel) (r : StepReport) :
    (s.scheduleCues c r).tallies = s.tallies := by
  simp only [State.scheduleCues]
  all_goals repeat' split
  all_goals simp

@[simp] theorem State.scheduleCues_pending (s : State) (c : Channel) (r : StepReport) :
    (s.scheduleCues c r).pending = s.pending := by
  simp only [State.scheduleCues]
  all_goals repeat' split
  all_goals simp

@[simp] theorem State.reportCues_timing (s : State) (c : Channel) :
    (s.reportCues c).timing = s.timing := by
  simp only [State.reportCues]
  all_goals repeat' split
  all_goals simp

@[simp] theorem State.reportCues_gpis (s : State) (c : Channel) :
    (s.reportCues c).gpis = s.gpis := by
  simp only [State.reportCues]
  all_goals repeat' split
  all_goals simp

@[simp] theorem State.reportCues_tallies (s : State) (c : Channel) :
    (s.reportCues c).tallies = s.tallies := by
  simp only [State.reportCues]
  all_goals repeat' split
  all_goals simp

@[simp] theorem State.reportCues_pending (s : State) (c : Channel) :
    (s.reportCues c).pending = s.pending := by
  simp only [State.reportCues]
  all_goals repeat' split
  all_goals simp

@[simp] theorem State.reportSpans_timing (s : State) (c : Channel) :
    (s.reportSpans c).timing = s.timing := by
  simp only [State.reportSpans]
  all_goals repeat' split
  all_goals simp

@[simp] theorem State.reportSpans_cues (s : State) (c : Channel) :
    (s.reportSpans c).cues = s.cues := by
  simp only [State.reportSpans]
  all_goals repeat' split
  all_goals simp

@[simp] theorem State.reportSpans_free (s : State) (c : Channel) :
    (s.reportSpans c).free = s.free := by
  simp only [State.reportSpans]
  all_goals repeat' split
  all_goals simp

@[simp] theorem State.reportSpans_gpis (s : State) (c : Channel) :
    (s.reportSpans c).gpis = s.gpis := by
  simp only [State.reportSpans]
  all_goals repeat' split
  all_goals simp

@[simp] theorem State.reportSpans_tallies (s : State) (c : Channel) :
    (s.reportSpans c).tallies = s.tallies := by
  simp only [State.reportSpans]
  all_goals repeat' split
  all_goals simp

@[simp] theorem State.reportSpans_pending (s : State) (c : Channel) :
    (s.reportSpans c).pending = s.pending := by
  simp only [State.reportSpans]
  all_goals repeat' split
  all_goals simp

@[simp] theorem State.deliverReport_timing (s : State) (c : Channel) (o : ReportOrder) :
    (s.deliverReport c o).timing = s.timing := by
  cases o <;> simp only [State.deliverReport]
  all_goals simp

@[simp] theorem State.deliverReport_gpis (s : State) (c : Channel) (o : ReportOrder) :
    (s.deliverReport c o).gpis = s.gpis := by
  cases o <;> simp only [State.deliverReport]
  all_goals simp

@[simp] theorem State.deliverReport_tallies (s : State) (c : Channel) (o : ReportOrder) :
    (s.deliverReport c o).tallies = s.tallies := by
  cases o <;> simp only [State.deliverReport]
  all_goals simp

@[simp] theorem State.deliverReport_pending (s : State) (c : Channel) (o : ReportOrder) :
    (s.deliverReport c o).pending = s.pending := by
  cases o <;> simp only [State.deliverReport]
  all_goals simp

@[simp] theorem State.reportClock_timing (s : State) (c : Channel) (k : CueClock) (f : FrameKind) :
    (s.reportClock c k f).timing = s.timing := by
  simp only [State.reportClock]
  all_goals repeat' split
  all_goals simp

@[simp] theorem State.reportClock_cues (s : State) (c : Channel) (k : CueClock) (f : FrameKind) :
    (s.reportClock c k f).cues = s.cues := by
  simp only [State.reportClock]
  all_goals repeat' split
  all_goals simp

@[simp] theorem State.reportClock_free (s : State) (c : Channel) (k : CueClock) (f : FrameKind) :
    (s.reportClock c k f).free = s.free := by
  simp only [State.reportClock]
  all_goals repeat' split
  all_goals simp

@[simp] theorem State.reportClock_gpis (s : State) (c : Channel) (k : CueClock) (f : FrameKind) :
    (s.reportClock c k f).gpis = s.gpis := by
  simp only [State.reportClock]
  all_goals repeat' split
  all_goals simp

@[simp] theorem State.reportClock_tallies (s : State) (c : Channel) (k : CueClock) (f : FrameKind) :
    (s.reportClock c k f).tallies = s.tallies := by
  simp only [State.reportClock]
  all_goals repeat' split
  all_goals simp

@[simp] theorem State.reportClock_pending (s : State) (c : Channel) (k : CueClock) (f : FrameKind) :
    (s.reportClock c k f).pending = s.pending := by
  simp only [State.reportClock]
  all_goals repeat' split
  all_goals simp

@[simp] theorem State.updateClock_timing (s : State) (c : Channel) :
    (s.updateClock c).timing = s.timing := by
  simp only [State.updateClock]
  all_goals repeat' split
  all_goals simp

@[simp] theorem State.updateClock_cues (s : State) (c : Channel) :
    (s.updateClock c).cues = s.cues := by
  simp only [State.updateClock]
  all_goals repeat' split
  all_goals simp

@[simp] theorem State.updateClock_free (s : State) (c : Channel) :
    (s.updateClock c).free = s.free := by
  simp only [State.updateClock]
  all_goals repeat' split
  all_goals simp

@[simp] theorem State.updateClock_gpis (s : State) (c : Channel) :
    (s.updateClock c).gpis = s.gpis := by
  simp only [State.updateClock]
  all_goals repeat' split
  all_goals simp

@[simp] theorem State.updateClock_tallies (s : State) (c : Channel) :
    (s.updateClock c).tallies = s.tallies := by
  simp only [State.updateClock]
  all_goals repeat' split
  all_goals simp

@[simp] theorem State.updateClock_pending (s : State) (c : Channel) :
    (s.updateClock c).pending = s.pending := by
  simp only [State.updateClock]
  all_goals repeat' split
  all_goals simp

@[simp] theorem State.fireEdges_timing (s : State) (g : GpiIx) (e : List Channel) :
    (s.fireEdges g e).timing = s.timing := by
  simp only [State.fireEdges]
  repeat' split
  all_goals simp [foldl_keeps (g := State.timing)]

@[simp] theorem State.fireEdges_gpis (s : State) (g : GpiIx) (e : List Channel) :
    (s.fireEdges g e).gpis = s.gpis := by
  simp only [State.fireEdges]
  repeat' split
  all_goals simp [foldl_keeps (g := State.gpis)]

@[simp] theorem State.fireEdges_tallies (s : State) (g : GpiIx) (e : List Channel) :
    (s.fireEdges g e).tallies = s.tallies := by
  simp only [State.fireEdges]
  repeat' split
  all_goals simp [foldl_keeps (g := State.tallies)]

@[simp] theorem State.fireEdges_pending (s : State) (g : GpiIx) (e : List Channel) :
    (s.fireEdges g e).pending = s.pending := by
  simp only [State.fireEdges]
  repeat' split
  all_goals simp [foldl_keeps (g := State.pending)]

@[simp] theorem State.updateTallies_timing (s : State) (c : Channel) :
    (s.updateTallies c).timing = s.timing := by
  simp only [State.updateTallies]
  repeat' split
  all_goals simp [foldl_keeps (g := State.timing)]

@[simp] theorem State.updateTallies_cues (s : State) (c : Channel) :
    (s.updateTallies c).cues = s.cues := by
  simp only [State.updateTallies]
  repeat' split
  all_goals simp [foldl_keeps (g := State.cues)]

@[simp] theorem State.updateTallies_channels (s : State) (c : Channel) :
    (s.updateTallies c).channels = s.channels := by
  simp only [State.updateTallies]
  repeat' split
  all_goals simp [foldl_keeps (g := State.channels)]

@[simp] theorem State.updateTallies_free (s : State) (c : Channel) :
    (s.updateTallies c).free = s.free := by
  simp only [State.updateTallies]
  repeat' split
  all_goals simp [foldl_keeps (g := State.free)]

@[simp] theorem State.updateTallies_gpis (s : State) (c : Channel) :
    (s.updateTallies c).gpis = s.gpis := by
  simp only [State.updateTallies]
  repeat' split
  all_goals simp [foldl_keeps (g := State.gpis)]

@[simp] theorem State.updateTallies_ports (s : State) (c : Channel) :
    (s.updateTallies c).ports = s.ports := by
  simp only [State.updateTallies]
  repeat' split
  all_goals simp [foldl_keeps (g := State.ports)]

@[simp] theorem State.updateTallies_pending (s : State) (c : Channel) :
    (s.updateTallies c).pending = s.pending := by
  simp only [State.updateTallies]
  repeat' split
  all_goals simp [foldl_keeps (g := State.pending)]

@[simp] theorem State.windowPeriod_timing (s : State) (c : Channel) :
    (s.windowPeriod c).timing = s.timing := by
  simp only [State.windowPeriod]
  all_goals simp

@[simp] theorem State.windowPeriod_cues (s : State) (c : Channel) :
    (s.windowPeriod c).cues = s.cues := by
  simp only [State.windowPeriod]
  all_goals simp

@[simp] theorem State.windowPeriod_free (s : State) (c : Channel) :
    (s.windowPeriod c).free = s.free := by
  simp only [State.windowPeriod]
  all_goals simp

@[simp] theorem State.windowPeriod_gpis (s : State) (c : Channel) :
    (s.windowPeriod c).gpis = s.gpis := by
  simp only [State.windowPeriod]
  all_goals simp

@[simp] theorem State.windowPeriod_ports (s : State) (c : Channel) :
    (s.windowPeriod c).ports = s.ports := by
  simp only [State.windowPeriod]
  all_goals simp

@[simp] theorem State.windowPeriod_pending (s : State) (c : Channel) :
    (s.windowPeriod c).pending = s.pending := by
  simp only [State.windowPeriod]
  all_goals simp

@[simp] theorem State.sampleGpi_timing (s : State) (g : GpiIx) (v : Contact) (e : List Channel) :
    (s.sampleGpi g v e).timing = s.timing := by
  simp only [State.sampleGpi]
  all_goals repeat' split
  all_goals simp

@[simp] theorem State.sampleGpi_tallies (s : State) (g : GpiIx) (v : Contact) (e : List Channel) :
    (s.sampleGpi g v e).tallies = s.tallies := by
  simp only [State.sampleGpi]
  all_goals repeat' split
  all_goals simp

@[simp] theorem State.sampleGpi_pending (s : State) (g : GpiIx) (v : Contact) (e : List Channel) :
    (s.sampleGpi g v e).pending = s.pending := by
  simp only [State.sampleGpi]
  all_goals repeat' split
  all_goals simp

@[simp] theorem State.frameTask_timing (s : State) (inputs : Bank 4 (List InputFrame)) (k : FrameTask) :
    (State.frameTask inputs s k).timing = s.timing := by
  cases k <;> simp only [State.frameTask]
  all_goals simp

@[simp] theorem State.frameTask_gpis (s : State) (inputs : Bank 4 (List InputFrame)) (k : FrameTask) :
    (State.frameTask inputs s k).gpis = s.gpis := by
  cases k <;> simp only [State.frameTask]
  all_goals simp

@[simp] theorem State.frameTask_tallies (s : State) (inputs : Bank 4 (List InputFrame)) (k : FrameTask) :
    (State.frameTask inputs s k).tallies = s.tallies := by
  cases k <;> simp only [State.frameTask]
  all_goals simp

@[simp] theorem State.frameTask_pending (s : State) (inputs : Bank 4 (List InputFrame)) (k : FrameTask) :
    (State.frameTask inputs s k).pending = s.pending := by
  cases k <;> simp only [State.frameTask]
  all_goals simp

@[simp] theorem State.periodTask_timing (s : State) (b : Bank 8 Contact) (o : Bool) (k : PeriodTask) :
    (State.periodTask b o s k).timing = s.timing := by
  cases k <;> simp only [State.periodTask]
  all_goals simp

@[simp] theorem State.periodTask_pending (s : State) (b : Bank 8 Contact) (o : Bool) (k : PeriodTask) :
    (State.periodTask b o s k).pending = s.pending := by
  cases k <;> simp only [State.periodTask]
  all_goals simp

end Sys2Proof.Machine
end

