-- ==== Sys2Proof/Laws/Channels.lean ====
section
/-! SUPPORT. Frames of the shared operations over the channels: each leaves the other channels alone, and
of its own channel the parts it does not name. -/

namespace Sys2Proof.Machine

open Sys2Proof

/-- A fold whose steps all leave a channel alone leaves it alone. -/
theorem foldl_chan {α : Type} (f : State → α → State) (d : Channel)
    (h : ∀ s a, (f s a).chan d = s.chan d) (l : List α) (s : State) :
    (l.foldl f s).chan d = s.chan d := foldl_keeps f (State.chan · d) h l s

@[simp] theorem State.post_chan (s : State) (p : PortId) (l : Latch) (ch : Channel) :
    (s.post p l).chan ch = s.chan ch := by
  simp only [State.chan, State.post_channels]

@[simp] theorem State.postAll_chan (s : State) (l : Latch) (ch : Channel) :
    (s.postAll l).chan ch = s.chan ch := by
  simp only [State.chan, State.postAll_channels]

@[simp] theorem State.clearLatches_chan (s : State) (c : Channel) (ch : Channel) :
    (s.clearLatches c).chan ch = s.chan ch := by
  simp only [State.chan, State.clearLatches_channels]

@[simp] theorem State.queueReply_chan (s : State) (p : PortId) (r : Reply) (ch : Channel) :
    (s.queueReply p r).chan ch = s.chan ch := by
  simp only [State.chan, State.queueReply_channels]

@[simp] theorem State.setReceiver_chan (s : State) (p : PortId) (r : Receiver) (ch : Channel) :
    (s.setReceiver p r).chan ch = s.chan ch := by
  simp only [State.chan, State.setReceiver_channels]

@[simp] theorem State.abandon_chan (s : State) (p : PortId) (r : Receiver) (ch : Channel) :
    (s.abandon p r).chan ch = s.chan ch := by
  simp only [State.chan, State.abandon_channels]

@[simp] theorem State.addOutcome_chan_ne (s : State) (c : Channel) (h : Handle) (a : Action) (o : PortId) (r : Result) {ch : Channel} (hne : ch ≠ c) :
    (s.addOutcome c h a o r).chan ch = s.chan ch := by
  simp only [State.addOutcome]
  all_goals simp [hne, State.modChan_chan_ne]

@[simp] theorem State.addOutcome_chan_clock (s : State) (c : Channel) (h : Handle) (a : Action) (o : PortId) (r : Result) (ch : Channel) :
    ((s.addOutcome c h a o r).chan ch).clock = (s.chan ch).clock := by
  simp only [State.addOutcome]
  all_goals simp [State.modChan_chan]
  all_goals repeat' split
  all_goals simp_all

@[simp] theorem State.addOutcome_chan_report (s : State) (c : Channel) (h : Handle) (a : Action) (o : PortId) (r : Result) (ch : Channel) :
    ((s.addOutcome c h a o r).chan ch).report = (s.chan ch).report := by
  simp only [State.addOutcome]
  all_goals simp [State.modChan_chan]
  all_goals repeat' split
  all_goals simp_all

@[simp] theorem State.addOutcome_chan_window (s : State) (c : Channel) (h : Handle) (a : Action) (o : PortId) (r : Result) (ch : Channel) :
    ((s.addOutcome c h a o r).chan ch).window = (s.chan ch).window := by
  simp only [State.addOutcome]
  all_goals simp [State.modChan_chan]
  all_goals repeat' split
  all_goals simp_all

@[simp] theorem State.addOutcome_chan_presets (s : State) (c : Channel) (h : Handle) (a : Action) (o : PortId) (r : Result) (ch : Channel) :
    ((s.addOutcome c h a o r).chan ch).presets = (s.chan ch).presets := by
  simp only [State.addOutcome]
  all_goals simp [State.modChan_chan]
  all_goals repeat' split
  all_goals simp_all

@[simp] theorem State.addOutcome_chan_sync (s : State) (c : Channel) (h : Handle) (a : Action) (o : PortId) (r : Result) (ch : Channel) :
    ((s.addOutcome c h a o r).chan ch).sync = (s.chan ch).sync := by
  simp only [State.addOutcome]
  all_goals simp [State.modChan_chan]
  all_goals repeat' split
  all_goals simp_all

@[simp] theorem State.addOutcome_chan_delay (s : State) (c : Channel) (h : Handle) (a : Action) (o : PortId) (r : Result) (ch : Channel) :
    ((s.addOutcome c h a o r).chan ch).delay = (s.chan ch).delay := by
  simp only [State.addOutcome]
  all_goals simp [State.modChan_chan]
  all_goals repeat' split
  all_goals simp_all

@[simp] theorem State.addOutcome_chan_calibration (s : State) (c : Channel) (h : Handle) (a : Action) (o : PortId) (r : Result) (ch : Channel) :
    ((s.addOutcome c h a o r).chan ch).calibration = (s.chan ch).calibration := by
  simp only [State.addOutcome]
  all_goals simp [State.modChan_chan]
  all_goals repeat' split
  all_goals simp_all

@[simp] theorem State.addOutcome_chan_latches (s : State) (c : Channel) (h : Handle) (a : Action) (o : PortId) (r : Result) (ch : Channel) :
    ((s.addOutcome c h a o r).chan ch).latches = (s.chan ch).latches := by
  simp only [State.addOutcome]
  all_goals simp [State.modChan_chan]
  all_goals repeat' split
  all_goals simp_all

@[simp] theorem State.setMember_chan_ne (s : State) (c : Channel) (m : Member) (b : Bool) {ch : Channel} (hne : ch ≠ c) :
    (s.setMember c m b).chan ch = s.chan ch := by
  simp only [State.setMember]
  all_goals repeat' split
  all_goals simp [hne, State.modChan_chan_ne]

@[simp] theorem State.setMember_chan_clock (s : State) (c : Channel) (m : Member) (b : Bool) (ch : Channel) :
    ((s.setMember c m b).chan ch).clock = (s.chan ch).clock := by
  simp only [State.setMember]
  all_goals repeat' split
  all_goals simp [State.modChan_chan]
  all_goals repeat' split
  all_goals simp_all

@[simp] theorem State.setMember_chan_report (s : State) (c : Channel) (m : Member) (b : Bool) (ch : Channel) :
    ((s.setMember c m b).chan ch).report = (s.chan ch).report := by
  simp only [State.setMember]
  all_goals repeat' split
  all_goals simp [State.modChan_chan]
  all_goals repeat' split
  all_goals simp_all

@[simp] theorem State.setMember_chan_scheduler (s : State) (c : Channel) (m : Member) (b : Bool) (ch : Channel) :
    ((s.setMember c m b).chan ch).scheduler = (s.chan ch).scheduler := by
  simp only [State.setMember]
  all_goals repeat' split
  all_goals simp [State.modChan_chan]
  all_goals repeat' split
  all_goals simp_all

@[simp] theorem State.setMember_chan_presets (s : State) (c : Channel) (m : Member) (b : Bool) (ch : Channel) :
    ((s.setMember c m b).chan ch).presets = (s.chan ch).presets := by
  simp only [State.setMember]
  all_goals repeat' split
  all_goals simp [State.modChan_chan]
  all_goals repeat' split
  all_goals simp_all

@[simp] theorem State.setMember_chan_sync (s : State) (c : Channel) (m : Member) (b : Bool) (ch : Channel) :
    ((s.setMember c m b).chan ch).sync = (s.chan ch).sync := by
  simp only [State.setMember]
  all_goals repeat' split
  all_goals simp [State.modChan_chan]
  all_goals repeat' split
  all_goals simp_all

@[simp] theorem State.setMember_chan_delay (s : State) (c : Channel) (m : Member) (b : Bool) (ch : Channel) :
    ((s.setMember c m b).chan ch).delay = (s.chan ch).delay := by
  simp only [State.setMember]
  all_goals repeat' split
  all_goals simp [State.modChan_chan]
  all_goals repeat' split
  all_goals simp_all

@[simp] theorem State.setMember_chan_calibration (s : State) (c : Channel) (m : Member) (b : Bool) (ch : Channel) :
    ((s.setMember c m b).chan ch).calibration = (s.chan ch).calibration := by
  simp only [State.setMember]
  all_goals repeat' split
  all_goals simp [State.modChan_chan]
  all_goals repeat' split
  all_goals simp_all

@[simp] theorem State.setMember_chan_latches (s : State) (c : Channel) (m : Member) (b : Bool) (ch : Channel) :
    ((s.setMember c m b).chan ch).latches = (s.chan ch).latches := by
  simp only [State.setMember]
  all_goals repeat' split
  all_goals simp [State.modChan_chan]
  all_goals repeat' split
  all_goals simp_all

@[simp] theorem State.request_chan_ne (s : State) (c : Channel) (b : Bool) (d : Nat) {ch : Channel} (hne : ch ≠ c) :
    (s.request c b d).chan ch = s.chan ch := by
  simp only [State.request]
  all_goals simp [hne, State.modChan_chan_ne]

@[simp] theorem State.request_chan_clock (s : State) (c : Channel) (b : Bool) (d : Nat) (ch : Channel) :
    ((s.request c b d).chan ch).clock = (s.chan ch).clock := by
  simp only [State.request]
  all_goals simp [State.modChan_chan]
  all_goals repeat' split
  all_goals simp_all

@[simp] theorem State.request_chan_report (s : State) (c : Channel) (b : Bool) (d : Nat) (ch : Channel) :
    ((s.request c b d).chan ch).report = (s.chan ch).report := by
  simp only [State.request]
  all_goals simp [State.modChan_chan]
  all_goals repeat' split
  all_goals simp_all

@[simp] theorem State.request_chan_scheduler (s : State) (c : Channel) (b : Bool) (d : Nat) (ch : Channel) :
    ((s.request c b d).chan ch).scheduler = (s.chan ch).scheduler := by
  simp only [State.request]
  all_goals simp [State.modChan_chan]
  all_goals repeat' split
  all_goals simp_all

@[simp] theorem State.request_chan_presets (s : State) (c : Channel) (b : Bool) (d : Nat) (ch : Channel) :
    ((s.request c b d).chan ch).presets = (s.chan ch).presets := by
  simp only [State.request]
  all_goals simp [State.modChan_chan]
  all_goals repeat' split
  all_goals simp_all

@[simp] theorem State.request_chan_sync (s : State) (c : Channel) (b : Bool) (d : Nat) (ch : Channel) :
    ((s.request c b d).chan ch).sync = (s.chan ch).sync := by
  simp only [State.request]
  all_goals simp [State.modChan_chan]
  all_goals repeat' split
  all_goals simp_all

@[simp] theorem State.request_chan_delay (s : State) (c : Channel) (b : Bool) (d : Nat) (ch : Channel) :
    ((s.request c b d).chan ch).delay = (s.chan ch).delay := by
  simp only [State.request]
  all_goals simp [State.modChan_chan]
  all_goals repeat' split
  all_goals simp_all

@[simp] theorem State.request_chan_calibration (s : State) (c : Channel) (b : Bool) (d : Nat) (ch : Channel) :
    ((s.request c b d).chan ch).calibration = (s.chan ch).calibration := by
  simp only [State.request]
  all_goals simp [State.modChan_chan]
  all_goals repeat' split
  all_goals simp_all

@[simp] theorem State.request_chan_latches (s : State) (c : Channel) (b : Bool) (d : Nat) (ch : Channel) :
    ((s.request c b d).chan ch).latches = (s.chan ch).latches := by
  simp only [State.request]
  all_goals simp [State.modChan_chan]
  all_goals repeat' split
  all_goals simp_all

@[simp] theorem State.takeLayout_chan_ne (s : State) (c : Channel) (p : PresetIx) (d : Nat) (h : Option (Handle × PortId)) {ch : Channel} (hne : ch ≠ c) :
    (s.takeLayout c p d h).chan ch = s.chan ch := by
  simp only [State.takeLayout]
  all_goals repeat' split
  all_goals simp [hne, State.modChan_chan_ne]

@[simp] theorem State.takeLayout_chan_clock (s : State) (c : Channel) (p : PresetIx) (d : Nat) (h : Option (Handle × PortId)) (ch : Channel) :
    ((s.takeLayout c p d h).chan ch).clock = (s.chan ch).clock := by
  simp only [State.takeLayout]
  all_goals repeat' split
  all_goals simp [State.modChan_chan]
  all_goals repeat' split
  all_goals simp_all

@[simp] theorem State.takeLayout_chan_report (s : State) (c : Channel) (p : PresetIx) (d : Nat) (h : Option (Handle × PortId)) (ch : Channel) :
    ((s.takeLayout c p d h).chan ch).report = (s.chan ch).report := by
  simp only [State.takeLayout]
  all_goals repeat' split
  all_goals simp [State.modChan_chan]
  all_goals repeat' split
  all_goals simp_all

@[simp] theorem State.takeLayout_chan_presets (s : State) (c : Channel) (p : PresetIx) (d : Nat) (h : Option (Handle × PortId)) (ch : Channel) :
    ((s.takeLayout c p d h).chan ch).presets = (s.chan ch).presets := by
  simp only [State.takeLayout]
  all_goals repeat' split
  all_goals simp [State.modChan_chan]
  all_goals repeat' split
  all_goals simp_all

@[simp] theorem State.takeLayout_chan_sync (s : State) (c : Channel) (p : PresetIx) (d : Nat) (h : Option (Handle × PortId)) (ch : Channel) :
    ((s.takeLayout c p d h).chan ch).sync = (s.chan ch).sync := by
  simp only [State.takeLayout]
  all_goals repeat' split
  all_goals simp [State.modChan_chan]
  all_goals repeat' split
  all_goals simp_all

@[simp] theorem State.takeLayout_chan_delay (s : State) (c : Channel) (p : PresetIx) (d : Nat) (h : Option (Handle × PortId)) (ch : Channel) :
    ((s.takeLayout c p d h).chan ch).delay = (s.chan ch).delay := by
  simp only [State.takeLayout]
  all_goals repeat' split
  all_goals simp [State.modChan_chan]
  all_goals repeat' split
  all_goals simp_all

@[simp] theorem State.takeLayout_chan_calibration (s : State) (c : Channel) (p : PresetIx) (d : Nat) (h : Option (Handle × PortId)) (ch : Channel) :
    ((s.takeLayout c p d h).chan ch).calibration = (s.chan ch).calibration := by
  simp only [State.takeLayout]
  all_goals repeat' split
  all_goals simp [State.modChan_chan]
  all_goals repeat' split
  all_goals simp_all

@[simp] theorem State.takeLayout_chan_latches (s : State) (c : Channel) (p : PresetIx) (d : Nat) (h : Option (Handle × PortId)) (ch : Channel) :
    ((s.takeLayout c p d h).chan ch).latches = (s.chan ch).latches := by
  simp only [State.takeLayout]
  all_goals repeat' split
  all_goals simp [State.modChan_chan]
  all_goals repeat' split
  all_goals simp_all

@[simp] theorem State.windowIn_chan_ne (s : State) (c : Channel) (d : Nat) (p : Option PresetIx) {ch : Channel} (hne : ch ≠ c) :
    (s.windowIn c d p).chan ch = s.chan ch := by
  simp only [State.windowIn]
  all_goals repeat' split
  all_goals simp [hne, State.modChan_chan_ne]

@[simp] theorem State.windowIn_chan_clock (s : State) (c : Channel) (d : Nat) (p : Option PresetIx) (ch : Channel) :
    ((s.windowIn c d p).chan ch).clock = (s.chan ch).clock := by
  simp only [State.windowIn]
  all_goals repeat' split
  all_goals simp [State.modChan_chan]

@[simp] theorem State.windowIn_chan_report (s : State) (c : Channel) (d : Nat) (p : Option PresetIx) (ch : Channel) :
    ((s.windowIn c d p).chan ch).report = (s.chan ch).report := by
  simp only [State.windowIn]
  all_goals repeat' split
  all_goals simp [State.modChan_chan]

@[simp] theorem State.windowIn_chan_presets (s : State) (c : Channel) (d : Nat) (p : Option PresetIx) (ch : Channel) :
    ((s.windowIn c d p).chan ch).presets = (s.chan ch).presets := by
  simp only [State.windowIn]
  all_goals repeat' split
  all_goals simp [State.modChan_chan]

@[simp] theorem State.windowIn_chan_sync (s : State) (c : Channel) (d : Nat) (p : Option PresetIx) (ch : Channel) :
    ((s.windowIn c d p).chan ch).sync = (s.chan ch).sync := by
  simp only [State.windowIn]
  all_goals repeat' split
  all_goals simp [State.modChan_chan]

@[simp] theorem State.windowIn_chan_delay (s : State) (c : Channel) (d : Nat) (p : Option PresetIx) (ch : Channel) :
    ((s.windowIn c d p).chan ch).delay = (s.chan ch).delay := by
  simp only [State.windowIn]
  all_goals repeat' split
  all_goals simp [State.modChan_chan]

@[simp] theorem State.windowIn_chan_calibration (s : State) (c : Channel) (d : Nat) (p : Option PresetIx) (ch : Channel) :
    ((s.windowIn c d p).chan ch).calibration = (s.chan ch).calibration := by
  simp only [State.windowIn]
  all_goals repeat' split
  all_goals simp [State.modChan_chan]

@[simp] theorem State.windowIn_chan_latches (s : State) (c : Channel) (d : Nat) (p : Option PresetIx) (ch : Channel) :
    ((s.windowIn c d p).chan ch).latches = (s.chan ch).latches := by
  simp only [State.windowIn]
  all_goals repeat' split
  all_goals simp [State.modChan_chan]

@[simp] theorem State.windowOut_chan_ne (s : State) (c : Channel) (d : Nat) {ch : Channel} (hne : ch ≠ c) :
    (s.windowOut c d).chan ch = s.chan ch := by
  simp only [State.windowOut]
  all_goals simp [hne, State.modChan_chan_ne]

@[simp] theorem State.windowOut_chan_clock (s : State) (c : Channel) (d : Nat) (ch : Channel) :
    ((s.windowOut c d).chan ch).clock = (s.chan ch).clock := by
  simp only [State.windowOut]
  all_goals simp [State.modChan_chan]

@[simp] theorem State.windowOut_chan_report (s : State) (c : Channel) (d : Nat) (ch : Channel) :
    ((s.windowOut c d).chan ch).report = (s.chan ch).report := by
  simp only [State.windowOut]
  all_goals simp [State.modChan_chan]

@[simp] theorem State.windowOut_chan_scheduler (s : State) (c : Channel) (d : Nat) (ch : Channel) :
    ((s.windowOut c d).chan ch).scheduler = (s.chan ch).scheduler := by
  simp only [State.windowOut]
  all_goals simp [State.modChan_chan]

@[simp] theorem State.windowOut_chan_presets (s : State) (c : Channel) (d : Nat) (ch : Channel) :
    ((s.windowOut c d).chan ch).presets = (s.chan ch).presets := by
  simp only [State.windowOut]
  all_goals simp [State.modChan_chan]

@[simp] theorem State.windowOut_chan_sync (s : State) (c : Channel) (d : Nat) (ch : Channel) :
    ((s.windowOut c d).chan ch).sync = (s.chan ch).sync := by
  simp only [State.windowOut]
  all_goals simp [State.modChan_chan]

@[simp] theorem State.windowOut_chan_delay (s : State) (c : Channel) (d : Nat) (ch : Channel) :
    ((s.windowOut c d).chan ch).delay = (s.chan ch).delay := by
  simp only [State.windowOut]
  all_goals simp [State.modChan_chan]

@[simp] theorem State.windowOut_chan_calibration (s : State) (c : Channel) (d : Nat) (ch : Channel) :
    ((s.windowOut c d).chan ch).calibration = (s.chan ch).calibration := by
  simp only [State.windowOut]
  all_goals simp [State.modChan_chan]

@[simp] theorem State.windowOut_chan_latches (s : State) (c : Channel) (d : Nat) (ch : Channel) :
    ((s.windowOut c d).chan ch).latches = (s.chan ch).latches := by
  simp only [State.windowOut]
  all_goals simp [State.modChan_chan]

@[simp] theorem State.suppressChannel_chan_ne (s : State) (p : PortId) (a : Nat) (c : Channel) {ch : Channel} (hne : ch ≠ c) :
    (s.suppressChannel p a c).chan ch = s.chan ch := by
  simp only [State.suppressChannel]
  all_goals repeat' split
  all_goals simp [hne, State.modChan_chan_ne]

@[simp] theorem State.suppressChannel_chan_clock (s : State) (p : PortId) (a : Nat) (c : Channel) (ch : Channel) :
    ((s.suppressChannel p a c).chan ch).clock = (s.chan ch).clock := by
  simp only [State.suppressChannel]
  all_goals repeat' split
  all_goals simp [State.modChan_chan]

@[simp] theorem State.suppressChannel_chan_report (s : State) (p : PortId) (a : Nat) (c : Channel) (ch : Channel) :
    ((s.suppressChannel p a c).chan ch).report = (s.chan ch).report := by
  simp only [State.suppressChannel]
  all_goals repeat' split
  all_goals simp [State.modChan_chan]

@[simp] theorem State.suppressChannel_chan_scheduler (s : State) (p : PortId) (a : Nat) (c : Channel) (ch : Channel) :
    ((s.suppressChannel p a c).chan ch).scheduler = (s.chan ch).scheduler := by
  simp only [State.suppressChannel]
  all_goals repeat' split
  all_goals simp [State.modChan_chan]

@[simp] theorem State.suppressChannel_chan_presets (s : State) (p : PortId) (a : Nat) (c : Channel) (ch : Channel) :
    ((s.suppressChannel p a c).chan ch).presets = (s.chan ch).presets := by
  simp only [State.suppressChannel]
  all_goals repeat' split
  all_goals simp [State.modChan_chan]

@[simp] theorem State.suppressChannel_chan_sync (s : State) (p : PortId) (a : Nat) (c : Channel) (ch : Channel) :
    ((s.suppressChannel p a c).chan ch).sync = (s.chan ch).sync := by
  simp only [State.suppressChannel]
  all_goals repeat' split
  all_goals simp [State.modChan_chan]

@[simp] theorem State.suppressChannel_chan_delay (s : State) (p : PortId) (a : Nat) (c : Channel) (ch : Channel) :
    ((s.suppressChannel p a c).chan ch).delay = (s.chan ch).delay := by
  simp only [State.suppressChannel]
  all_goals repeat' split
  all_goals simp [State.modChan_chan]

@[simp] theorem State.suppressChannel_chan_calibration (s : State) (p : PortId) (a : Nat) (c : Channel) (ch : Channel) :
    ((s.suppressChannel p a c).chan ch).calibration = (s.chan ch).calibration := by
  simp only [State.suppressChannel]
  all_goals repeat' split
  all_goals simp [State.modChan_chan]

@[simp] theorem State.suppressChannel_chan_latches (s : State) (p : PortId) (a : Nat) (c : Channel) (ch : Channel) :
    ((s.suppressChannel p a c).chan ch).latches = (s.chan ch).latches := by
  simp only [State.suppressChannel]
  all_goals repeat' split
  all_goals simp [State.modChan_chan]

@[simp] theorem State.setSpanResult_chan_ne (s : State) (c : Channel) (b : Bool) {ch : Channel} (hne : ch ≠ c) :
    (s.setSpanResult c b).chan ch = s.chan ch := by
  simp only [State.setSpanResult]
  all_goals simp [hne, State.modChan_chan_ne]

@[simp] theorem State.setSpanResult_chan_clock (s : State) (c : Channel) (b : Bool) (ch : Channel) :
    ((s.setSpanResult c b).chan ch).clock = (s.chan ch).clock := by
  simp only [State.setSpanResult]
  all_goals simp [State.modChan_chan]
  all_goals repeat' split
  all_goals simp_all

@[simp] theorem State.setSpanResult_chan_report (s : State) (c : Channel) (b : Bool) (ch : Channel) :
    ((s.setSpanResult c b).chan ch).report = (s.chan ch).report := by
  simp only [State.setSpanResult]
  all_goals simp [State.modChan_chan]
  all_goals repeat' split
  all_goals simp_all

@[simp] theorem State.setSpanResult_chan_scheduler (s : State) (c : Channel) (b : Bool) (ch : Channel) :
    ((s.setSpanResult c b).chan ch).scheduler = (s.chan ch).scheduler := by
  simp only [State.setSpanResult]
  all_goals simp [State.modChan_chan]
  all_goals repeat' split
  all_goals simp_all

@[simp] theorem State.setSpanResult_chan_presets (s : State) (c : Channel) (b : Bool) (ch : Channel) :
    ((s.setSpanResult c b).chan ch).presets = (s.chan ch).presets := by
  simp only [State.setSpanResult]
  all_goals simp [State.modChan_chan]
  all_goals repeat' split
  all_goals simp_all

@[simp] theorem State.setSpanResult_chan_sync (s : State) (c : Channel) (b : Bool) (ch : Channel) :
    ((s.setSpanResult c b).chan ch).sync = (s.chan ch).sync := by
  simp only [State.setSpanResult]
  all_goals simp [State.modChan_chan]
  all_goals repeat' split
  all_goals simp_all

@[simp] theorem State.setSpanResult_chan_delay (s : State) (c : Channel) (b : Bool) (ch : Channel) :
    ((s.setSpanResult c b).chan ch).delay = (s.chan ch).delay := by
  simp only [State.setSpanResult]
  all_goals simp [State.modChan_chan]
  all_goals repeat' split
  all_goals simp_all

@[simp] theorem State.setSpanResult_chan_calibration (s : State) (c : Channel) (b : Bool) (ch : Channel) :
    ((s.setSpanResult c b).chan ch).calibration = (s.chan ch).calibration := by
  simp only [State.setSpanResult]
  all_goals simp [State.modChan_chan]
  all_goals repeat' split
  all_goals simp_all

@[simp] theorem State.setSpanResult_chan_latches (s : State) (c : Channel) (b : Bool) (ch : Channel) :
    ((s.setSpanResult c b).chan ch).latches = (s.chan ch).latches := by
  simp only [State.setSpanResult]
  all_goals simp [State.modChan_chan]
  all_goals repeat' split
  all_goals simp_all

@[simp] theorem State.matchSpans_chan_ne (s : State) (c : Channel) (r : StepReport) {ch : Channel} (hne : ch ≠ c) :
    (s.matchSpans c r).chan ch = s.chan ch := by
  simp only [State.matchSpans]
  all_goals repeat' split
  all_goals simp [hne, State.modChan_chan_ne]

@[simp] theorem State.matchSpans_chan_clock (s : State) (c : Channel) (r : StepReport) (ch : Channel) :
    ((s.matchSpans c r).chan ch).clock = (s.chan ch).clock := by
  simp only [State.matchSpans]
  all_goals repeat' split
  all_goals simp [State.modChan_chan]

@[simp] theorem State.matchSpans_chan_report (s : State) (c : Channel) (r : StepReport) (ch : Channel) :
    ((s.matchSpans c r).chan ch).report = (s.chan ch).report := by
  simp only [State.matchSpans]
  all_goals repeat' split
  all_goals simp [State.modChan_chan]

@[simp] theorem State.matchSpans_chan_scheduler (s : State) (c : Channel) (r : StepReport) (ch : Channel) :
    ((s.matchSpans c r).chan ch).scheduler = (s.chan ch).scheduler := by
  simp only [State.matchSpans]
  all_goals repeat' split
  all_goals simp [State.modChan_chan]

@[simp] theorem State.matchSpans_chan_presets (s : State) (c : Channel) (r : StepReport) (ch : Channel) :
    ((s.matchSpans c r).chan ch).presets = (s.chan ch).presets := by
  simp only [State.matchSpans]
  all_goals repeat' split
  all_goals simp [State.modChan_chan]

@[simp] theorem State.matchSpans_chan_sync (s : State) (c : Channel) (r : StepReport) (ch : Channel) :
    ((s.matchSpans c r).chan ch).sync = (s.chan ch).sync := by
  simp only [State.matchSpans]
  all_goals repeat' split
  all_goals simp [State.modChan_chan]

@[simp] theorem State.matchSpans_chan_delay (s : State) (c : Channel) (r : StepReport) (ch : Channel) :
    ((s.matchSpans c r).chan ch).delay = (s.chan ch).delay := by
  simp only [State.matchSpans]
  all_goals repeat' split
  all_goals simp [State.modChan_chan]

@[simp] theorem State.matchSpans_chan_calibration (s : State) (c : Channel) (r : StepReport) (ch : Channel) :
    ((s.matchSpans c r).chan ch).calibration = (s.chan ch).calibration := by
  simp only [State.matchSpans]
  all_goals repeat' split
  all_goals simp [State.modChan_chan]

@[simp] theorem State.matchSpans_chan_latches (s : State) (c : Channel) (r : StepReport) (ch : Channel) :
    ((s.matchSpans c r).chan ch).latches = (s.chan ch).latches := by
  simp only [State.matchSpans]
  all_goals repeat' split
  all_goals simp [State.modChan_chan]

@[simp] theorem State.respan_chan_ne (s : State) (c : Channel) {ch : Channel} (hne : ch ≠ c) :
    (s.respan c).chan ch = s.chan ch := by
  simp only [State.respan]
  all_goals repeat' split
  all_goals simp [hne, State.modChan_chan_ne]

@[simp] theorem State.respan_chan_clock (s : State) (c : Channel) (ch : Channel) :
    ((s.respan c).chan ch).clock = (s.chan ch).clock := by
  simp only [State.respan]
  all_goals repeat' split
  all_goals simp [State.modChan_chan]

@[simp] theorem State.respan_chan_report (s : State) (c : Channel) (ch : Channel) :
    ((s.respan c).chan ch).report = (s.chan ch).report := by
  simp only [State.respan]
  all_goals repeat' split
  all_goals simp [State.modChan_chan]

@[simp] theorem State.respan_chan_scheduler (s : State) (c : Channel) (ch : Channel) :
    ((s.respan c).chan ch).scheduler = (s.chan ch).scheduler := by
  simp only [State.respan]
  all_goals repeat' split
  all_goals simp [State.modChan_chan]

@[simp] theorem State.respan_chan_presets (s : State) (c : Channel) (ch : Channel) :
    ((s.respan c).chan ch).presets = (s.chan ch).presets := by
  simp only [State.respan]
  all_goals repeat' split
  all_goals simp [State.modChan_chan]

@[simp] theorem State.respan_chan_sync (s : State) (c : Channel) (ch : Channel) :
    ((s.respan c).chan ch).sync = (s.chan ch).sync := by
  simp only [State.respan]
  all_goals repeat' split
  all_goals simp [State.modChan_chan]

@[simp] theorem State.respan_chan_delay (s : State) (c : Channel) (ch : Channel) :
    ((s.respan c).chan ch).delay = (s.chan ch).delay := by
  simp only [State.respan]
  all_goals repeat' split
  all_goals simp [State.modChan_chan]

@[simp] theorem State.respan_chan_calibration (s : State) (c : Channel) (ch : Channel) :
    ((s.respan c).chan ch).calibration = (s.chan ch).calibration := by
  simp only [State.respan]
  all_goals repeat' split
  all_goals simp [State.modChan_chan]

@[simp] theorem State.respan_chan_latches (s : State) (c : Channel) (ch : Channel) :
    ((s.respan c).chan ch).latches = (s.chan ch).latches := by
  simp only [State.respan]
  all_goals repeat' split
  all_goals simp [State.modChan_chan]

@[simp] theorem State.targetEvent_chan_ne (s : State) (c : Channel) {ch : Channel} (hne : ch ≠ c) :
    (s.targetEvent c).chan ch = s.chan ch := by
  simp only [State.targetEvent]
  all_goals repeat' split
  all_goals simp [hne, State.modChan_chan_ne]

@[simp] theorem State.targetEvent_chan_clock (s : State) (c : Channel) (ch : Channel) :
    ((s.targetEvent c).chan ch).clock = (s.chan ch).clock := by
  simp only [State.targetEvent]
  all_goals repeat' split
  all_goals simp [State.modChan_chan]
  all_goals repeat' split
  all_goals simp_all

@[simp] theorem State.targetEvent_chan_report (s : State) (c : Channel) (ch : Channel) :
    ((s.targetEvent c).chan ch).report = (s.chan ch).report := by
  simp only [State.targetEvent]
  all_goals repeat' split
  all_goals simp [State.modChan_chan]
  all_goals repeat' split
  all_goals simp_all

@[simp] theorem State.targetEvent_chan_scheduler (s : State) (c : Channel) (ch : Channel) :
    ((s.targetEvent c).chan ch).scheduler = (s.chan ch).scheduler := by
  simp only [State.targetEvent]
  all_goals repeat' split
  all_goals simp [State.modChan_chan]
  all_goals repeat' split
  all_goals simp_all

@[simp] theorem State.targetEvent_chan_window (s : State) (c : Channel) (ch : Channel) :
    ((s.targetEvent c).chan ch).window = (s.chan ch).window := by
  simp only [State.targetEvent]
  all_goals repeat' split
  all_goals simp [State.modChan_chan]
  all_goals repeat' split
  all_goals simp_all

@[simp] theorem State.targetEvent_chan_presets (s : State) (c : Channel) (ch : Channel) :
    ((s.targetEvent c).chan ch).presets = (s.chan ch).presets := by
  simp only [State.targetEvent]
  all_goals repeat' split
  all_goals simp [State.modChan_chan]
  all_goals repeat' split
  all_goals simp_all

@[simp] theorem State.targetEvent_chan_sync (s : State) (c : Channel) (ch : Channel) :
    ((s.targetEvent c).chan ch).sync = (s.chan ch).sync := by
  simp only [State.targetEvent]
  all_goals repeat' split
  all_goals simp [State.modChan_chan]
  all_goals repeat' split
  all_goals simp_all

@[simp] theorem State.targetEvent_chan_calibration (s : State) (c : Channel) (ch : Channel) :
    ((s.targetEvent c).chan ch).calibration = (s.chan ch).calibration := by
  simp only [State.targetEvent]
  all_goals repeat' split
  all_goals simp [State.modChan_chan]
  all_goals repeat' split
  all_goals simp_all

@[simp] theorem State.targetEvent_chan_latches (s : State) (c : Channel) (ch : Channel) :
    ((s.targetEvent c).chan ch).latches = (s.chan ch).latches := by
  simp only [State.targetEvent]
  all_goals repeat' split
  all_goals simp [State.modChan_chan]
  all_goals repeat' split
  all_goals simp_all

@[simp] theorem State.setLag_chan_ne (s : State) (c : Channel) (n : Nat) {ch : Channel} (hne : ch ≠ c) :
    (s.setLag c n).chan ch = s.chan ch := by
  simp only [State.setLag]
  all_goals simp [hne, State.modChan_chan_ne]

@[simp] theorem State.setLag_chan_clock (s : State) (c : Channel) (n : Nat) (ch : Channel) :
    ((s.setLag c n).chan ch).clock = (s.chan ch).clock := by
  simp only [State.setLag]
  all_goals simp [State.modChan_chan]
  all_goals repeat' split
  all_goals simp_all

@[simp] theorem State.setLag_chan_report (s : State) (c : Channel) (n : Nat) (ch : Channel) :
    ((s.setLag c n).chan ch).report = (s.chan ch).report := by
  simp only [State.setLag]
  all_goals simp [State.modChan_chan]
  all_goals repeat' split
  all_goals simp_all

@[simp] theorem State.setLag_chan_scheduler (s : State) (c : Channel) (n : Nat) (ch : Channel) :
    ((s.setLag c n).chan ch).scheduler = (s.chan ch).scheduler := by
  simp only [State.setLag]
  all_goals simp [State.modChan_chan]
  all_goals repeat' split
  all_goals simp_all

@[simp] theorem State.setLag_chan_window (s : State) (c : Channel) (n : Nat) (ch : Channel) :
    ((s.setLag c n).chan ch).window = (s.chan ch).window := by
  simp only [State.setLag]
  all_goals simp [State.modChan_chan]
  all_goals repeat' split
  all_goals simp_all

@[simp] theorem State.setLag_chan_presets (s : State) (c : Channel) (n : Nat) (ch : Channel) :
    ((s.setLag c n).chan ch).presets = (s.chan ch).presets := by
  simp only [State.setLag]
  all_goals simp [State.modChan_chan]
  all_goals repeat' split
  all_goals simp_all

@[simp] theorem State.setLag_chan_sync (s : State) (c : Channel) (n : Nat) (ch : Channel) :
    ((s.setLag c n).chan ch).sync = (s.chan ch).sync := by
  simp only [State.setLag]
  all_goals simp [State.modChan_chan]
  all_goals repeat' split
  all_goals simp_all

@[simp] theorem State.setLag_chan_calibration (s : State) (c : Channel) (n : Nat) (ch : Channel) :
    ((s.setLag c n).chan ch).calibration = (s.chan ch).calibration := by
  simp only [State.setLag]
  all_goals simp [State.modChan_chan]
  all_goals repeat' split
  all_goals simp_all

@[simp] theorem State.setLag_chan_latches (s : State) (c : Channel) (n : Nat) (ch : Channel) :
    ((s.setLag c n).chan ch).latches = (s.chan ch).latches := by
  simp only [State.setLag]
  all_goals simp [State.modChan_chan]
  all_goals repeat' split
  all_goals simp_all

@[simp] theorem State.slewStep_chan_ne (s : State) (c : Channel) {ch : Channel} (hne : ch ≠ c) :
    (s.slewStep c).chan ch = s.chan ch := by
  simp only [State.slewStep]
  all_goals repeat' split
  all_goals simp [hne, State.modChan_chan_ne]

@[simp] theorem State.slewStep_chan_clock (s : State) (c : Channel) (ch : Channel) :
    ((s.slewStep c).chan ch).clock = (s.chan ch).clock := by
  simp only [State.slewStep]
  all_goals repeat' split
  all_goals simp [State.modChan_chan]
  all_goals repeat' split
  all_goals simp_all

@[simp] theorem State.slewStep_chan_report (s : State) (c : Channel) (ch : Channel) :
    ((s.slewStep c).chan ch).report = (s.chan ch).report := by
  simp only [State.slewStep]
  all_goals repeat' split
  all_goals simp [State.modChan_chan]
  all_goals repeat' split
  all_goals simp_all

@[simp] theorem State.slewStep_chan_scheduler (s : State) (c : Channel) (ch : Channel) :
    ((s.slewStep c).chan ch).scheduler = (s.chan ch).scheduler := by
  simp only [State.slewStep]
  all_goals repeat' split
  all_goals simp [State.modChan_chan]
  all_goals repeat' split
  all_goals simp_all

@[simp] theorem State.slewStep_chan_window (s : State) (c : Channel) (ch : Channel) :
    ((s.slewStep c).chan ch).window = (s.chan ch).window := by
  simp only [State.slewStep]
  all_goals repeat' split
  all_goals simp [State.modChan_chan]
  all_goals repeat' split
  all_goals simp_all

@[simp] theorem State.slewStep_chan_presets (s : State) (c : Channel) (ch : Channel) :
    ((s.slewStep c).chan ch).presets = (s.chan ch).presets := by
  simp only [State.slewStep]
  all_goals repeat' split
  all_goals simp [State.modChan_chan]
  all_goals repeat' split
  all_goals simp_all

@[simp] theorem State.slewStep_chan_sync (s : State) (c : Channel) (ch : Channel) :
    ((s.slewStep c).chan ch).sync = (s.chan ch).sync := by
  simp only [State.slewStep]
  all_goals repeat' split
  all_goals simp [State.modChan_chan]
  all_goals repeat' split
  all_goals simp_all

@[simp] theorem State.slewStep_chan_calibration (s : State) (c : Channel) (ch : Channel) :
    ((s.slewStep c).chan ch).calibration = (s.chan ch).calibration := by
  simp only [State.slewStep]
  all_goals repeat' split
  all_goals simp [State.modChan_chan]
  all_goals repeat' split
  all_goals simp_all

@[simp] theorem State.slewStep_chan_latches (s : State) (c : Channel) (ch : Channel) :
    ((s.slewStep c).chan ch).latches = (s.chan ch).latches := by
  simp only [State.slewStep]
  all_goals repeat' split
  all_goals simp [State.modChan_chan]
  all_goals repeat' split
  all_goals simp_all

@[simp] theorem State.slew_chan_ne (s : State) (c : Channel) {ch : Channel} (hne : ch ≠ c) :
    (s.slew c).chan ch = s.chan ch := by
  simp only [State.slew]
  all_goals repeat' split
  all_goals simp [hne, State.modChan_chan_ne]

@[simp] theorem State.slew_chan_clock (s : State) (c : Channel) (ch : Channel) :
    ((s.slew c).chan ch).clock = (s.chan ch).clock := by
  simp only [State.slew]
  all_goals repeat' split
  all_goals simp [State.modChan_chan]
  all_goals repeat' split
  all_goals simp_all

@[simp] theorem State.slew_chan_report (s : State) (c : Channel) (ch : Channel) :
    ((s.slew c).chan ch).report = (s.chan ch).report := by
  simp only [State.slew]
  all_goals repeat' split
  all_goals simp [State.modChan_chan]
  all_goals repeat' split
  all_goals simp_all

@[simp] theorem State.slew_chan_scheduler (s : State) (c : Channel) (ch : Channel) :
    ((s.slew c).chan ch).scheduler = (s.chan ch).scheduler := by
  simp only [State.slew]
  all_goals repeat' split
  all_goals simp [State.modChan_chan]
  all_goals repeat' split
  all_goals simp_all

@[simp] theorem State.slew_chan_window (s : State) (c : Channel) (ch : Channel) :
    ((s.slew c).chan ch).window = (s.chan ch).window := by
  simp only [State.slew]
  all_goals repeat' split
  all_goals simp [State.modChan_chan]
  all_goals repeat' split
  all_goals simp_all

@[simp] theorem State.slew_chan_presets (s : State) (c : Channel) (ch : Channel) :
    ((s.slew c).chan ch).presets = (s.chan ch).presets := by
  simp only [State.slew]
  all_goals repeat' split
  all_goals simp [State.modChan_chan]
  all_goals repeat' split
  all_goals simp_all

@[simp] theorem State.slew_chan_sync (s : State) (c : Channel) (ch : Channel) :
    ((s.slew c).chan ch).sync = (s.chan ch).sync := by
  simp only [State.slew]
  all_goals repeat' split
  all_goals simp [State.modChan_chan]
  all_goals repeat' split
  all_goals simp_all

@[simp] theorem State.slew_chan_calibration (s : State) (c : Channel) (ch : Channel) :
    ((s.slew c).chan ch).calibration = (s.chan ch).calibration := by
  simp only [State.slew]
  all_goals repeat' split
  all_goals simp [State.modChan_chan]
  all_goals repeat' split
  all_goals simp_all

@[simp] theorem State.slew_chan_latches (s : State) (c : Channel) (ch : Channel) :
    ((s.slew c).chan ch).latches = (s.chan ch).latches := by
  simp only [State.slew]
  all_goals repeat' split
  all_goals simp [State.modChan_chan]
  all_goals repeat' split
  all_goals simp_all

@[simp] theorem State.delayFrame_chan_ne (s : State) (c : Channel) (l : List InputFrame) {ch : Channel} (hne : ch ≠ c) :
    (s.delayFrame c l).chan ch = s.chan ch := by
  simp only [State.delayFrame]
  all_goals repeat' split
  all_goals simp [hne, State.modChan_chan_ne]

@[simp] theorem State.delayFrame_chan_clock (s : State) (c : Channel) (l : List InputFrame) (ch : Channel) :
    ((s.delayFrame c l).chan ch).clock = (s.chan ch).clock := by
  simp only [State.delayFrame]
  all_goals repeat' split
  all_goals simp [State.modChan_chan]
  all_goals repeat' split
  all_goals simp_all [State.modChan_chan_ne]

@[simp] theorem State.delayFrame_chan_report (s : State) (c : Channel) (l : List InputFrame) (ch : Channel) :
    ((s.delayFrame c l).chan ch).report = (s.chan ch).report := by
  simp only [State.delayFrame]
  all_goals repeat' split
  all_goals simp [State.modChan_chan]
  all_goals repeat' split
  all_goals simp_all [State.modChan_chan_ne]

@[simp] theorem State.delayFrame_chan_scheduler (s : State) (c : Channel) (l : List InputFrame) (ch : Channel) :
    ((s.delayFrame c l).chan ch).scheduler = (s.chan ch).scheduler := by
  simp only [State.delayFrame]
  all_goals repeat' split
  all_goals simp [State.modChan_chan]
  all_goals repeat' split
  all_goals simp_all [State.modChan_chan_ne]

@[simp] theorem State.delayFrame_chan_window (s : State) (c : Channel) (l : List InputFrame) (ch : Channel) :
    ((s.delayFrame c l).chan ch).window = (s.chan ch).window := by
  simp only [State.delayFrame]
  all_goals repeat' split
  all_goals simp [State.modChan_chan]
  all_goals repeat' split
  all_goals simp_all [State.modChan_chan_ne]

@[simp] theorem State.delayFrame_chan_presets (s : State) (c : Channel) (l : List InputFrame) (ch : Channel) :
    ((s.delayFrame c l).chan ch).presets = (s.chan ch).presets := by
  simp only [State.delayFrame]
  all_goals repeat' split
  all_goals simp [State.modChan_chan]
  all_goals repeat' split
  all_goals simp_all [State.modChan_chan_ne]

@[simp] theorem State.delayFrame_chan_sync (s : State) (c : Channel) (l : List InputFrame) (ch : Channel) :
    ((s.delayFrame c l).chan ch).sync = (s.chan ch).sync := by
  simp only [State.delayFrame]
  all_goals repeat' split
  all_goals simp [State.modChan_chan]
  all_goals repeat' split
  all_goals simp_all [State.modChan_chan_ne]

@[simp] theorem State.delayFrame_chan_calibration (s : State) (c : Channel) (l : List InputFrame) (ch : Channel) :
    ((s.delayFrame c l).chan ch).calibration = (s.chan ch).calibration := by
  simp only [State.delayFrame]
  all_goals repeat' split
  all_goals simp [State.modChan_chan]
  all_goals repeat' split
  all_goals simp_all [State.modChan_chan_ne]

@[simp] theorem State.delayFrame_chan_latches (s : State) (c : Channel) (l : List InputFrame) (ch : Channel) :
    ((s.delayFrame c l).chan ch).latches = (s.chan ch).latches := by
  simp only [State.delayFrame]
  all_goals repeat' split
  all_goals simp [State.modChan_chan]
  all_goals repeat' split
  all_goals simp_all [State.modChan_chan_ne]

@[simp] theorem State.postDone_chan_ne (s : State) (c : Channel) {ch : Channel} (hne : ch ≠ c) :
    (s.postDone c).chan ch = s.chan ch := by
  simp only [State.postDone]
  all_goals repeat' split
  all_goals simp [hne, State.modChan_chan_ne]

@[simp] theorem State.postDone_chan_clock (s : State) (c : Channel) (ch : Channel) :
    ((s.postDone c).chan ch).clock = (s.chan ch).clock := by
  simp only [State.postDone]
  all_goals repeat' split
  all_goals simp [State.modChan_chan]

@[simp] theorem State.postDone_chan_report (s : State) (c : Channel) (ch : Channel) :
    ((s.postDone c).chan ch).report = (s.chan ch).report := by
  simp only [State.postDone]
  all_goals repeat' split
  all_goals simp [State.modChan_chan]

@[simp] theorem State.postDone_chan_scheduler (s : State) (c : Channel) (ch : Channel) :
    ((s.postDone c).chan ch).scheduler = (s.chan ch).scheduler := by
  simp only [State.postDone]
  all_goals repeat' split
  all_goals simp [State.modChan_chan]

@[simp] theorem State.postDone_chan_window (s : State) (c : Channel) (ch : Channel) :
    ((s.postDone c).chan ch).window = (s.chan ch).window := by
  simp only [State.postDone]
  all_goals repeat' split
  all_goals simp [State.modChan_chan]

@[simp] theorem State.postDone_chan_presets (s : State) (c : Channel) (ch : Channel) :
    ((s.postDone c).chan ch).presets = (s.chan ch).presets := by
  simp only [State.postDone]
  all_goals repeat' split
  all_goals simp [State.modChan_chan]

@[simp] theorem State.postDone_chan_sync (s : State) (c : Channel) (ch : Channel) :
    ((s.postDone c).chan ch).sync = (s.chan ch).sync := by
  simp only [State.postDone]
  all_goals repeat' split
  all_goals simp [State.modChan_chan]

@[simp] theorem State.postDone_chan_delay (s : State) (c : Channel) (ch : Channel) :
    ((s.postDone c).chan ch).delay = (s.chan ch).delay := by
  simp only [State.postDone]
  all_goals repeat' split
  all_goals simp [State.modChan_chan]

@[simp] theorem State.postDone_chan_calibration (s : State) (c : Channel) (ch : Channel) :
    ((s.postDone c).chan ch).calibration = (s.chan ch).calibration := by
  simp only [State.postDone]
  all_goals repeat' split
  all_goals simp [State.modChan_chan]

@[simp] theorem State.postDone_chan_latches (s : State) (c : Channel) (ch : Channel) :
    ((s.postDone c).chan ch).latches = (s.chan ch).latches := by
  simp only [State.postDone]
  all_goals repeat' split
  all_goals simp [State.modChan_chan]

@[simp] theorem State.endRun_chan_ne (s : State) (c : Channel) (r : RunResult) {ch : Channel} (hne : ch ≠ c) :
    (s.endRun c r).chan ch = s.chan ch := by
  simp only [State.endRun]
  all_goals simp [hne, State.modChan_chan_ne]

@[simp] theorem State.endRun_chan_clock (s : State) (c : Channel) (r : RunResult) (ch : Channel) :
    ((s.endRun c r).chan ch).clock = (s.chan ch).clock := by
  simp only [State.endRun]
  all_goals simp [State.modChan_chan]
  all_goals repeat' split
  all_goals simp_all

@[simp] theorem State.endRun_chan_report (s : State) (c : Channel) (r : RunResult) (ch : Channel) :
    ((s.endRun c r).chan ch).report = (s.chan ch).report := by
  simp only [State.endRun]
  all_goals simp [State.modChan_chan]
  all_goals repeat' split
  all_goals simp_all

@[simp] theorem State.endRun_chan_scheduler (s : State) (c : Channel) (r : RunResult) (ch : Channel) :
    ((s.endRun c r).chan ch).scheduler = (s.chan ch).scheduler := by
  simp only [State.endRun]
  all_goals simp [State.modChan_chan]
  all_goals repeat' split
  all_goals simp_all

@[simp] theorem State.endRun_chan_presets (s : State) (c : Channel) (r : RunResult) (ch : Channel) :
    ((s.endRun c r).chan ch).presets = (s.chan ch).presets := by
  simp only [State.endRun]
  all_goals simp [State.modChan_chan]
  all_goals repeat' split
  all_goals simp_all

@[simp] theorem State.endRun_chan_sync (s : State) (c : Channel) (r : RunResult) (ch : Channel) :
    ((s.endRun c r).chan ch).sync = (s.chan ch).sync := by
  simp only [State.endRun]
  all_goals simp [State.modChan_chan]
  all_goals repeat' split
  all_goals simp_all

@[simp] theorem State.endRun_chan_delay (s : State) (c : Channel) (r : RunResult) (ch : Channel) :
    ((s.endRun c r).chan ch).delay = (s.chan ch).delay := by
  simp only [State.endRun]
  all_goals simp [State.modChan_chan]
  all_goals repeat' split
  all_goals simp_all

@[simp] theorem State.endRun_chan_latches (s : State) (c : Channel) (r : RunResult) (ch : Channel) :
    ((s.endRun c r).chan ch).latches = (s.chan ch).latches := by
  simp only [State.endRun]
  all_goals simp [State.modChan_chan]
  all_goals repeat' split
  all_goals simp_all

@[simp] theorem State.endRunOk_chan_ne (s : State) (c : Channel) {ch : Channel} (hne : ch ≠ c) :
    (s.endRunOk c).chan ch = s.chan ch := by
  simp only [State.endRunOk]
  all_goals simp [hne, State.modChan_chan_ne]

@[simp] theorem State.endRunOk_chan_clock (s : State) (c : Channel) (ch : Channel) :
    ((s.endRunOk c).chan ch).clock = (s.chan ch).clock := by
  simp only [State.endRunOk]
  all_goals simp [State.modChan_chan]
  all_goals repeat' split
  all_goals simp_all

@[simp] theorem State.endRunOk_chan_report (s : State) (c : Channel) (ch : Channel) :
    ((s.endRunOk c).chan ch).report = (s.chan ch).report := by
  simp only [State.endRunOk]
  all_goals simp [State.modChan_chan]
  all_goals repeat' split
  all_goals simp_all

@[simp] theorem State.endRunOk_chan_scheduler (s : State) (c : Channel) (ch : Channel) :
    ((s.endRunOk c).chan ch).scheduler = (s.chan ch).scheduler := by
  simp only [State.endRunOk]
  all_goals simp [State.modChan_chan]
  all_goals repeat' split
  all_goals simp_all

@[simp] theorem State.endRunOk_chan_presets (s : State) (c : Channel) (ch : Channel) :
    ((s.endRunOk c).chan ch).presets = (s.chan ch).presets := by
  simp only [State.endRunOk]
  all_goals simp [State.modChan_chan]
  all_goals repeat' split
  all_goals simp_all

@[simp] theorem State.endRunOk_chan_sync (s : State) (c : Channel) (ch : Channel) :
    ((s.endRunOk c).chan ch).sync = (s.chan ch).sync := by
  simp only [State.endRunOk]
  all_goals simp [State.modChan_chan]
  all_goals repeat' split
  all_goals simp_all

@[simp] theorem State.endRunOk_chan_latches (s : State) (c : Channel) (ch : Channel) :
    ((s.endRunOk c).chan ch).latches = (s.chan ch).latches := by
  simp only [State.endRunOk]
  all_goals simp [State.modChan_chan]
  all_goals repeat' split
  all_goals simp_all

@[simp] theorem State.countRun_chan_ne (s : State) (c : Channel) {ch : Channel} (hne : ch ≠ c) :
    (s.countRun c).chan ch = s.chan ch := by
  simp only [State.countRun]
  all_goals repeat' split
  all_goals simp [hne, State.modChan_chan_ne]

@[simp] theorem State.countRun_chan_clock (s : State) (c : Channel) (ch : Channel) :
    ((s.countRun c).chan ch).clock = (s.chan ch).clock := by
  simp only [State.countRun]
  all_goals repeat' split
  all_goals simp [State.modChan_chan]
  all_goals repeat' split
  all_goals simp_all

@[simp] theorem State.countRun_chan_report (s : State) (c : Channel) (ch : Channel) :
    ((s.countRun c).chan ch).report = (s.chan ch).report := by
  simp only [State.countRun]
  all_goals repeat' split
  all_goals simp [State.modChan_chan]
  all_goals repeat' split
  all_goals simp_all

@[simp] theorem State.countRun_chan_scheduler (s : State) (c : Channel) (ch : Channel) :
    ((s.countRun c).chan ch).scheduler = (s.chan ch).scheduler := by
  simp only [State.countRun]
  all_goals repeat' split
  all_goals simp [State.modChan_chan]
  all_goals repeat' split
  all_goals simp_all

@[simp] theorem State.countRun_chan_presets (s : State) (c : Channel) (ch : Channel) :
    ((s.countRun c).chan ch).presets = (s.chan ch).presets := by
  simp only [State.countRun]
  all_goals repeat' split
  all_goals simp [State.modChan_chan]
  all_goals repeat' split
  all_goals simp_all

@[simp] theorem State.countRun_chan_sync (s : State) (c : Channel) (ch : Channel) :
    ((s.countRun c).chan ch).sync = (s.chan ch).sync := by
  simp only [State.countRun]
  all_goals repeat' split
  all_goals simp [State.modChan_chan]
  all_goals repeat' split
  all_goals simp_all

@[simp] theorem State.countRun_chan_delay (s : State) (c : Channel) (ch : Channel) :
    ((s.countRun c).chan ch).delay = (s.chan ch).delay := by
  simp only [State.countRun]
  all_goals repeat' split
  all_goals simp [State.modChan_chan]
  all_goals repeat' split
  all_goals simp_all

@[simp] theorem State.countRun_chan_latches (s : State) (c : Channel) (ch : Channel) :
    ((s.countRun c).chan ch).latches = (s.chan ch).latches := by
  simp only [State.countRun]
  all_goals repeat' split
  all_goals simp [State.modChan_chan]
  all_goals repeat' split
  all_goals simp_all

@[simp] theorem State.receiveMarker_chan_ne (s : State) (c : Channel) (n q : Nat) {ch : Channel} (hne : ch ≠ c) :
    (s.receiveMarker c n q).chan ch = s.chan ch := by
  simp only [State.receiveMarker]
  all_goals repeat' split
  all_goals simp [hne, State.modChan_chan_ne]

@[simp] theorem State.receiveMarker_chan_clock (s : State) (c : Channel) (n q : Nat) (ch : Channel) :
    ((s.receiveMarker c n q).chan ch).clock = (s.chan ch).clock := by
  simp only [State.receiveMarker]
  all_goals repeat' split
  all_goals simp [State.modChan_chan]
  all_goals repeat' split
  all_goals simp_all

@[simp] theorem State.receiveMarker_chan_report (s : State) (c : Channel) (n q : Nat) (ch : Channel) :
    ((s.receiveMarker c n q).chan ch).report = (s.chan ch).report := by
  simp only [State.receiveMarker]
  all_goals repeat' split
  all_goals simp [State.modChan_chan]
  all_goals repeat' split
  all_goals simp_all

@[simp] theorem State.receiveMarker_chan_scheduler (s : State) (c : Channel) (n q : Nat) (ch : Channel) :
    ((s.receiveMarker c n q).chan ch).scheduler = (s.chan ch).scheduler := by
  simp only [State.receiveMarker]
  all_goals repeat' split
  all_goals simp [State.modChan_chan]
  all_goals repeat' split
  all_goals simp_all

@[simp] theorem State.receiveMarker_chan_presets (s : State) (c : Channel) (n q : Nat) (ch : Channel) :
    ((s.receiveMarker c n q).chan ch).presets = (s.chan ch).presets := by
  simp only [State.receiveMarker]
  all_goals repeat' split
  all_goals simp [State.modChan_chan]
  all_goals repeat' split
  all_goals simp_all

@[simp] theorem State.receiveMarker_chan_sync (s : State) (c : Channel) (n q : Nat) (ch : Channel) :
    ((s.receiveMarker c n q).chan ch).sync = (s.chan ch).sync := by
  simp only [State.receiveMarker]
  all_goals repeat' split
  all_goals simp [State.modChan_chan]
  all_goals repeat' split
  all_goals simp_all

@[simp] theorem State.receiveMarker_chan_latches (s : State) (c : Channel) (n q : Nat) (ch : Channel) :
    ((s.receiveMarker c n q).chan ch).latches = (s.chan ch).latches := by
  simp only [State.receiveMarker]
  all_goals repeat' split
  all_goals simp [State.modChan_chan]
  all_goals repeat' split
  all_goals simp_all

@[simp] theorem State.setLevel_chan_ne (s : State) (c : Channel) (b : Bool) {ch : Channel} (hne : ch ≠ c) :
    (s.setLevel c b).chan ch = s.chan ch := by
  simp only [State.setLevel]
  all_goals simp [hne, State.modChan_chan_ne]

@[simp] theorem State.setLevel_chan_clock (s : State) (c : Channel) (b : Bool) (ch : Channel) :
    ((s.setLevel c b).chan ch).clock = (s.chan ch).clock := by
  simp only [State.setLevel]
  all_goals simp [State.modChan_chan]
  all_goals repeat' split
  all_goals simp_all

@[simp] theorem State.setLevel_chan_report (s : State) (c : Channel) (b : Bool) (ch : Channel) :
    ((s.setLevel c b).chan ch).report = (s.chan ch).report := by
  simp only [State.setLevel]
  all_goals simp [State.modChan_chan]
  all_goals repeat' split
  all_goals simp_all

@[simp] theorem State.setLevel_chan_scheduler (s : State) (c : Channel) (b : Bool) (ch : Channel) :
    ((s.setLevel c b).chan ch).scheduler = (s.chan ch).scheduler := by
  simp only [State.setLevel]
  all_goals simp [State.modChan_chan]
  all_goals repeat' split
  all_goals simp_all

@[simp] theorem State.setLevel_chan_presets (s : State) (c : Channel) (b : Bool) (ch : Channel) :
    ((s.setLevel c b).chan ch).presets = (s.chan ch).presets := by
  simp only [State.setLevel]
  all_goals simp [State.modChan_chan]
  all_goals repeat' split
  all_goals simp_all

@[simp] theorem State.setLevel_chan_delay (s : State) (c : Channel) (b : Bool) (ch : Channel) :
    ((s.setLevel c b).chan ch).delay = (s.chan ch).delay := by
  simp only [State.setLevel]
  all_goals simp [State.modChan_chan]
  all_goals repeat' split
  all_goals simp_all

@[simp] theorem State.setLevel_chan_calibration (s : State) (c : Channel) (b : Bool) (ch : Channel) :
    ((s.setLevel c b).chan ch).calibration = (s.chan ch).calibration := by
  simp only [State.setLevel]
  all_goals simp [State.modChan_chan]
  all_goals repeat' split
  all_goals simp_all

@[simp] theorem State.setLevel_chan_latches (s : State) (c : Channel) (b : Bool) (ch : Channel) :
    ((s.setLevel c b).chan ch).latches = (s.chan ch).latches := by
  simp only [State.setLevel]
  all_goals simp [State.modChan_chan]
  all_goals repeat' split
  all_goals simp_all

@[simp] theorem State.endOnLoss_chan_ne (s : State) (c : Channel) (x y : LockState) {ch : Channel} (hne : ch ≠ c) :
    (s.endOnLoss c x y).chan ch = s.chan ch := by
  simp only [State.endOnLoss]
  all_goals repeat' split
  all_goals simp [hne, State.modChan_chan_ne]

@[simp] theorem State.endOnLoss_chan_clock (s : State) (c : Channel) (x y : LockState) (ch : Channel) :
    ((s.endOnLoss c x y).chan ch).clock = (s.chan ch).clock := by
  simp only [State.endOnLoss]
  all_goals repeat' split
  all_goals simp [State.modChan_chan]

@[simp] theorem State.endOnLoss_chan_report (s : State) (c : Channel) (x y : LockState) (ch : Channel) :
    ((s.endOnLoss c x y).chan ch).report = (s.chan ch).report := by
  simp only [State.endOnLoss]
  all_goals repeat' split
  all_goals simp [State.modChan_chan]

@[simp] theorem State.endOnLoss_chan_scheduler (s : State) (c : Channel) (x y : LockState) (ch : Channel) :
    ((s.endOnLoss c x y).chan ch).scheduler = (s.chan ch).scheduler := by
  simp only [State.endOnLoss]
  all_goals repeat' split
  all_goals simp [State.modChan_chan]

@[simp] theorem State.endOnLoss_chan_presets (s : State) (c : Channel) (x y : LockState) (ch : Channel) :
    ((s.endOnLoss c x y).chan ch).presets = (s.chan ch).presets := by
  simp only [State.endOnLoss]
  all_goals repeat' split
  all_goals simp [State.modChan_chan]

@[simp] theorem State.endOnLoss_chan_sync (s : State) (c : Channel) (x y : LockState) (ch : Channel) :
    ((s.endOnLoss c x y).chan ch).sync = (s.chan ch).sync := by
  simp only [State.endOnLoss]
  all_goals repeat' split
  all_goals simp [State.modChan_chan]

@[simp] theorem State.endOnLoss_chan_delay (s : State) (c : Channel) (x y : LockState) (ch : Channel) :
    ((s.endOnLoss c x y).chan ch).delay = (s.chan ch).delay := by
  simp only [State.endOnLoss]
  all_goals repeat' split
  all_goals simp [State.modChan_chan]

@[simp] theorem State.endOnLoss_chan_latches (s : State) (c : Channel) (x y : LockState) (ch : Channel) :
    ((s.endOnLoss c x y).chan ch).latches = (s.chan ch).latches := by
  simp only [State.endOnLoss]
  all_goals repeat' split
  all_goals simp [State.modChan_chan]

@[simp] theorem State.setLock_chan_ne (s : State) (c : Channel) (x : LockState) (h : HandOver) {ch : Channel} (hne : ch ≠ c) :
    (s.setLock c x h).chan ch = s.chan ch := by
  simp only [State.setLock]
  all_goals repeat' split
  all_goals simp [hne, State.modChan_chan_ne]

@[simp] theorem State.setLock_chan_clock (s : State) (c : Channel) (x : LockState) (h : HandOver) (ch : Channel) :
    ((s.setLock c x h).chan ch).clock = (s.chan ch).clock := by
  simp only [State.setLock]
  all_goals repeat' split
  all_goals simp [State.modChan_chan]
  all_goals repeat' split
  all_goals simp_all

@[simp] theorem State.setLock_chan_report (s : State) (c : Channel) (x : LockState) (h : HandOver) (ch : Channel) :
    ((s.setLock c x h).chan ch).report = (s.chan ch).report := by
  simp only [State.setLock]
  all_goals repeat' split
  all_goals simp [State.modChan_chan]
  all_goals repeat' split
  all_goals simp_all

@[simp] theorem State.setLock_chan_scheduler (s : State) (c : Channel) (x : LockState) (h : HandOver) (ch : Channel) :
    ((s.setLock c x h).chan ch).scheduler = (s.chan ch).scheduler := by
  simp only [State.setLock]
  all_goals repeat' split
  all_goals simp [State.modChan_chan]
  all_goals repeat' split
  all_goals simp_all

@[simp] theorem State.setLock_chan_presets (s : State) (c : Channel) (x : LockState) (h : HandOver) (ch : Channel) :
    ((s.setLock c x h).chan ch).presets = (s.chan ch).presets := by
  simp only [State.setLock]
  all_goals repeat' split
  all_goals simp [State.modChan_chan]
  all_goals repeat' split
  all_goals simp_all

@[simp] theorem State.setLock_chan_delay (s : State) (c : Channel) (x : LockState) (h : HandOver) (ch : Channel) :
    ((s.setLock c x h).chan ch).delay = (s.chan ch).delay := by
  simp only [State.setLock]
  all_goals repeat' split
  all_goals simp [State.modChan_chan]
  all_goals repeat' split
  all_goals simp_all

@[simp] theorem State.setLock_chan_latches (s : State) (c : Channel) (x : LockState) (h : HandOver) (ch : Channel) :
    ((s.setLock c x h).chan ch).latches = (s.chan ch).latches := by
  simp only [State.setLock]
  all_goals repeat' split
  all_goals simp [State.modChan_chan]
  all_goals repeat' split
  all_goals simp_all

@[simp] theorem State.signalUp_chan_ne (s : State) (c : Channel) {ch : Channel} (hne : ch ≠ c) :
    (s.signalUp c).chan ch = s.chan ch := by
  simp only [State.signalUp]
  all_goals repeat' split
  all_goals simp [hne, State.modChan_chan_ne]

@[simp] theorem State.signalUp_chan_clock (s : State) (c : Channel) (ch : Channel) :
    ((s.signalUp c).chan ch).clock = (s.chan ch).clock := by
  simp only [State.signalUp]
  all_goals repeat' split
  all_goals simp [State.modChan_chan]
  all_goals repeat' split
  all_goals simp_all

@[simp] theorem State.signalUp_chan_report (s : State) (c : Channel) (ch : Channel) :
    ((s.signalUp c).chan ch).report = (s.chan ch).report := by
  simp only [State.signalUp]
  all_goals repeat' split
  all_goals simp [State.modChan_chan]
  all_goals repeat' split
  all_goals simp_all

@[simp] theorem State.signalUp_chan_scheduler (s : State) (c : Channel) (ch : Channel) :
    ((s.signalUp c).chan ch).scheduler = (s.chan ch).scheduler := by
  simp only [State.signalUp]
  all_goals repeat' split
  all_goals simp [State.modChan_chan]
  all_goals repeat' split
  all_goals simp_all

@[simp] theorem State.signalUp_chan_presets (s : State) (c : Channel) (ch : Channel) :
    ((s.signalUp c).chan ch).presets = (s.chan ch).presets := by
  simp only [State.signalUp]
  all_goals repeat' split
  all_goals simp [State.modChan_chan]
  all_goals repeat' split
  all_goals simp_all

@[simp] theorem State.signalUp_chan_delay (s : State) (c : Channel) (ch : Channel) :
    ((s.signalUp c).chan ch).delay = (s.chan ch).delay := by
  simp only [State.signalUp]
  all_goals repeat' split
  all_goals simp [State.modChan_chan]
  all_goals repeat' split
  all_goals simp_all

@[simp] theorem State.signalUp_chan_latches (s : State) (c : Channel) (ch : Channel) :
    ((s.signalUp c).chan ch).latches = (s.chan ch).latches := by
  simp only [State.signalUp]
  all_goals repeat' split
  all_goals simp [State.modChan_chan]
  all_goals repeat' split
  all_goals simp_all

@[simp] theorem State.completePicture_chan_ne (s : State) (c : Channel) (b : Bool) (p : Picture) (h : HandOver) (i : Incoming) {ch : Channel} (hne : ch ≠ c) :
    (s.completePicture c b p h i).chan ch = s.chan ch := by
  simp only [State.completePicture]
  all_goals simp [hne, State.modChan_chan_ne]

@[simp] theorem State.completePicture_chan_clock (s : State) (c : Channel) (b : Bool) (p : Picture) (h : HandOver) (i : Incoming) (ch : Channel) :
    ((s.completePicture c b p h i).chan ch).clock = (s.chan ch).clock := by
  simp only [State.completePicture]
  all_goals simp [State.modChan_chan]
  all_goals repeat' split
  all_goals simp_all

@[simp] theorem State.completePicture_chan_report (s : State) (c : Channel) (b : Bool) (p : Picture) (h : HandOver) (i : Incoming) (ch : Channel) :
    ((s.completePicture c b p h i).chan ch).report = (s.chan ch).report := by
  simp only [State.completePicture]
  all_goals simp [State.modChan_chan]
  all_goals repeat' split
  all_goals simp_all

@[simp] theorem State.completePicture_chan_scheduler (s : State) (c : Channel) (b : Bool) (p : Picture) (h : HandOver) (i : Incoming) (ch : Channel) :
    ((s.completePicture c b p h i).chan ch).scheduler = (s.chan ch).scheduler := by
  simp only [State.completePicture]
  all_goals simp [State.modChan_chan]
  all_goals repeat' split
  all_goals simp_all

@[simp] theorem State.completePicture_chan_presets (s : State) (c : Channel) (b : Bool) (p : Picture) (h : HandOver) (i : Incoming) (ch : Channel) :
    ((s.completePicture c b p h i).chan ch).presets = (s.chan ch).presets := by
  simp only [State.completePicture]
  all_goals simp [State.modChan_chan]
  all_goals repeat' split
  all_goals simp_all

@[simp] theorem State.completePicture_chan_delay (s : State) (c : Channel) (b : Bool) (p : Picture) (h : HandOver) (i : Incoming) (ch : Channel) :
    ((s.completePicture c b p h i).chan ch).delay = (s.chan ch).delay := by
  simp only [State.completePicture]
  all_goals simp [State.modChan_chan]
  all_goals repeat' split
  all_goals simp_all

@[simp] theorem State.completePicture_chan_latches (s : State) (c : Channel) (b : Bool) (p : Picture) (h : HandOver) (i : Incoming) (ch : Channel) :
    ((s.completePicture c b p h i).chan ch).latches = (s.chan ch).latches := by
  simp only [State.completePicture]
  all_goals simp [State.modChan_chan]
  all_goals repeat' split
  all_goals simp_all

@[simp] theorem State.chooseSigner_chan_ne (s : State) (c : Channel) (h : HandOver) {ch : Channel} (hne : ch ≠ c) :
    (s.chooseSigner c h).chan ch = s.chan ch := by
  simp only [State.chooseSigner]
  all_goals repeat' split
  all_goals simp [hne, State.modChan_chan_ne]

@[simp] theorem State.chooseSigner_chan_clock (s : State) (c : Channel) (h : HandOver) (ch : Channel) :
    ((s.chooseSigner c h).chan ch).clock = (s.chan ch).clock := by
  simp only [State.chooseSigner]
  all_goals repeat' split
  all_goals simp [State.modChan_chan]
  all_goals repeat' split
  all_goals simp_all

@[simp] theorem State.chooseSigner_chan_report (s : State) (c : Channel) (h : HandOver) (ch : Channel) :
    ((s.chooseSigner c h).chan ch).report = (s.chan ch).report := by
  simp only [State.chooseSigner]
  all_goals repeat' split
  all_goals simp [State.modChan_chan]
  all_goals repeat' split
  all_goals simp_all

@[simp] theorem State.chooseSigner_chan_scheduler (s : State) (c : Channel) (h : HandOver) (ch : Channel) :
    ((s.chooseSigner c h).chan ch).scheduler = (s.chan ch).scheduler := by
  simp only [State.chooseSigner]
  all_goals repeat' split
  all_goals simp [State.modChan_chan]
  all_goals repeat' split
  all_goals simp_all

@[simp] theorem State.chooseSigner_chan_presets (s : State) (c : Channel) (h : HandOver) (ch : Channel) :
    ((s.chooseSigner c h).chan ch).presets = (s.chan ch).presets := by
  simp only [State.chooseSigner]
  all_goals repeat' split
  all_goals simp [State.modChan_chan]
  all_goals repeat' split
  all_goals simp_all

@[simp] theorem State.chooseSigner_chan_delay (s : State) (c : Channel) (h : HandOver) (ch : Channel) :
    ((s.chooseSigner c h).chan ch).delay = (s.chan ch).delay := by
  simp only [State.chooseSigner]
  all_goals repeat' split
  all_goals simp [State.modChan_chan]
  all_goals repeat' split
  all_goals simp_all

@[simp] theorem State.chooseSigner_chan_latches (s : State) (c : Channel) (h : HandOver) (ch : Channel) :
    ((s.chooseSigner c h).chan ch).latches = (s.chan ch).latches := by
  simp only [State.chooseSigner]
  all_goals repeat' split
  all_goals simp [State.modChan_chan]
  all_goals repeat' split
  all_goals simp_all

@[simp] theorem State.raiseHolding_chan_ne (s : State) (c : Channel) (h : HandOver) {ch : Channel} (hne : ch ≠ c) :
    (s.raiseHolding c h).chan ch = s.chan ch := by
  simp only [State.raiseHolding]
  all_goals repeat' split
  all_goals simp [hne, State.modChan_chan_ne]

@[simp] theorem State.raiseHolding_chan_clock (s : State) (c : Channel) (h : HandOver) (ch : Channel) :
    ((s.raiseHolding c h).chan ch).clock = (s.chan ch).clock := by
  simp only [State.raiseHolding]
  all_goals repeat' split
  all_goals simp [State.modChan_chan]
  all_goals repeat' split
  all_goals simp_all

@[simp] theorem State.raiseHolding_chan_report (s : State) (c : Channel) (h : HandOver) (ch : Channel) :
    ((s.raiseHolding c h).chan ch).report = (s.chan ch).report := by
  simp only [State.raiseHolding]
  all_goals repeat' split
  all_goals simp [State.modChan_chan]
  all_goals repeat' split
  all_goals simp_all

@[simp] theorem State.raiseHolding_chan_scheduler (s : State) (c : Channel) (h : HandOver) (ch : Channel) :
    ((s.raiseHolding c h).chan ch).scheduler = (s.chan ch).scheduler := by
  simp only [State.raiseHolding]
  all_goals repeat' split
  all_goals simp [State.modChan_chan]
  all_goals repeat' split
  all_goals simp_all

@[simp] theorem State.raiseHolding_chan_presets (s : State) (c : Channel) (h : HandOver) (ch : Channel) :
    ((s.raiseHolding c h).chan ch).presets = (s.chan ch).presets := by
  simp only [State.raiseHolding]
  all_goals repeat' split
  all_goals simp [State.modChan_chan]
  all_goals repeat' split
  all_goals simp_all

@[simp] theorem State.raiseHolding_chan_delay (s : State) (c : Channel) (h : HandOver) (ch : Channel) :
    ((s.raiseHolding c h).chan ch).delay = (s.chan ch).delay := by
  simp only [State.raiseHolding]
  all_goals repeat' split
  all_goals simp [State.modChan_chan]
  all_goals repeat' split
  all_goals simp_all

@[simp] theorem State.raiseHolding_chan_latches (s : State) (c : Channel) (h : HandOver) (ch : Channel) :
    ((s.raiseHolding c h).chan ch).latches = (s.chan ch).latches := by
  simp only [State.raiseHolding]
  all_goals repeat' split
  all_goals simp [State.modChan_chan]
  all_goals repeat' split
  all_goals simp_all

@[simp] theorem State.syncPeriod_chan_ne (s : State) (c : Channel) (b : Bool) (h : HandOver) {ch : Channel} (hne : ch ≠ c) :
    (s.syncPeriod c b h).chan ch = s.chan ch := by
  simp only [State.syncPeriod]
  all_goals repeat' split
  all_goals simp [hne, State.modChan_chan_ne]

@[simp] theorem State.syncPeriod_chan_clock (s : State) (c : Channel) (b : Bool) (h : HandOver) (ch : Channel) :
    ((s.syncPeriod c b h).chan ch).clock = (s.chan ch).clock := by
  simp only [State.syncPeriod]
  all_goals repeat' split
  all_goals simp [State.modChan_chan]
  all_goals repeat' split
  all_goals simp_all

@[simp] theorem State.syncPeriod_chan_report (s : State) (c : Channel) (b : Bool) (h : HandOver) (ch : Channel) :
    ((s.syncPeriod c b h).chan ch).report = (s.chan ch).report := by
  simp only [State.syncPeriod]
  all_goals repeat' split
  all_goals simp [State.modChan_chan]
  all_goals repeat' split
  all_goals simp_all

@[simp] theorem State.syncPeriod_chan_scheduler (s : State) (c : Channel) (b : Bool) (h : HandOver) (ch : Channel) :
    ((s.syncPeriod c b h).chan ch).scheduler = (s.chan ch).scheduler := by
  simp only [State.syncPeriod]
  all_goals repeat' split
  all_goals simp [State.modChan_chan]
  all_goals repeat' split
  all_goals simp_all

@[simp] theorem State.syncPeriod_chan_presets (s : State) (c : Channel) (b : Bool) (h : HandOver) (ch : Channel) :
    ((s.syncPeriod c b h).chan ch).presets = (s.chan ch).presets := by
  simp only [State.syncPeriod]
  all_goals repeat' split
  all_goals simp [State.modChan_chan]
  all_goals repeat' split
  all_goals simp_all

@[simp] theorem State.syncPeriod_chan_delay (s : State) (c : Channel) (b : Bool) (h : HandOver) (ch : Channel) :
    ((s.syncPeriod c b h).chan ch).delay = (s.chan ch).delay := by
  simp only [State.syncPeriod]
  all_goals repeat' split
  all_goals simp [State.modChan_chan]
  all_goals repeat' split
  all_goals simp_all

@[simp] theorem State.modScheduler_chan_ne (s : State) (c : Channel) (f : Scheduler → Scheduler) {ch : Channel} (hne : ch ≠ c) :
    (s.modScheduler c f).chan ch = s.chan ch := by
  simp only [State.modScheduler]
  all_goals simp [hne, State.modChan_chan_ne]

@[simp] theorem State.modScheduler_chan_clock (s : State) (c : Channel) (f : Scheduler → Scheduler) (ch : Channel) :
    ((s.modScheduler c f).chan ch).clock = (s.chan ch).clock := by
  simp only [State.modScheduler]
  all_goals simp [State.modChan_chan]
  all_goals repeat' split
  all_goals simp_all

@[simp] theorem State.modScheduler_chan_report (s : State) (c : Channel) (f : Scheduler → Scheduler) (ch : Channel) :
    ((s.modScheduler c f).chan ch).report = (s.chan ch).report := by
  simp only [State.modScheduler]
  all_goals simp [State.modChan_chan]
  all_goals repeat' split
  all_goals simp_all

@[simp] theorem State.modScheduler_chan_window (s : State) (c : Channel) (f : Scheduler → Scheduler) (ch : Channel) :
    ((s.modScheduler c f).chan ch).window = (s.chan ch).window := by
  simp only [State.modScheduler]
  all_goals simp [State.modChan_chan]
  all_goals repeat' split
  all_goals simp_all

@[simp] theorem State.modScheduler_chan_presets (s : State) (c : Channel) (f : Scheduler → Scheduler) (ch : Channel) :
    ((s.modScheduler c f).chan ch).presets = (s.chan ch).presets := by
  simp only [State.modScheduler]
  all_goals simp [State.modChan_chan]
  all_goals repeat' split
  all_goals simp_all

@[simp] theorem State.modScheduler_chan_sync (s : State) (c : Channel) (f : Scheduler → Scheduler) (ch : Channel) :
    ((s.modScheduler c f).chan ch).sync = (s.chan ch).sync := by
  simp only [State.modScheduler]
  all_goals simp [State.modChan_chan]
  all_goals repeat' split
  all_goals simp_all

@[simp] theorem State.modScheduler_chan_delay (s : State) (c : Channel) (f : Scheduler → Scheduler) (ch : Channel) :
    ((s.modScheduler c f).chan ch).delay = (s.chan ch).delay := by
  simp only [State.modScheduler]
  all_goals simp [State.modChan_chan]
  all_goals repeat' split
  all_goals simp_all

@[simp] theorem State.modScheduler_chan_calibration (s : State) (c : Channel) (f : Scheduler → Scheduler) (ch : Channel) :
    ((s.modScheduler c f).chan ch).calibration = (s.chan ch).calibration := by
  simp only [State.modScheduler]
  all_goals simp [State.modChan_chan]
  all_goals repeat' split
  all_goals simp_all

@[simp] theorem State.modScheduler_chan_latches (s : State) (c : Channel) (f : Scheduler → Scheduler) (ch : Channel) :
    ((s.modScheduler c f).chan ch).latches = (s.chan ch).latches := by
  simp only [State.modScheduler]
  all_goals simp [State.modChan_chan]
  all_goals repeat' split
  all_goals simp_all

@[simp] theorem State.removeCue_chan_ne (s : State) (c : Channel) (i : SlotIx) {ch : Channel} (hne : ch ≠ c) :
    (s.removeCue c i).chan ch = s.chan ch := by
  simp only [State.removeCue]
  all_goals simp [hne, State.modChan_chan_ne]

@[simp] theorem State.removeCue_chan_clock (s : State) (c : Channel) (i : SlotIx) (ch : Channel) :
    ((s.removeCue c i).chan ch).clock = (s.chan ch).clock := by
  simp only [State.removeCue]
  all_goals simp [State.modChan_chan]

@[simp] theorem State.removeCue_chan_report (s : State) (c : Channel) (i : SlotIx) (ch : Channel) :
    ((s.removeCue c i).chan ch).report = (s.chan ch).report := by
  simp only [State.removeCue]
  all_goals simp [State.modChan_chan]

@[simp] theorem State.removeCue_chan_window (s : State) (c : Channel) (i : SlotIx) (ch : Channel) :
    ((s.removeCue c i).chan ch).window = (s.chan ch).window := by
  simp only [State.removeCue]
  all_goals simp [State.modChan_chan]

@[simp] theorem State.removeCue_chan_presets (s : State) (c : Channel) (i : SlotIx) (ch : Channel) :
    ((s.removeCue c i).chan ch).presets = (s.chan ch).presets := by
  simp only [State.removeCue]
  all_goals simp [State.modChan_chan]

@[simp] theorem State.removeCue_chan_sync (s : State) (c : Channel) (i : SlotIx) (ch : Channel) :
    ((s.removeCue c i).chan ch).sync = (s.chan ch).sync := by
  simp only [State.removeCue]
  all_goals simp [State.modChan_chan]

@[simp] theorem State.removeCue_chan_delay (s : State) (c : Channel) (i : SlotIx) (ch : Channel) :
    ((s.removeCue c i).chan ch).delay = (s.chan ch).delay := by
  simp only [State.removeCue]
  all_goals simp [State.modChan_chan]

@[simp] theorem State.removeCue_chan_calibration (s : State) (c : Channel) (i : SlotIx) (ch : Channel) :
    ((s.removeCue c i).chan ch).calibration = (s.chan ch).calibration := by
  simp only [State.removeCue]
  all_goals simp [State.modChan_chan]

@[simp] theorem State.removeCue_chan_latches (s : State) (c : Channel) (i : SlotIx) (ch : Channel) :
    ((s.removeCue c i).chan ch).latches = (s.chan ch).latches := by
  simp only [State.removeCue]
  all_goals simp [State.modChan_chan]

@[simp] theorem State.enlist_chan_clock (s : State) (i : SlotIx) (k : Cue) (ch : Channel) :
    ((s.enlist i k).chan ch).clock = (s.chan ch).clock := by
  simp only [State.enlist]
  all_goals repeat' split
  all_goals simp [State.modChan_chan]

@[simp] theorem State.enlist_chan_report (s : State) (i : SlotIx) (k : Cue) (ch : Channel) :
    ((s.enlist i k).chan ch).report = (s.chan ch).report := by
  simp only [State.enlist]
  all_goals repeat' split
  all_goals simp [State.modChan_chan]

@[simp] theorem State.enlist_chan_window (s : State) (i : SlotIx) (k : Cue) (ch : Channel) :
    ((s.enlist i k).chan ch).window = (s.chan ch).window := by
  simp only [State.enlist]
  all_goals repeat' split
  all_goals simp [State.modChan_chan]

@[simp] theorem State.enlist_chan_presets (s : State) (i : SlotIx) (k : Cue) (ch : Channel) :
    ((s.enlist i k).chan ch).presets = (s.chan ch).presets := by
  simp only [State.enlist]
  all_goals repeat' split
  all_goals simp [State.modChan_chan]

@[simp] theorem State.enlist_chan_sync (s : State) (i : SlotIx) (k : Cue) (ch : Channel) :
    ((s.enlist i k).chan ch).sync = (s.chan ch).sync := by
  simp only [State.enlist]
  all_goals repeat' split
  all_goals simp [State.modChan_chan]

@[simp] theorem State.enlist_chan_delay (s : State) (i : SlotIx) (k : Cue) (ch : Channel) :
    ((s.enlist i k).chan ch).delay = (s.chan ch).delay := by
  simp only [State.enlist]
  all_goals repeat' split
  all_goals simp [State.modChan_chan]

@[simp] theorem State.enlist_chan_calibration (s : State) (i : SlotIx) (k : Cue) (ch : Channel) :
    ((s.enlist i k).chan ch).calibration = (s.chan ch).calibration := by
  simp only [State.enlist]
  all_goals repeat' split
  all_goals simp [State.modChan_chan]

@[simp] theorem State.enlist_chan_latches (s : State) (i : SlotIx) (k : Cue) (ch : Channel) :
    ((s.enlist i k).chan ch).latches = (s.chan ch).latches := by
  simp only [State.enlist]
  all_goals repeat' split
  all_goals simp [State.modChan_chan]

@[simp] theorem State.retire_chan_ne (s : State) (c : Channel) (i : SlotIx) (k : Cue) (r : Result) {ch : Channel} (hne : ch ≠ c) :
    (s.retire c i k r).chan ch = s.chan ch := by
  simp only [State.retire]
  all_goals simp [hne, State.modChan_chan_ne]

@[simp] theorem State.retire_chan_clock (s : State) (c : Channel) (i : SlotIx) (k : Cue) (r : Result) (ch : Channel) :
    ((s.retire c i k r).chan ch).clock = (s.chan ch).clock := by
  simp only [State.retire]
  all_goals simp [State.modChan_chan]

@[simp] theorem State.retire_chan_report (s : State) (c : Channel) (i : SlotIx) (k : Cue) (r : Result) (ch : Channel) :
    ((s.retire c i k r).chan ch).report = (s.chan ch).report := by
  simp only [State.retire]
  all_goals simp [State.modChan_chan]

@[simp] theorem State.retire_chan_window (s : State) (c : Channel) (i : SlotIx) (k : Cue) (r : Result) (ch : Channel) :
    ((s.retire c i k r).chan ch).window = (s.chan ch).window := by
  simp only [State.retire]
  all_goals simp [State.modChan_chan]

@[simp] theorem State.retire_chan_presets (s : State) (c : Channel) (i : SlotIx) (k : Cue) (r : Result) (ch : Channel) :
    ((s.retire c i k r).chan ch).presets = (s.chan ch).presets := by
  simp only [State.retire]
  all_goals simp [State.modChan_chan]

@[simp] theorem State.retire_chan_sync (s : State) (c : Channel) (i : SlotIx) (k : Cue) (r : Result) (ch : Channel) :
    ((s.retire c i k r).chan ch).sync = (s.chan ch).sync := by
  simp only [State.retire]
  all_goals simp [State.modChan_chan]

@[simp] theorem State.retire_chan_delay (s : State) (c : Channel) (i : SlotIx) (k : Cue) (r : Result) (ch : Channel) :
    ((s.retire c i k r).chan ch).delay = (s.chan ch).delay := by
  simp only [State.retire]
  all_goals simp [State.modChan_chan]

@[simp] theorem State.retire_chan_calibration (s : State) (c : Channel) (i : SlotIx) (k : Cue) (r : Result) (ch : Channel) :
    ((s.retire c i k r).chan ch).calibration = (s.chan ch).calibration := by
  simp only [State.retire]
  all_goals simp [State.modChan_chan]

@[simp] theorem State.retire_chan_latches (s : State) (c : Channel) (i : SlotIx) (k : Cue) (r : Result) (ch : Channel) :
    ((s.retire c i k r).chan ch).latches = (s.chan ch).latches := by
  simp only [State.retire]
  all_goals simp [State.modChan_chan]

@[simp] theorem State.deliver_chan_ne (s : State) (c : Channel) (h : Handle) (k : Cue) {ch : Channel} (hne : ch ≠ c) :
    (s.deliver c h k).chan ch = s.chan ch := by
  simp only [State.deliver]
  all_goals repeat' split
  all_goals simp [hne, State.modChan_chan_ne]

@[simp] theorem State.deliver_chan_clock (s : State) (c : Channel) (h : Handle) (k : Cue) (ch : Channel) :
    ((s.deliver c h k).chan ch).clock = (s.chan ch).clock := by
  simp only [State.deliver]
  all_goals repeat' split
  all_goals simp [State.modChan_chan]

@[simp] theorem State.deliver_chan_report (s : State) (c : Channel) (h : Handle) (k : Cue) (ch : Channel) :
    ((s.deliver c h k).chan ch).report = (s.chan ch).report := by
  simp only [State.deliver]
  all_goals repeat' split
  all_goals simp [State.modChan_chan]

@[simp] theorem State.deliver_chan_presets (s : State) (c : Channel) (h : Handle) (k : Cue) (ch : Channel) :
    ((s.deliver c h k).chan ch).presets = (s.chan ch).presets := by
  simp only [State.deliver]
  all_goals repeat' split
  all_goals simp [State.modChan_chan]

@[simp] theorem State.deliver_chan_sync (s : State) (c : Channel) (h : Handle) (k : Cue) (ch : Channel) :
    ((s.deliver c h k).chan ch).sync = (s.chan ch).sync := by
  simp only [State.deliver]
  all_goals repeat' split
  all_goals simp [State.modChan_chan]

@[simp] theorem State.deliver_chan_calibration (s : State) (c : Channel) (h : Handle) (k : Cue) (ch : Channel) :
    ((s.deliver c h k).chan ch).calibration = (s.chan ch).calibration := by
  simp only [State.deliver]
  all_goals repeat' split
  all_goals simp [State.modChan_chan]

@[simp] theorem State.deliver_chan_latches (s : State) (c : Channel) (h : Handle) (k : Cue) (ch : Channel) :
    ((s.deliver c h k).chan ch).latches = (s.chan ch).latches := by
  simp only [State.deliver]
  all_goals repeat' split
  all_goals simp [State.modChan_chan]

@[simp] theorem State.fireCue_chan_ne (s : State) (c : Channel) (r : Result) (i : SlotIx) {ch : Channel} (hne : ch ≠ c) :
    (s.fireCue c r i).chan ch = s.chan ch := by
  simp only [State.fireCue]
  all_goals repeat' split
  all_goals simp [hne, State.modChan_chan_ne]

@[simp] theorem State.fireCue_chan_clock (s : State) (c : Channel) (r : Result) (i : SlotIx) (ch : Channel) :
    ((s.fireCue c r i).chan ch).clock = (s.chan ch).clock := by
  simp only [State.fireCue]
  all_goals repeat' split
  all_goals simp [State.modChan_chan]

@[simp] theorem State.fireCue_chan_report (s : State) (c : Channel) (r : Result) (i : SlotIx) (ch : Channel) :
    ((s.fireCue c r i).chan ch).report = (s.chan ch).report := by
  simp only [State.fireCue]
  all_goals repeat' split
  all_goals simp [State.modChan_chan]

@[simp] theorem State.fireCue_chan_presets (s : State) (c : Channel) (r : Result) (i : SlotIx) (ch : Channel) :
    ((s.fireCue c r i).chan ch).presets = (s.chan ch).presets := by
  simp only [State.fireCue]
  all_goals repeat' split
  all_goals simp [State.modChan_chan]

@[simp] theorem State.fireCue_chan_sync (s : State) (c : Channel) (r : Result) (i : SlotIx) (ch : Channel) :
    ((s.fireCue c r i).chan ch).sync = (s.chan ch).sync := by
  simp only [State.fireCue]
  all_goals repeat' split
  all_goals simp [State.modChan_chan]

@[simp] theorem State.fireCue_chan_calibration (s : State) (c : Channel) (r : Result) (i : SlotIx) (ch : Channel) :
    ((s.fireCue c r i).chan ch).calibration = (s.chan ch).calibration := by
  simp only [State.fireCue]
  all_goals repeat' split
  all_goals simp [State.modChan_chan]

@[simp] theorem State.fireCue_chan_latches (s : State) (c : Channel) (r : Result) (i : SlotIx) (ch : Channel) :
    ((s.fireCue c r i).chan ch).latches = (s.chan ch).latches := by
  simp only [State.fireCue]
  all_goals repeat' split
  all_goals simp [State.modChan_chan]

@[simp] theorem State.missCue_chan_ne (s : State) (c : Channel) (i : SlotIx) {ch : Channel} (hne : ch ≠ c) :
    (s.missCue c i).chan ch = s.chan ch := by
  simp only [State.missCue]
  all_goals repeat' split
  all_goals simp [hne, State.modChan_chan_ne]

@[simp] theorem State.missCue_chan_clock (s : State) (c : Channel) (i : SlotIx) (ch : Channel) :
    ((s.missCue c i).chan ch).clock = (s.chan ch).clock := by
  simp only [State.missCue]
  all_goals repeat' split
  all_goals simp [State.modChan_chan]

@[simp] theorem State.missCue_chan_report (s : State) (c : Channel) (i : SlotIx) (ch : Channel) :
    ((s.missCue c i).chan ch).report = (s.chan ch).report := by
  simp only [State.missCue]
  all_goals repeat' split
  all_goals simp [State.modChan_chan]

@[simp] theorem State.missCue_chan_window (s : State) (c : Channel) (i : SlotIx) (ch : Channel) :
    ((s.missCue c i).chan ch).window = (s.chan ch).window := by
  simp only [State.missCue]
  all_goals repeat' split
  all_goals simp [State.modChan_chan]

@[simp] theorem State.missCue_chan_presets (s : State) (c : Channel) (i : SlotIx) (ch : Channel) :
    ((s.missCue c i).chan ch).presets = (s.chan ch).presets := by
  simp only [State.missCue]
  all_goals repeat' split
  all_goals simp [State.modChan_chan]

@[simp] theorem State.missCue_chan_sync (s : State) (c : Channel) (i : SlotIx) (ch : Channel) :
    ((s.missCue c i).chan ch).sync = (s.chan ch).sync := by
  simp only [State.missCue]
  all_goals repeat' split
  all_goals simp [State.modChan_chan]

@[simp] theorem State.missCue_chan_delay (s : State) (c : Channel) (i : SlotIx) (ch : Channel) :
    ((s.missCue c i).chan ch).delay = (s.chan ch).delay := by
  simp only [State.missCue]
  all_goals repeat' split
  all_goals simp [State.modChan_chan]

@[simp] theorem State.missCue_chan_calibration (s : State) (c : Channel) (i : SlotIx) (ch : Channel) :
    ((s.missCue c i).chan ch).calibration = (s.chan ch).calibration := by
  simp only [State.missCue]
  all_goals repeat' split
  all_goals simp [State.modChan_chan]

@[simp] theorem State.missCue_chan_latches (s : State) (c : Channel) (i : SlotIx) (ch : Channel) :
    ((s.missCue c i).chan ch).latches = (s.chan ch).latches := by
  simp only [State.missCue]
  all_goals repeat' split
  all_goals simp [State.modChan_chan]

@[simp] theorem State.cancelCue_chan_ne (s : State) (c : Channel) (i : SlotIx) {ch : Channel} (hne : ch ≠ c) :
    (s.cancelCue c i).chan ch = s.chan ch := by
  simp only [State.cancelCue]
  all_goals repeat' split
  all_goals simp [hne, State.modChan_chan_ne]

@[simp] theorem State.cancelCue_chan_clock (s : State) (c : Channel) (i : SlotIx) (ch : Channel) :
    ((s.cancelCue c i).chan ch).clock = (s.chan ch).clock := by
  simp only [State.cancelCue]
  all_goals repeat' split
  all_goals simp [State.modChan_chan]

@[simp] theorem State.cancelCue_chan_report (s : State) (c : Channel) (i : SlotIx) (ch : Channel) :
    ((s.cancelCue c i).chan ch).report = (s.chan ch).report := by
  simp only [State.cancelCue]
  all_goals repeat' split
  all_goals simp [State.modChan_chan]

@[simp] theorem State.cancelCue_chan_window (s : State) (c : Channel) (i : SlotIx) (ch : Channel) :
    ((s.cancelCue c i).chan ch).window = (s.chan ch).window := by
  simp only [State.cancelCue]
  all_goals repeat' split
  all_goals simp [State.modChan_chan]

@[simp] theorem State.cancelCue_chan_presets (s : State) (c : Channel) (i : SlotIx) (ch : Channel) :
    ((s.cancelCue c i).chan ch).presets = (s.chan ch).presets := by
  simp only [State.cancelCue]
  all_goals repeat' split
  all_goals simp [State.modChan_chan]

@[simp] theorem State.cancelCue_chan_sync (s : State) (c : Channel) (i : SlotIx) (ch : Channel) :
    ((s.cancelCue c i).chan ch).sync = (s.chan ch).sync := by
  simp only [State.cancelCue]
  all_goals repeat' split
  all_goals simp [State.modChan_chan]

@[simp] theorem State.cancelCue_chan_delay (s : State) (c : Channel) (i : SlotIx) (ch : Channel) :
    ((s.cancelCue c i).chan ch).delay = (s.chan ch).delay := by
  simp only [State.cancelCue]
  all_goals repeat' split
  all_goals simp [State.modChan_chan]

@[simp] theorem State.cancelCue_chan_calibration (s : State) (c : Channel) (i : SlotIx) (ch : Channel) :
    ((s.cancelCue c i).chan ch).calibration = (s.chan ch).calibration := by
  simp only [State.cancelCue]
  all_goals repeat' split
  all_goals simp [State.modChan_chan]

@[simp] theorem State.cancelCue_chan_latches (s : State) (c : Channel) (i : SlotIx) (ch : Channel) :
    ((s.cancelCue c i).chan ch).latches = (s.chan ch).latches := by
  simp only [State.cancelCue]
  all_goals repeat' split
  all_goals simp [State.modChan_chan]

@[simp] theorem State.fireEdge_chan_ne (s : State) (g : GpiIx) (c : Channel) {ch : Channel} (hne : ch ≠ c) :
    (s.fireEdge g c).chan ch = s.chan ch := by
  simp only [State.fireEdge]
  all_goals repeat' split
  all_goals simp [hne, State.modChan_chan_ne]

@[simp] theorem State.fireEdge_chan_clock (s : State) (g : GpiIx) (c : Channel) (ch : Channel) :
    ((s.fireEdge g c).chan ch).clock = (s.chan ch).clock := by
  simp only [State.fireEdge]
  all_goals repeat' split
  all_goals simp [State.modChan_chan]

@[simp] theorem State.fireEdge_chan_report (s : State) (g : GpiIx) (c : Channel) (ch : Channel) :
    ((s.fireEdge g c).chan ch).report = (s.chan ch).report := by
  simp only [State.fireEdge]
  all_goals repeat' split
  all_goals simp [State.modChan_chan]

@[simp] theorem State.fireEdge_chan_presets (s : State) (g : GpiIx) (c : Channel) (ch : Channel) :
    ((s.fireEdge g c).chan ch).presets = (s.chan ch).presets := by
  simp only [State.fireEdge]
  all_goals repeat' split
  all_goals simp [State.modChan_chan]

@[simp] theorem State.fireEdge_chan_sync (s : State) (g : GpiIx) (c : Channel) (ch : Channel) :
    ((s.fireEdge g c).chan ch).sync = (s.chan ch).sync := by
  simp only [State.fireEdge]
  all_goals repeat' split
  all_goals simp [State.modChan_chan]

@[simp] theorem State.fireEdge_chan_calibration (s : State) (g : GpiIx) (c : Channel) (ch : Channel) :
    ((s.fireEdge g c).chan ch).calibration = (s.chan ch).calibration := by
  simp only [State.fireEdge]
  all_goals repeat' split
  all_goals simp [State.modChan_chan]

@[simp] theorem State.fireEdge_chan_latches (s : State) (g : GpiIx) (c : Channel) (ch : Channel) :
    ((s.fireEdge g c).chan ch).latches = (s.chan ch).latches := by
  simp only [State.fireEdge]
  all_goals repeat' split
  all_goals simp [State.modChan_chan]

@[simp] theorem State.takeContact_chan_ne (s : State) (c : Channel) {ch : Channel} (hne : ch ≠ c) :
    (s.takeContact c).chan ch = s.chan ch := by
  simp only [State.takeContact]
  all_goals simp [hne, State.modChan_chan_ne]

@[simp] theorem State.takeContact_chan_clock (s : State) (c : Channel) (ch : Channel) :
    ((s.takeContact c).chan ch).clock = (s.chan ch).clock := by
  simp only [State.takeContact]
  all_goals simp [State.modChan_chan]
  all_goals repeat' split
  all_goals simp_all

@[simp] theorem State.takeContact_chan_report (s : State) (c : Channel) (ch : Channel) :
    ((s.takeContact c).chan ch).report = (s.chan ch).report := by
  simp only [State.takeContact]
  all_goals simp [State.modChan_chan]
  all_goals repeat' split
  all_goals simp_all

@[simp] theorem State.takeContact_chan_scheduler (s : State) (c : Channel) (ch : Channel) :
    ((s.takeContact c).chan ch).scheduler = (s.chan ch).scheduler := by
  simp only [State.takeContact]
  all_goals simp [State.modChan_chan]
  all_goals repeat' split
  all_goals simp_all

@[simp] theorem State.takeContact_chan_presets (s : State) (c : Channel) (ch : Channel) :
    ((s.takeContact c).chan ch).presets = (s.chan ch).presets := by
  simp only [State.takeContact]
  all_goals simp [State.modChan_chan]
  all_goals repeat' split
  all_goals simp_all

@[simp] theorem State.takeContact_chan_sync (s : State) (c : Channel) (ch : Channel) :
    ((s.takeContact c).chan ch).sync = (s.chan ch).sync := by
  simp only [State.takeContact]
  all_goals simp [State.modChan_chan]
  all_goals repeat' split
  all_goals simp_all

@[simp] theorem State.takeContact_chan_delay (s : State) (c : Channel) (ch : Channel) :
    ((s.takeContact c).chan ch).delay = (s.chan ch).delay := by
  simp only [State.takeContact]
  all_goals simp [State.modChan_chan]
  all_goals repeat' split
  all_goals simp_all

@[simp] theorem State.takeContact_chan_calibration (s : State) (c : Channel) (ch : Channel) :
    ((s.takeContact c).chan ch).calibration = (s.chan ch).calibration := by
  simp only [State.takeContact]
  all_goals simp [State.modChan_chan]
  all_goals repeat' split
  all_goals simp_all

@[simp] theorem State.takeContact_chan_latches (s : State) (c : Channel) (ch : Channel) :
    ((s.takeContact c).chan ch).latches = (s.chan ch).latches := by
  simp only [State.takeContact]
  all_goals simp [State.modChan_chan]
  all_goals repeat' split
  all_goals simp_all

@[simp] theorem State.takeContacts_chan_clock (s : State)  (ch : Channel) :
    ((s.takeContacts).chan ch).clock = (s.chan ch).clock := by
  simp only [State.takeContacts, State.eachChannel_eq]
  all_goals simp [State.modChan_chan]

@[simp] theorem State.takeContacts_chan_report (s : State)  (ch : Channel) :
    ((s.takeContacts).chan ch).report = (s.chan ch).report := by
  simp only [State.takeContacts, State.eachChannel_eq]
  all_goals simp [State.modChan_chan]

@[simp] theorem State.takeContacts_chan_scheduler (s : State)  (ch : Channel) :
    ((s.takeContacts).chan ch).scheduler = (s.chan ch).scheduler := by
  simp only [State.takeContacts, State.eachChannel_eq]
  all_goals simp [State.modChan_chan]

@[simp] theorem State.takeContacts_chan_presets (s : State)  (ch : Channel) :
    ((s.takeContacts).chan ch).presets = (s.chan ch).presets := by
  simp only [State.takeContacts, State.eachChannel_eq]
  all_goals simp [State.modChan_chan]

@[simp] theorem State.takeContacts_chan_sync (s : State)  (ch : Channel) :
    ((s.takeContacts).chan ch).sync = (s.chan ch).sync := by
  simp only [State.takeContacts, State.eachChannel_eq]
  all_goals simp [State.modChan_chan]

@[simp] theorem State.takeContacts_chan_delay (s : State)  (ch : Channel) :
    ((s.takeContacts).chan ch).delay = (s.chan ch).delay := by
  simp only [State.takeContacts, State.eachChannel_eq]
  all_goals simp [State.modChan_chan]

@[simp] theorem State.takeContacts_chan_calibration (s : State)  (ch : Channel) :
    ((s.takeContacts).chan ch).calibration = (s.chan ch).calibration := by
  simp only [State.takeContacts, State.eachChannel_eq]
  all_goals simp [State.modChan_chan]

@[simp] theorem State.takeContacts_chan_latches (s : State)  (ch : Channel) :
    ((s.takeContacts).chan ch).latches = (s.chan ch).latches := by
  simp only [State.takeContacts, State.eachChannel_eq]
  all_goals simp [State.modChan_chan]

@[simp] theorem State.updateTally_chan (s : State) (t : TallyIx) (ch : Channel) :
    (s.updateTally t).chan ch = s.chan ch := by
  simp only [State.chan, State.updateTally_channels]

@[simp] theorem State.dealPassed_chan_ne (s : State) (c : Channel) (x : Scan) (l : List SlotIx) {ch : Channel} (hne : ch ≠ c) :
    (s.dealPassed c x l).chan ch = s.chan ch := by
  simp only [State.dealPassed]
  all_goals repeat' split
  all_goals simp [foldl_chan, hne]

@[simp] theorem State.dealPassed_chan_clock (s : State) (c : Channel) (x : Scan) (l : List SlotIx) (ch : Channel) :
    ((s.dealPassed c x l).chan ch).clock = (s.chan ch).clock := by
  simp only [State.dealPassed]
  all_goals repeat' split
  all_goals simp [foldl_keeps (g := fun t => (State.chan t ch).clock)]

@[simp] theorem State.dealPassed_chan_report (s : State) (c : Channel) (x : Scan) (l : List SlotIx) (ch : Channel) :
    ((s.dealPassed c x l).chan ch).report = (s.chan ch).report := by
  simp only [State.dealPassed]
  all_goals repeat' split
  all_goals simp [foldl_keeps (g := fun t => (State.chan t ch).report)]

@[simp] theorem State.dealPassed_chan_presets (s : State) (c : Channel) (x : Scan) (l : List SlotIx) (ch : Channel) :
    ((s.dealPassed c x l).chan ch).presets = (s.chan ch).presets := by
  simp only [State.dealPassed]
  all_goals repeat' split
  all_goals simp [foldl_keeps (g := fun t => (State.chan t ch).presets)]

@[simp] theorem State.dealPassed_chan_sync (s : State) (c : Channel) (x : Scan) (l : List SlotIx) (ch : Channel) :
    ((s.dealPassed c x l).chan ch).sync = (s.chan ch).sync := by
  simp only [State.dealPassed]
  all_goals repeat' split
  all_goals simp [foldl_keeps (g := fun t => (State.chan t ch).sync)]

@[simp] theorem State.dealPassed_chan_calibration (s : State) (c : Channel) (x : Scan) (l : List SlotIx) (ch : Channel) :
    ((s.dealPassed c x l).chan ch).calibration = (s.chan ch).calibration := by
  simp only [State.dealPassed]
  all_goals repeat' split
  all_goals simp [foldl_keeps (g := fun t => (State.chan t ch).calibration)]

@[simp] theorem State.dealPassed_chan_latches (s : State) (c : Channel) (x : Scan) (l : List SlotIx) (ch : Channel) :
    ((s.dealPassed c x l).chan ch).latches = (s.chan ch).latches := by
  simp only [State.dealPassed]
  all_goals repeat' split
  all_goals simp [foldl_keeps (g := fun t => (State.chan t ch).latches)]

@[simp] theorem State.scanCues_chan_ne (s : State) (c : Channel) (r : StepReport) {ch : Channel} (hne : ch ≠ c) :
    (s.scanCues c r).chan ch = s.chan ch := by
  simp only [State.scanCues]
  all_goals simp [foldl_chan, hne]

@[simp] theorem State.scanCues_chan_clock (s : State) (c : Channel) (r : StepReport) (ch : Channel) :
    ((s.scanCues c r).chan ch).clock = (s.chan ch).clock := by
  simp only [State.scanCues]
  all_goals simp [foldl_keeps (g := fun t => (State.chan t ch).clock)]

@[simp] theorem State.scanCues_chan_report (s : State) (c : Channel) (r : StepReport) (ch : Channel) :
    ((s.scanCues c r).chan ch).report = (s.chan ch).report := by
  simp only [State.scanCues]
  all_goals simp [foldl_keeps (g := fun t => (State.chan t ch).report)]

@[simp] theorem State.scanCues_chan_presets (s : State) (c : Channel) (r : StepReport) (ch : Channel) :
    ((s.scanCues c r).chan ch).presets = (s.chan ch).presets := by
  simp only [State.scanCues]
  all_goals simp [foldl_keeps (g := fun t => (State.chan t ch).presets)]

@[simp] theorem State.scanCues_chan_sync (s : State) (c : Channel) (r : StepReport) (ch : Channel) :
    ((s.scanCues c r).chan ch).sync = (s.chan ch).sync := by
  simp only [State.scanCues]
  all_goals simp [foldl_keeps (g := fun t => (State.chan t ch).sync)]

@[simp] theorem State.scanCues_chan_calibration (s : State) (c : Channel) (r : StepReport) (ch : Channel) :
    ((s.scanCues c r).chan ch).calibration = (s.chan ch).calibration := by
  simp only [State.scanCues]
  all_goals simp [foldl_keeps (g := fun t => (State.chan t ch).calibration)]

@[simp] theorem State.scanCues_chan_latches (s : State) (c : Channel) (r : StepReport) (ch : Channel) :
    ((s.scanCues c r).chan ch).latches = (s.chan ch).latches := by
  simp only [State.scanCues]
  all_goals simp [foldl_keeps (g := fun t => (State.chan t ch).latches)]

@[simp] theorem State.scheduleCues_chan_ne (s : State) (c : Channel) (r : StepReport) {ch : Channel} (hne : ch ≠ c) :
    (s.scheduleCues c r).chan ch = s.chan ch := by
  simp only [State.scheduleCues]
  all_goals repeat' split
  all_goals simp [hne, State.modChan_chan_ne]

@[simp] theorem State.scheduleCues_chan_clock (s : State) (c : Channel) (r : StepReport) (ch : Channel) :
    ((s.scheduleCues c r).chan ch).clock = (s.chan ch).clock := by
  simp only [State.scheduleCues]
  all_goals repeat' split
  all_goals simp [State.modChan_chan]

@[simp] theorem State.scheduleCues_chan_report (s : State) (c : Channel) (r : StepReport) (ch : Channel) :
    ((s.scheduleCues c r).chan ch).report = (s.chan ch).report := by
  simp only [State.scheduleCues]
  all_goals repeat' split
  all_goals simp [State.modChan_chan]

@[simp] theorem State.scheduleCues_chan_presets (s : State) (c : Channel) (r : StepReport) (ch : Channel) :
    ((s.scheduleCues c r).chan ch).presets = (s.chan ch).presets := by
  simp only [State.scheduleCues]
  all_goals repeat' split
  all_goals simp [State.modChan_chan]

@[simp] theorem State.scheduleCues_chan_sync (s : State) (c : Channel) (r : StepReport) (ch : Channel) :
    ((s.scheduleCues c r).chan ch).sync = (s.chan ch).sync := by
  simp only [State.scheduleCues]
  all_goals repeat' split
  all_goals simp [State.modChan_chan]

@[simp] theorem State.scheduleCues_chan_calibration (s : State) (c : Channel) (r : StepReport) (ch : Channel) :
    ((s.scheduleCues c r).chan ch).calibration = (s.chan ch).calibration := by
  simp only [State.scheduleCues]
  all_goals repeat' split
  all_goals simp [State.modChan_chan]

@[simp] theorem State.scheduleCues_chan_latches (s : State) (c : Channel) (r : StepReport) (ch : Channel) :
    ((s.scheduleCues c r).chan ch).latches = (s.chan ch).latches := by
  simp only [State.scheduleCues]
  all_goals repeat' split
  all_goals simp [State.modChan_chan]

@[simp] theorem State.reportCues_chan_ne (s : State) (c : Channel) {ch : Channel} (hne : ch ≠ c) :
    (s.reportCues c).chan ch = s.chan ch := by
  simp only [State.reportCues]
  all_goals repeat' split
  all_goals simp [hne, State.modChan_chan_ne]

@[simp] theorem State.reportCues_chan_clock (s : State) (c : Channel) (ch : Channel) :
    ((s.reportCues c).chan ch).clock = (s.chan ch).clock := by
  simp only [State.reportCues]
  all_goals repeat' split
  all_goals simp [State.modChan_chan]

@[simp] theorem State.reportCues_chan_report (s : State) (c : Channel) (ch : Channel) :
    ((s.reportCues c).chan ch).report = (s.chan ch).report := by
  simp only [State.reportCues]
  all_goals repeat' split
  all_goals simp [State.modChan_chan]

@[simp] theorem State.reportCues_chan_presets (s : State) (c : Channel) (ch : Channel) :
    ((s.reportCues c).chan ch).presets = (s.chan ch).presets := by
  simp only [State.reportCues]
  all_goals repeat' split
  all_goals simp [State.modChan_chan]

@[simp] theorem State.reportCues_chan_sync (s : State) (c : Channel) (ch : Channel) :
    ((s.reportCues c).chan ch).sync = (s.chan ch).sync := by
  simp only [State.reportCues]
  all_goals repeat' split
  all_goals simp [State.modChan_chan]

@[simp] theorem State.reportCues_chan_calibration (s : State) (c : Channel) (ch : Channel) :
    ((s.reportCues c).chan ch).calibration = (s.chan ch).calibration := by
  simp only [State.reportCues]
  all_goals repeat' split
  all_goals simp [State.modChan_chan]

@[simp] theorem State.reportCues_chan_latches (s : State) (c : Channel) (ch : Channel) :
    ((s.reportCues c).chan ch).latches = (s.chan ch).latches := by
  simp only [State.reportCues]
  all_goals repeat' split
  all_goals simp [State.modChan_chan]

@[simp] theorem State.reportSpans_chan_ne (s : State) (c : Channel) {ch : Channel} (hne : ch ≠ c) :
    (s.reportSpans c).chan ch = s.chan ch := by
  simp only [State.reportSpans]
  all_goals repeat' split
  all_goals simp [hne, State.modChan_chan_ne]

@[simp] theorem State.reportSpans_chan_clock (s : State) (c : Channel) (ch : Channel) :
    ((s.reportSpans c).chan ch).clock = (s.chan ch).clock := by
  simp only [State.reportSpans]
  all_goals repeat' split
  all_goals simp [State.modChan_chan]

@[simp] theorem State.reportSpans_chan_report (s : State) (c : Channel) (ch : Channel) :
    ((s.reportSpans c).chan ch).report = (s.chan ch).report := by
  simp only [State.reportSpans]
  all_goals repeat' split
  all_goals simp [State.modChan_chan]

@[simp] theorem State.reportSpans_chan_scheduler (s : State) (c : Channel) (ch : Channel) :
    ((s.reportSpans c).chan ch).scheduler = (s.chan ch).scheduler := by
  simp only [State.reportSpans]
  all_goals repeat' split
  all_goals simp [State.modChan_chan]

@[simp] theorem State.reportSpans_chan_presets (s : State) (c : Channel) (ch : Channel) :
    ((s.reportSpans c).chan ch).presets = (s.chan ch).presets := by
  simp only [State.reportSpans]
  all_goals repeat' split
  all_goals simp [State.modChan_chan]

@[simp] theorem State.reportSpans_chan_sync (s : State) (c : Channel) (ch : Channel) :
    ((s.reportSpans c).chan ch).sync = (s.chan ch).sync := by
  simp only [State.reportSpans]
  all_goals repeat' split
  all_goals simp [State.modChan_chan]

@[simp] theorem State.reportSpans_chan_delay (s : State) (c : Channel) (ch : Channel) :
    ((s.reportSpans c).chan ch).delay = (s.chan ch).delay := by
  simp only [State.reportSpans]
  all_goals repeat' split
  all_goals simp [State.modChan_chan]

@[simp] theorem State.reportSpans_chan_calibration (s : State) (c : Channel) (ch : Channel) :
    ((s.reportSpans c).chan ch).calibration = (s.chan ch).calibration := by
  simp only [State.reportSpans]
  all_goals repeat' split
  all_goals simp [State.modChan_chan]

@[simp] theorem State.reportSpans_chan_latches (s : State) (c : Channel) (ch : Channel) :
    ((s.reportSpans c).chan ch).latches = (s.chan ch).latches := by
  simp only [State.reportSpans]
  all_goals repeat' split
  all_goals simp [State.modChan_chan]

@[simp] theorem State.deliverReport_chan_ne (s : State) (c : Channel) (o : ReportOrder) {ch : Channel} (hne : ch ≠ c) :
    (s.deliverReport c o).chan ch = s.chan ch := by
  cases o <;> simp only [State.deliverReport]
  all_goals simp [hne, State.modChan_chan_ne]

@[simp] theorem State.deliverReport_chan_clock (s : State) (c : Channel) (o : ReportOrder) (ch : Channel) :
    ((s.deliverReport c o).chan ch).clock = (s.chan ch).clock := by
  cases o <;> simp only [State.deliverReport]
  all_goals simp [State.modChan_chan]

@[simp] theorem State.deliverReport_chan_report (s : State) (c : Channel) (o : ReportOrder) (ch : Channel) :
    ((s.deliverReport c o).chan ch).report = (s.chan ch).report := by
  cases o <;> simp only [State.deliverReport]
  all_goals simp [State.modChan_chan]

@[simp] theorem State.deliverReport_chan_presets (s : State) (c : Channel) (o : ReportOrder) (ch : Channel) :
    ((s.deliverReport c o).chan ch).presets = (s.chan ch).presets := by
  cases o <;> simp only [State.deliverReport]
  all_goals simp [State.modChan_chan]

@[simp] theorem State.deliverReport_chan_sync (s : State) (c : Channel) (o : ReportOrder) (ch : Channel) :
    ((s.deliverReport c o).chan ch).sync = (s.chan ch).sync := by
  cases o <;> simp only [State.deliverReport]
  all_goals simp [State.modChan_chan]

@[simp] theorem State.deliverReport_chan_calibration (s : State) (c : Channel) (o : ReportOrder) (ch : Channel) :
    ((s.deliverReport c o).chan ch).calibration = (s.chan ch).calibration := by
  cases o <;> simp only [State.deliverReport]
  all_goals simp [State.modChan_chan]

@[simp] theorem State.deliverReport_chan_latches (s : State) (c : Channel) (o : ReportOrder) (ch : Channel) :
    ((s.deliverReport c o).chan ch).latches = (s.chan ch).latches := by
  cases o <;> simp only [State.deliverReport]
  all_goals simp [State.modChan_chan]

@[simp] theorem State.reportClock_chan_ne (s : State) (c : Channel) (k : CueClock) (f : FrameKind) {ch : Channel} (hne : ch ≠ c) :
    (s.reportClock c k f).chan ch = s.chan ch := by
  simp only [State.reportClock]
  all_goals repeat' split
  all_goals simp [hne, State.modChan_chan_ne]

/-- A report of the clock leaves a scheduler as it was but for the note that a hold takes of it (R44). -/
@[simp] theorem State.reportClock_chan_scheduler (s : State) (c : Channel) (k : CueClock) (f : FrameKind) (ch : Channel) :
    ((s.reportClock c k f).chan ch).scheduler
      = if ch = c then (s.chan ch).scheduler.noteReport else (s.chan ch).scheduler := by
  simp only [State.reportClock]
  all_goals repeat' split
  all_goals simp [State.modChan_chan]
  all_goals repeat' split
  all_goals simp_all

/-- What noting a report can do to a scheduler (R44): it sets `reported` in a hold, and nothing else. -/
theorem Scheduler.noteReport_eq (k : Scheduler) :
    k.noteReport = { k with reported := k.reported || !k.hold.isEmpty } := rfl

/-- What putting a hold set in place can do to a scheduler (R44): the hold set becomes the one given, and the
resume flag and the note of a report change only where a hold begins or ends. -/
theorem Scheduler.setHold_eq (k : Scheduler) (h : PortSet) :
    ∃ resume reported, k.setHold h = { k with hold := h, resume := resume, reported := reported }
      ∧ (k.hold.isEmpty = h.isEmpty → resume = k.resume ∧ reported = k.reported)
      ∧ (k.hold.isEmpty = true → h.isEmpty = false → resume = true ∧ reported = (k.resume && k.reported))
      ∧ (k.hold.isEmpty = false → h.isEmpty = true →
        resume = (k.resume && k.reported) ∧ reported = k.reported) := by
  cases a : k.hold.isEmpty <;> cases b : h.isEmpty <;> simp [Scheduler.setHold, a, b]

@[simp] theorem State.reportClock_chan_window (s : State) (c : Channel) (k : CueClock) (f : FrameKind) (ch : Channel) :
    ((s.reportClock c k f).chan ch).window = (s.chan ch).window := by
  simp only [State.reportClock]
  all_goals repeat' split
  all_goals simp [State.modChan_chan]
  all_goals repeat' split
  all_goals simp_all

@[simp] theorem State.reportClock_chan_presets (s : State) (c : Channel) (k : CueClock) (f : FrameKind) (ch : Channel) :
    ((s.reportClock c k f).chan ch).presets = (s.chan ch).presets := by
  simp only [State.reportClock]
  all_goals repeat' split
  all_goals simp [State.modChan_chan]
  all_goals repeat' split
  all_goals simp_all

@[simp] theorem State.reportClock_chan_sync (s : State) (c : Channel) (k : CueClock) (f : FrameKind) (ch : Channel) :
    ((s.reportClock c k f).chan ch).sync = (s.chan ch).sync := by
  simp only [State.reportClock]
  all_goals repeat' split
  all_goals simp [State.modChan_chan]
  all_goals repeat' split
  all_goals simp_all

@[simp] theorem State.reportClock_chan_delay (s : State) (c : Channel) (k : CueClock) (f : FrameKind) (ch : Channel) :
    ((s.reportClock c k f).chan ch).delay = (s.chan ch).delay := by
  simp only [State.reportClock]
  all_goals repeat' split
  all_goals simp [State.modChan_chan]
  all_goals repeat' split
  all_goals simp_all

@[simp] theorem State.reportClock_chan_calibration (s : State) (c : Channel) (k : CueClock) (f : FrameKind) (ch : Channel) :
    ((s.reportClock c k f).chan ch).calibration = (s.chan ch).calibration := by
  simp only [State.reportClock]
  all_goals repeat' split
  all_goals simp [State.modChan_chan]
  all_goals repeat' split
  all_goals simp_all

@[simp] theorem State.reportClock_chan_latches (s : State) (c : Channel) (k : CueClock) (f : FrameKind) (ch : Channel) :
    ((s.reportClock c k f).chan ch).latches = (s.chan ch).latches := by
  simp only [State.reportClock]
  all_goals repeat' split
  all_goals simp [State.modChan_chan]
  all_goals repeat' split
  all_goals simp_all

@[simp] theorem State.updateClock_chan_ne (s : State) (c : Channel) {ch : Channel} (hne : ch ≠ c) :
    (s.updateClock c).chan ch = s.chan ch := by
  simp only [State.updateClock]
  all_goals repeat' split
  all_goals simp [hne, State.modChan_chan_ne]

/-- The clock's part of an output frame start leaves a scheduler as it was but for the note that a hold takes of
a report made in an ordinary frame (R44). -/
@[simp] theorem State.updateClock_chan_scheduler (s : State) (c : Channel) (ch : Channel) :
    ((s.updateClock c).chan ch).scheduler
      = if s.timing.relocking = false ∧ ch = c then (s.chan ch).scheduler.noteReport
        else (s.chan ch).scheduler := by
  cases h : s.timing.relocking <;> simp [State.updateClock, h, State.modChan_chan]
  split <;> simp_all

@[simp] theorem State.updateClock_chan_window (s : State) (c : Channel) (ch : Channel) :
    ((s.updateClock c).chan ch).window = (s.chan ch).window := by
  simp only [State.updateClock]
  all_goals repeat' split
  all_goals simp [State.modChan_chan]
  all_goals repeat' split
  all_goals simp_all

@[simp] theorem State.updateClock_chan_presets (s : State) (c : Channel) (ch : Channel) :
    ((s.updateClock c).chan ch).presets = (s.chan ch).presets := by
  simp only [State.updateClock]
  all_goals repeat' split
  all_goals simp [State.modChan_chan]
  all_goals repeat' split
  all_goals simp_all

@[simp] theorem State.updateClock_chan_sync (s : State) (c : Channel) (ch : Channel) :
    ((s.updateClock c).chan ch).sync = (s.chan ch).sync := by
  simp only [State.updateClock]
  all_goals repeat' split
  all_goals simp [State.modChan_chan]
  all_goals repeat' split
  all_goals simp_all

@[simp] theorem State.updateClock_chan_delay (s : State) (c : Channel) (ch : Channel) :
    ((s.updateClock c).chan ch).delay = (s.chan ch).delay := by
  simp only [State.updateClock]
  all_goals repeat' split
  all_goals simp [State.modChan_chan]
  all_goals repeat' split
  all_goals simp_all

@[simp] theorem State.updateClock_chan_calibration (s : State) (c : Channel) (ch : Channel) :
    ((s.updateClock c).chan ch).calibration = (s.chan ch).calibration := by
  simp only [State.updateClock]
  all_goals repeat' split
  all_goals simp [State.modChan_chan]
  all_goals repeat' split
  all_goals simp_all

@[simp] theorem State.updateClock_chan_latches (s : State) (c : Channel) (ch : Channel) :
    ((s.updateClock c).chan ch).latches = (s.chan ch).latches := by
  simp only [State.updateClock]
  all_goals repeat' split
  all_goals simp [State.modChan_chan]
  all_goals repeat' split
  all_goals simp_all

@[simp] theorem State.fireEdges_chan_clock (s : State) (g : GpiIx) (e : List Channel) (ch : Channel) :
    ((s.fireEdges g e).chan ch).clock = (s.chan ch).clock := by
  simp only [State.fireEdges]
  all_goals repeat' split
  all_goals simp [foldl_keeps (g := fun t => (State.chan t ch).clock)]

@[simp] theorem State.fireEdges_chan_report (s : State) (g : GpiIx) (e : List Channel) (ch : Channel) :
    ((s.fireEdges g e).chan ch).report = (s.chan ch).report := by
  simp only [State.fireEdges]
  all_goals repeat' split
  all_goals simp [foldl_keeps (g := fun t => (State.chan t ch).report)]

@[simp] theorem State.fireEdges_chan_presets (s : State) (g : GpiIx) (e : List Channel) (ch : Channel) :
    ((s.fireEdges g e).chan ch).presets = (s.chan ch).presets := by
  simp only [State.fireEdges]
  all_goals repeat' split
  all_goals simp [foldl_keeps (g := fun t => (State.chan t ch).presets)]

@[simp] theorem State.fireEdges_chan_sync (s : State) (g : GpiIx) (e : List Channel) (ch : Channel) :
    ((s.fireEdges g e).chan ch).sync = (s.chan ch).sync := by
  simp only [State.fireEdges]
  all_goals repeat' split
  all_goals simp [foldl_keeps (g := fun t => (State.chan t ch).sync)]

@[simp] theorem State.fireEdges_chan_calibration (s : State) (g : GpiIx) (e : List Channel) (ch : Channel) :
    ((s.fireEdges g e).chan ch).calibration = (s.chan ch).calibration := by
  simp only [State.fireEdges]
  all_goals repeat' split
  all_goals simp [foldl_keeps (g := fun t => (State.chan t ch).calibration)]

@[simp] theorem State.fireEdges_chan_latches (s : State) (g : GpiIx) (e : List Channel) (ch : Channel) :
    ((s.fireEdges g e).chan ch).latches = (s.chan ch).latches := by
  simp only [State.fireEdges]
  all_goals repeat' split
  all_goals simp [foldl_keeps (g := fun t => (State.chan t ch).latches)]

@[simp] theorem State.updateTallies_chan (s : State) (c : Channel) (ch : Channel) :
    (s.updateTallies c).chan ch = s.chan ch := by
  simp only [State.chan, State.updateTallies_channels]

@[simp] theorem State.windowPeriod_chan_ne (s : State) (c : Channel) {ch : Channel} (hne : ch ≠ c) :
    (s.windowPeriod c).chan ch = s.chan ch := by
  simp only [State.windowPeriod]
  all_goals simp [hne, State.modChan_chan_ne]

@[simp] theorem State.windowPeriod_chan_clock (s : State) (c : Channel) (ch : Channel) :
    ((s.windowPeriod c).chan ch).clock = (s.chan ch).clock := by
  simp only [State.windowPeriod]
  all_goals simp [State.modChan_chan, ChannelState.latch]
  all_goals repeat' split
  all_goals simp_all

@[simp] theorem State.windowPeriod_chan_report (s : State) (c : Channel) (ch : Channel) :
    ((s.windowPeriod c).chan ch).report = (s.chan ch).report := by
  simp only [State.windowPeriod]
  all_goals simp [State.modChan_chan, ChannelState.latch]
  all_goals repeat' split
  all_goals simp_all

@[simp] theorem State.windowPeriod_chan_scheduler (s : State) (c : Channel) (ch : Channel) :
    ((s.windowPeriod c).chan ch).scheduler = (s.chan ch).scheduler := by
  simp only [State.windowPeriod]
  all_goals simp [State.modChan_chan, ChannelState.latch]
  all_goals repeat' split
  all_goals simp_all

@[simp] theorem State.windowPeriod_chan_presets (s : State) (c : Channel) (ch : Channel) :
    ((s.windowPeriod c).chan ch).presets = (s.chan ch).presets := by
  simp only [State.windowPeriod]
  all_goals simp [State.modChan_chan, ChannelState.latch]
  all_goals repeat' split
  all_goals simp_all

@[simp] theorem State.windowPeriod_chan_sync (s : State) (c : Channel) (ch : Channel) :
    ((s.windowPeriod c).chan ch).sync = (s.chan ch).sync := by
  simp only [State.windowPeriod]
  all_goals simp [State.modChan_chan, ChannelState.latch]
  all_goals repeat' split
  all_goals simp_all

@[simp] theorem State.windowPeriod_chan_delay (s : State) (c : Channel) (ch : Channel) :
    ((s.windowPeriod c).chan ch).delay = (s.chan ch).delay := by
  simp only [State.windowPeriod]
  all_goals simp [State.modChan_chan, ChannelState.latch]
  all_goals repeat' split
  all_goals simp_all

@[simp] theorem State.windowPeriod_chan_calibration (s : State) (c : Channel) (ch : Channel) :
    ((s.windowPeriod c).chan ch).calibration = (s.chan ch).calibration := by
  simp only [State.windowPeriod]
  all_goals simp [State.modChan_chan, ChannelState.latch]
  all_goals repeat' split
  all_goals simp_all

@[simp] theorem State.sampleGpi_chan_clock (s : State) (g : GpiIx) (v : Contact) (e : List Channel) (ch : Channel) :
    ((s.sampleGpi g v e).chan ch).clock = (s.chan ch).clock := by
  simp only [State.sampleGpi]
  all_goals repeat' split
  all_goals simp [State.modChan_chan]

@[simp] theorem State.sampleGpi_chan_report (s : State) (g : GpiIx) (v : Contact) (e : List Channel) (ch : Channel) :
    ((s.sampleGpi g v e).chan ch).report = (s.chan ch).report := by
  simp only [State.sampleGpi]
  all_goals repeat' split
  all_goals simp [State.modChan_chan]

@[simp] theorem State.sampleGpi_chan_presets (s : State) (g : GpiIx) (v : Contact) (e : List Channel) (ch : Channel) :
    ((s.sampleGpi g v e).chan ch).presets = (s.chan ch).presets := by
  simp only [State.sampleGpi]
  all_goals repeat' split
  all_goals simp [State.modChan_chan]

@[simp] theorem State.sampleGpi_chan_sync (s : State) (g : GpiIx) (v : Contact) (e : List Channel) (ch : Channel) :
    ((s.sampleGpi g v e).chan ch).sync = (s.chan ch).sync := by
  simp only [State.sampleGpi]
  all_goals repeat' split
  all_goals simp [State.modChan_chan]

@[simp] theorem State.sampleGpi_chan_calibration (s : State) (g : GpiIx) (v : Contact) (e : List Channel) (ch : Channel) :
    ((s.sampleGpi g v e).chan ch).calibration = (s.chan ch).calibration := by
  simp only [State.sampleGpi]
  all_goals repeat' split
  all_goals simp [State.modChan_chan]

@[simp] theorem State.sampleGpi_chan_latches (s : State) (g : GpiIx) (v : Contact) (e : List Channel) (ch : Channel) :
    ((s.sampleGpi g v e).chan ch).latches = (s.chan ch).latches := by
  simp only [State.sampleGpi]
  all_goals repeat' split
  all_goals simp [State.modChan_chan]

@[simp] theorem State.frameTask_chan_presets (s : State) (inputs : Bank 4 (List InputFrame)) (k : FrameTask) (ch : Channel) :
    ((State.frameTask inputs s k).chan ch).presets = (s.chan ch).presets := by
  cases k <;> simp only [State.frameTask]
  all_goals simp [State.modChan_chan]

@[simp] theorem State.frameTask_chan_sync (s : State) (inputs : Bank 4 (List InputFrame)) (k : FrameTask) (ch : Channel) :
    ((State.frameTask inputs s k).chan ch).sync = (s.chan ch).sync := by
  cases k <;> simp only [State.frameTask]
  all_goals simp [State.modChan_chan]

@[simp] theorem State.frameTask_chan_calibration (s : State) (inputs : Bank 4 (List InputFrame)) (k : FrameTask) (ch : Channel) :
    ((State.frameTask inputs s k).chan ch).calibration = (s.chan ch).calibration := by
  cases k <;> simp only [State.frameTask]
  all_goals simp [State.modChan_chan]

@[simp] theorem State.frameTask_chan_latches (s : State) (inputs : Bank 4 (List InputFrame)) (k : FrameTask) (ch : Channel) :
    ((State.frameTask inputs s k).chan ch).latches = (s.chan ch).latches := by
  cases k <;> simp only [State.frameTask]
  all_goals simp [State.modChan_chan]

@[simp] theorem State.periodTask_chan_clock (s : State) (b : Bank 8 Contact) (o : Bool) (k : PeriodTask) (ch : Channel) :
    ((State.periodTask b o s k).chan ch).clock = (s.chan ch).clock := by
  cases k <;> simp only [State.periodTask]
  all_goals simp [State.modChan_chan]

@[simp] theorem State.periodTask_chan_report (s : State) (b : Bank 8 Contact) (o : Bool) (k : PeriodTask) (ch : Channel) :
    ((State.periodTask b o s k).chan ch).report = (s.chan ch).report := by
  cases k <;> simp only [State.periodTask]
  all_goals simp [State.modChan_chan]

@[simp] theorem State.periodTask_chan_presets (s : State) (b : Bank 8 Contact) (o : Bool) (k : PeriodTask) (ch : Channel) :
    ((State.periodTask b o s k).chan ch).presets = (s.chan ch).presets := by
  cases k <;> simp only [State.periodTask]
  all_goals simp [State.modChan_chan]

end Sys2Proof.Machine
end

