-- ==== Sys2Proof/Laws/Orders.lean ====
section
/-! SUPPORT. The orders in which the parts of one event are taken: each part once, in an order that begins with
the one given. -/

namespace Sys2Proof.Machine

open Sys2Proof

section
variable {α κ : Type} [DecidableEq κ] (key : α → κ)

/-- A key is among those kept exactly when it is new and in the list. -/
theorem mem_keys_firstOfKey {k : κ} {l : List α} {seen : List κ} :
    k ∈ (firstOfKey key seen l).map key ↔ k ∈ l.map key ∧ k ∉ seen := by
  induction l generalizing seen with
  | nil => simp [firstOfKey]
  | cons x l ih =>
    simp only [firstOfKey]
    split
    · rename_i h
      rw [ih]
      simp only [List.map_cons, List.mem_cons]
      constructor
      · exact fun ⟨a, b⟩ => ⟨.inr a, b⟩
      · rintro ⟨rfl | a, b⟩
        · exact absurd h b
        · exact ⟨a, b⟩
    · rename_i h
      simp only [List.map_cons, List.mem_cons, ih, not_or]
      constructor
      · rintro (rfl | ⟨a, -, b⟩)
        · exact ⟨.inl rfl, h⟩
        · exact ⟨.inr a, b⟩
      · rintro ⟨rfl | a, b⟩
        · exact .inl rfl
        · by_cases e : k = key x
          · exact .inl e
          · exact .inr ⟨a, e, b⟩

/-- No key is kept twice. -/
theorem nodup_keys_firstOfKey (l : List α) (seen : List κ) :
    ((firstOfKey key seen l).map key).Nodup := by
  induction l generalizing seen with
  | nil => simp [firstOfKey]
  | cons x l ih =>
    simp only [firstOfKey]
    split
    · exact ih _
    · simp only [List.map_cons, List.nodup_cons]
      exact ⟨fun h => by simpa using ((mem_keys_firstOfKey key).1 h).2, ih _⟩

/-- A list whose keys are new and differ from one another stays as it is, at the front. -/
theorem firstOfKey_append {a : List α} (b : List α) {seen : List κ} (h : (a.map key).Nodup)
    (new : ∀ x ∈ a, key x ∉ seen) :
    firstOfKey key seen (a ++ b) = a ++ firstOfKey key ((a.map key).reverse ++ seen) b := by
  induction a generalizing seen with
  | nil => simp
  | cons x a ih =>
    simp only [List.map_cons, List.nodup_cons, List.mem_map, not_exists, not_and] at h
    have hx : key x ∉ seen := new x (by simp)
    simp only [List.cons_append, firstOfKey, hx, if_false]
    rw [ih h.2 fun y hy => by
      simp only [List.mem_cons, not_or]
      exact ⟨h.1 y hy, new y (by simp [hy])⟩]
    simp

/-- Keys that have all been met leave nothing. -/
theorem firstOfKey_seen {l : List α} {seen : List κ} (h : ∀ x ∈ l, key x ∈ seen) :
    firstOfKey key seen l = [] := by
  induction l with
  | nil => rfl
  | cons x l ih =>
    simp only [firstOfKey, h x (by simp), if_true]
    exact ih fun y hy => h y (by simp [hy])

end

/-- The parts of a period start are taken once each, whatever the order given. -/
theorem periodOrder_keys (order : List PeriodTask) :
    ((periodOrder order).map PeriodTask.key).Perm (List.range 20) := by
  unfold periodOrder
  rw [List.perm_ext_iff_of_nodup (nodup_keys_firstOfKey _ _ _) List.nodup_range]
  intro k
  rw [mem_keys_firstOfKey]
  simp only [List.map_append, List.mem_append, List.not_mem_nil, not_false_eq_true, and_true,
    List.mem_range]
  constructor
  · rintro (h | h)
    · obtain ⟨x, -, rfl⟩ := List.mem_map.1 h
      cases x <;> simp only [PeriodTask.key] <;> omega
    · revert k; decide
  · intro h
    refine .inr ?_
    revert k; decide

theorem periodOrder_nil : periodOrder [] = periodTasks := by decide

/-- The parts of an output frame start are taken once each, whatever the order given. -/
theorem frameOrder_perm (order : List FrameTask) : (frameOrder order).Perm frameTasks := by
  have nodup : (frameOrder order).Nodup := by
    have h := nodup_keys_firstOfKey id ((order ++ frameTasks).flatMap FrameTask.withBefore) []
    rwa [List.map_id] at h
  have all : ∀ x : FrameTask, x ∈ frameTasks := by
    intro x
    cases x <;> rename_i c <;> revert c <;> decide
  rw [List.perm_ext_iff_of_nodup nodup (by decide)]
  intro x
  have h := mem_keys_firstOfKey id (k := x) (l := (order ++ frameTasks).flatMap FrameTask.withBefore)
    (seen := [])
  simp only [List.map_id, List.not_mem_nil, not_false_eq_true, and_true] at h
  simp only [frameOrder, h, all x, iff_true, List.mem_flatMap]
  exact ⟨x, by simp [all x], by cases x <;> simp [FrameTask.withBefore]⟩

theorem frameOrder_nil : frameOrder [] = frameTasks := by decide

/-- A part that comes before another wherever that stands is kept before it. -/
theorem firstOfKey_before {a b : FrameTask} (hab : a ≠ b)
    (before : ∀ x, b ∈ FrameTask.withBefore x → FrameTask.withBefore x = [a, b]) (l : List FrameTask)
    (seen : List FrameTask) (new : b ∉ seen) (h : b ∈ l.flatMap FrameTask.withBefore) :
    [b].Sublist (firstOfKey id seen (l.flatMap FrameTask.withBefore))
      ∧ (a ∉ seen → [a, b].Sublist (firstOfKey id seen (l.flatMap FrameTask.withBefore))) := by
  have single : ∀ seen, b ∉ seen → ∀ l : List FrameTask, b ∈ l → [b].Sublist (firstOfKey id seen l) := by
    intro seen new l h
    rw [List.singleton_sublist]
    simpa using (mem_keys_firstOfKey id (k := b) (l := l) (seen := seen)).2 ⟨by simpa using h, new⟩
  refine ⟨single _ new _ h, ?_⟩
  induction l generalizing seen with
  | nil => simp at h
  | cons x l ih =>
    intro ha
    by_cases hx : b ∈ FrameTask.withBefore x
    · simp only [List.flatMap_cons, before x hx, List.cons_append, List.nil_append, firstOfKey, id,
        ha, if_false, List.mem_cons, new, or_false, Ne.symm hab]
      exact List.Sublist.cons_cons _ (List.Sublist.cons_cons _ (List.nil_sublist _))
    · have hl : b ∈ l.flatMap FrameTask.withBefore := by
        simpa [List.flatMap_cons, hx] using h
      simp only [List.flatMap_cons]
      -- the parts of `x` one after another
      have walk : ∀ (p : List FrameTask) (seen : List FrameTask), b ∉ p → b ∉ seen → a ∉ seen →
          [a, b].Sublist (firstOfKey id seen (p ++ l.flatMap FrameTask.withBefore)) := by
        intro p
        induction p with
        | nil => exact fun seen _ hb ha => ih seen hb hl ha
        | cons y p ihp =>
          intro seen hp hb ha
          simp only [List.mem_cons, not_or] at hp
          simp only [List.cons_append, firstOfKey, id]
          split
          · exact ihp seen hp.2 hb ha
          · by_cases e : a = y
            · subst e
              refine List.Sublist.cons_cons _ (single _ ?_ _ ?_)
              · simpa [hb] using Ne.symm hab
              · simp [hl]
            · exact (ihp (y :: seen) hp.2 (by simp [hb, hp.1]) (by simp [ha, e])).cons _
      exact walk _ _ hx new ha

/-- A report is taken after its clock's update. -/
theorem frameOrder_delay_first (order : List FrameTask) (c : Channel) :
    [.delay c, .cues c].Sublist (frameOrder order) ∧ [.delay c, .spans c].Sublist (frameOrder order) := by
  have all : ∀ x : FrameTask, x ∈ frameTasks := by
    intro x
    cases x <;> rename_i c <;> revert c <;> decide
  have mem : ∀ x : FrameTask, x ∈ (order ++ frameTasks).flatMap FrameTask.withBefore := fun x =>
    List.mem_flatMap.2 ⟨x, by simp [all x], by cases x <;> simp [FrameTask.withBefore]⟩
  constructor
  · refine (firstOfKey_before (by simp) ?_ _ [] (by simp) (mem _)).2 (by simp)
    intro x
    cases x <;> simp [FrameTask.withBefore, eq_comm]
  · refine (firstOfKey_before (by simp) ?_ _ [] (by simp) (mem _)).2 (by simp)
    intro x
    cases x <;> simp [FrameTask.withBefore, eq_comm]

/-- The channels of a mask, each once, whatever the order given. -/
theorem mem_maskInOrder {m : Bank 4 Bool} {first : List Channel} {c : Channel} :
    c ∈ maskInOrder m first ↔ m.pick c = true := by
  have all : ∀ c : Channel, c ∈ Channel.all := by decide
  have h := mem_keys_firstOfKey id (k := c) (l := first ++ Channel.all) (seen := [])
  simp only [List.map_id, List.not_mem_nil, not_false_eq_true, and_true] at h
  simp [maskInOrder, h, all]

theorem nodup_maskInOrder (m : Bank 4 Bool) (first : List Channel) : (maskInOrder m first).Nodup := by
  have h := nodup_keys_firstOfKey id (first ++ Channel.all) []
  rw [List.map_id] at h
  exact h.filter _

/-- Channels of the mask that are given first come first. -/
theorem prefix_maskInOrder {m : Bank 4 Bool} {first : List Channel} (h : first.Nodup)
    (all : ∀ c ∈ first, m.pick c = true) : first <+: maskInOrder m first := by
  rw [maskInOrder, firstOfKey_append id Channel.all (by simpa using h) (by simp), List.filter_append,
    List.filter_eq_self.2 all]
  exact List.prefix_append _ _

end Sys2Proof.Machine
end

