-- ==== Sys2Proof/Laws/Ports.lean ====
section
/-! SUPPORT. What the shared operations do to the control ports: postings change latches alone, and a
reply that has room joins its port's queue. -/

namespace Sys2Proof.Machine

open Sys2Proof

/-- A port with its latches left out of account. -/
def Port.unlatched (x : Port) : Port := { x with latches := Bank.fill 26 false }

theorem Port.unlatched_iff (x y : Port) :
    x.unlatched = y.unlatched ↔ x = { y with latches := x.latches } := by
  cases x; cases y; simp [Port.unlatched]

@[simp] theorem Port.latch_unlatched (x : Port) (l : Latch) (b : Bool) :
    (x.latch l b).unlatched = x.unlatched := rfl

@[simp] theorem Port.latch_foldl_unlatched {α : Type} (f : α → Latch) (b : Bool) (l : List α)
    (x : Port) : (l.foldl (fun y k => y.latch (f k) b) x).unlatched = x.unlatched :=
  foldl_keeps (fun y k => y.latch (f k) b) Port.unlatched (fun _ _ => rfl) l x

@[simp] theorem Port.latch_enables (x : Port) (l k : Latch) (b : Bool) :
    (x.latch l b).enables k = x.enables k := rfl

theorem Port.queue_of_unlatched {x y : Port} (h : x.unlatched = y.unlatched) :
    x.queue = y.queue := (congrArg Port.queue h : _)

theorem Port.mask_of_unlatched {x y : Port} (h : x.unlatched = y.unlatched) :
    x.mask = y.mask := (congrArg Port.mask h : _)

theorem Port.supervisor_of_unlatched {x y : Port} (h : x.unlatched = y.unlatched) :
    x.supervisor = y.supervisor := (congrArg Port.supervisor h : _)

/-- The latches have 26 different numbers. -/
theorem Latch.index_injective : Function.Injective Latch.index := by
  intro a b h
  rcases a with _ | _ | ⟨k, c⟩ <;> rcases b with _ | _ | ⟨k', c'⟩
  · rfl
  · exact absurd h (by decide)
  · cases k' <;> exact absurd (congrArg Fin.val h) (by simp only [Latch.index]; omega)
  · exact absurd h (by decide)
  · rfl
  · cases k' <;> exact absurd (congrArg Fin.val h) (by simp only [Latch.index]; omega)
  · cases k <;> exact absurd (congrArg Fin.val h) (by simp only [Latch.index]; omega)
  · cases k <;> exact absurd (congrArg Fin.val h) (by simp only [Latch.index]; omega)
  · have e := congrArg Fin.val h
    cases k <;> cases k' <;> simp only [Latch.index] at e <;>
      first
        | (have : c = c' := Fin.ext (by omega); subst this; rfl)
        | (exfalso; omega)

/-- Setting or clearing a latch leaves every other latch alone. -/
theorem Port.latch_holds (x : Port) (l k : Latch) (b : Bool) :
    (x.latch l b).holds k = if k = l then b else x.holds k := by
  simp only [Port.holds, Port.latch, Bank.pick_put]
  by_cases h : k = l
  · simp [h]
  · have h' : k.index ≠ l.index := fun e => h (Latch.index_injective e)
    simp [h, h']

theorem State.post_port (s : State) (p q : PortId) (l : Latch) :
    (s.post p l).port q = if q = p ∧ (s.port q).enables l = true then (s.port q).latch l true
      else s.port q := by
  by_cases h : q = p
  · subst h; by_cases e : (s.port q).enables l = true <;> simp [State.post, e]
  · simp [State.post, State.modPort_port, h]

@[simp] theorem State.post_unlatched (s : State) (p q : PortId) (l : Latch) :
    ((s.post p l).port q).unlatched = (s.port q).unlatched := by
  rw [State.post_port]; split <;> rfl

theorem State.postAll_port (s : State) (q : PortId) (l : Latch) :
    (s.postAll l).port q = if (s.port q).enables l = true then (s.port q).latch l true
      else s.port q := by
  simp only [State.postAll, State.eachPort_eq, State.post_port]
  cases q <;> simp

@[simp] theorem State.postAll_unlatched (s : State) (q : PortId) (l : Latch) :
    ((s.postAll l).port q).unlatched = (s.port q).unlatched := by
  rw [State.postAll_port]; split <;> rfl

@[simp] theorem State.clearLatches_unlatched (s : State) (c : Channel) (q : PortId) :
    ((s.clearLatches c).port q).unlatched = (s.port q).unlatched := by
  simp only [State.clearLatches, State.eachPort_eq, State.modPort_port]
  cases q <;> simp

/-- A fold whose steps all change latches alone changes latches alone. -/
theorem foldl_unlatched {α : Type} (f : State → α → State) (q : PortId)
    (h : ∀ s a, ((f s a).port q).unlatched = (s.port q).unlatched) (l : List α) (s : State) :
    ((l.foldl f s).port q).unlatched = (s.port q).unlatched :=
  foldl_keeps f (fun t => (t.port q).unlatched) h l s

@[simp] theorem State.addOutcome_unlatched (s : State) (c : Channel) (h : Handle) (a : Action) (o : PortId) (r : Result) (po : PortId) :
    ((s.addOutcome c h a o r).port po).unlatched = (s.port po).unlatched := by
  simp only [State.addOutcome]
  all_goals repeat' split
  all_goals simp

@[simp] theorem State.setMember_unlatched (s : State) (c : Channel) (m : Member) (b : Bool) (po : PortId) :
    ((s.setMember c m b).port po).unlatched = (s.port po).unlatched := by
  simp only [State.setMember]
  all_goals repeat' split
  all_goals simp

@[simp] theorem State.request_port (s : State) (c : Channel) (b : Bool) (d : Nat) (po : PortId) :
    (s.request c b d).port po = s.port po := by simp only [State.port, State.request_ports]

@[simp] theorem State.takeLayout_unlatched (s : State) (c : Channel) (p : PresetIx) (d : Nat) (h : Option (Handle × PortId)) (po : PortId) :
    ((s.takeLayout c p d h).port po).unlatched = (s.port po).unlatched := by
  simp only [State.takeLayout]
  all_goals repeat' split
  all_goals simp

@[simp] theorem State.windowIn_unlatched (s : State) (c : Channel) (d : Nat) (p : Option PresetIx) (po : PortId) :
    ((s.windowIn c d p).port po).unlatched = (s.port po).unlatched := by
  simp only [State.windowIn]
  all_goals repeat' split
  all_goals simp

@[simp] theorem State.windowOut_port (s : State) (c : Channel) (d : Nat) (po : PortId) :
    (s.windowOut c d).port po = s.port po := by simp only [State.port, State.windowOut_ports]

@[simp] theorem State.suppressChannel_unlatched (s : State) (p : PortId) (a : Nat) (c : Channel) (po : PortId) :
    ((s.suppressChannel p a c).port po).unlatched = (s.port po).unlatched := by
  simp only [State.suppressChannel]
  all_goals repeat' split
  all_goals simp

@[simp] theorem State.setSpanResult_unlatched (s : State) (c : Channel) (b : Bool) (po : PortId) :
    ((s.setSpanResult c b).port po).unlatched = (s.port po).unlatched := by
  simp only [State.setSpanResult]
  all_goals repeat' split
  all_goals simp

@[simp] theorem State.matchSpans_unlatched (s : State) (c : Channel) (r : StepReport) (po : PortId) :
    ((s.matchSpans c r).port po).unlatched = (s.port po).unlatched := by
  simp only [State.matchSpans]
  all_goals repeat' split
  all_goals simp

@[simp] theorem State.respan_unlatched (s : State) (c : Channel) (po : PortId) :
    ((s.respan c).port po).unlatched = (s.port po).unlatched := by
  simp only [State.respan]
  all_goals repeat' split
  all_goals simp

@[simp] theorem State.targetEvent_unlatched (s : State) (c : Channel) (po : PortId) :
    ((s.targetEvent c).port po).unlatched = (s.port po).unlatched := by
  simp only [State.targetEvent]
  all_goals repeat' split
  all_goals simp

@[simp] theorem State.setLag_unlatched (s : State) (c : Channel) (n : Nat) (po : PortId) :
    ((s.setLag c n).port po).unlatched = (s.port po).unlatched := by
  simp only [State.setLag]
  all_goals repeat' split
  all_goals simp

@[simp] theorem State.slewStep_unlatched (s : State) (c : Channel) (po : PortId) :
    ((s.slewStep c).port po).unlatched = (s.port po).unlatched := by
  simp only [State.slewStep]
  all_goals repeat' split
  all_goals simp

@[simp] theorem State.slew_unlatched (s : State) (c : Channel) (po : PortId) :
    ((s.slew c).port po).unlatched = (s.port po).unlatched := by
  simp only [State.slew]
  all_goals repeat' split
  all_goals simp

@[simp] theorem State.delayFrame_unlatched (s : State) (c : Channel) (l : List InputFrame) (po : PortId) :
    ((s.delayFrame c l).port po).unlatched = (s.port po).unlatched := by
  simp only [State.delayFrame]
  all_goals repeat' split
  all_goals simp

@[simp] theorem State.postDone_unlatched (s : State) (c : Channel) (po : PortId) :
    ((s.postDone c).port po).unlatched = (s.port po).unlatched := by
  simp only [State.postDone]
  all_goals repeat' split
  all_goals simp

@[simp] theorem State.endRun_unlatched (s : State) (c : Channel) (r : RunResult) (po : PortId) :
    ((s.endRun c r).port po).unlatched = (s.port po).unlatched := by
  simp only [State.endRun]
  all_goals repeat' split
  all_goals simp

@[simp] theorem State.endRunOk_unlatched (s : State) (c : Channel) (po : PortId) :
    ((s.endRunOk c).port po).unlatched = (s.port po).unlatched := by
  simp only [State.endRunOk]
  all_goals repeat' split
  all_goals simp

@[simp] theorem State.countRun_unlatched (s : State) (c : Channel) (po : PortId) :
    ((s.countRun c).port po).unlatched = (s.port po).unlatched := by
  simp only [State.countRun]
  all_goals repeat' split
  all_goals simp

@[simp] theorem State.receiveMarker_unlatched (s : State) (c : Channel) (n q : Nat) (po : PortId) :
    ((s.receiveMarker c n q).port po).unlatched = (s.port po).unlatched := by
  simp only [State.receiveMarker]
  all_goals repeat' split
  all_goals simp

@[simp] theorem State.setLevel_unlatched (s : State) (c : Channel) (b : Bool) (po : PortId) :
    ((s.setLevel c b).port po).unlatched = (s.port po).unlatched := by
  simp only [State.setLevel]
  all_goals repeat' split
  all_goals simp

@[simp] theorem State.endOnLoss_unlatched (s : State) (c : Channel) (x y : LockState) (po : PortId) :
    ((s.endOnLoss c x y).port po).unlatched = (s.port po).unlatched := by
  simp only [State.endOnLoss]
  all_goals repeat' split
  all_goals simp

@[simp] theorem State.setLock_unlatched (s : State) (c : Channel) (x : LockState) (h : HandOver) (po : PortId) :
    ((s.setLock c x h).port po).unlatched = (s.port po).unlatched := by
  simp only [State.setLock]
  all_goals repeat' split
  all_goals simp

@[simp] theorem State.signalUp_unlatched (s : State) (c : Channel) (po : PortId) :
    ((s.signalUp c).port po).unlatched = (s.port po).unlatched := by
  simp only [State.signalUp]
  all_goals repeat' split
  all_goals simp

@[simp] theorem State.completePicture_unlatched (s : State) (c : Channel) (b : Bool) (p : Picture) (h : HandOver) (i : Incoming) (po : PortId) :
    ((s.completePicture c b p h i).port po).unlatched = (s.port po).unlatched := by
  simp only [State.completePicture]
  all_goals repeat' split
  all_goals simp

@[simp] theorem State.chooseSigner_unlatched (s : State) (c : Channel) (h : HandOver) (po : PortId) :
    ((s.chooseSigner c h).port po).unlatched = (s.port po).unlatched := by
  simp only [State.chooseSigner]
  all_goals repeat' split
  all_goals simp

@[simp] theorem State.raiseHolding_unlatched (s : State) (c : Channel) (h : HandOver) (po : PortId) :
    ((s.raiseHolding c h).port po).unlatched = (s.port po).unlatched := by
  simp only [State.raiseHolding]
  all_goals repeat' split
  all_goals simp

@[simp] theorem State.syncPeriod_unlatched (s : State) (c : Channel) (b : Bool) (h : HandOver) (po : PortId) :
    ((s.syncPeriod c b h).port po).unlatched = (s.port po).unlatched := by
  simp only [State.syncPeriod]
  all_goals repeat' split
  all_goals simp

@[simp] theorem State.modScheduler_port (s : State) (c : Channel) (f : Scheduler → Scheduler) (po : PortId) :
    (s.modScheduler c f).port po = s.port po := by simp only [State.port, State.modScheduler_ports]

@[simp] theorem State.removeCue_port (s : State) (c : Channel) (i : SlotIx) (po : PortId) :
    (s.removeCue c i).port po = s.port po := by simp only [State.port, State.removeCue_ports]

@[simp] theorem State.enlist_port (s : State) (i : SlotIx) (k : Cue) (po : PortId) :
    (s.enlist i k).port po = s.port po := by simp only [State.port, State.enlist_ports]

@[simp] theorem State.retire_unlatched (s : State) (c : Channel) (i : SlotIx) (k : Cue) (r : Result) (po : PortId) :
    ((s.retire c i k r).port po).unlatched = (s.port po).unlatched := by
  simp only [State.retire]
  all_goals repeat' split
  all_goals simp

@[simp] theorem State.deliver_unlatched (s : State) (c : Channel) (h : Handle) (k : Cue) (po : PortId) :
    ((s.deliver c h k).port po).unlatched = (s.port po).unlatched := by
  simp only [State.deliver]
  all_goals repeat' split
  all_goals simp

@[simp] theorem State.fireCue_unlatched (s : State) (c : Channel) (r : Result) (i : SlotIx) (po : PortId) :
    ((s.fireCue c r i).port po).unlatched = (s.port po).unlatched := by
  simp only [State.fireCue]
  all_goals repeat' split
  all_goals simp

@[simp] theorem State.missCue_unlatched (s : State) (c : Channel) (i : SlotIx) (po : PortId) :
    ((s.missCue c i).port po).unlatched = (s.port po).unlatched := by
  simp only [State.missCue]
  all_goals repeat' split
  all_goals simp

@[simp] theorem State.cancelCue_unlatched (s : State) (c : Channel) (i : SlotIx) (po : PortId) :
    ((s.cancelCue c i).port po).unlatched = (s.port po).unlatched := by
  simp only [State.cancelCue]
  all_goals repeat' split
  all_goals simp

@[simp] theorem State.fireEdge_unlatched (s : State) (g : GpiIx) (c : Channel) (po : PortId) :
    ((s.fireEdge g c).port po).unlatched = (s.port po).unlatched := by
  simp only [State.fireEdge]
  all_goals repeat' split
  all_goals simp

@[simp] theorem State.takeContact_unlatched (s : State) (c : Channel) (po : PortId) :
    ((s.takeContact c).port po).unlatched = (s.port po).unlatched := by
  simp only [State.takeContact]
  all_goals repeat' split
  all_goals simp

@[simp] theorem State.takeContacts_unlatched (s : State)  (po : PortId) :
    ((s.takeContacts).port po).unlatched = (s.port po).unlatched := by
  simp only [State.takeContacts, State.eachChannel_eq]
  all_goals repeat' split
  all_goals simp

@[simp] theorem State.updateTally_port (s : State) (t : TallyIx) (po : PortId) :
    (s.updateTally t).port po = s.port po := by simp only [State.port, State.updateTally_ports]

@[simp] theorem State.dealPassed_unlatched (s : State) (c : Channel) (x : Scan) (l : List SlotIx) (po : PortId) :
    ((s.dealPassed c x l).port po).unlatched = (s.port po).unlatched := by
  simp only [State.dealPassed]
  all_goals repeat' split
  all_goals simp [foldl_unlatched]

@[simp] theorem State.scanCues_unlatched (s : State) (c : Channel) (r : StepReport) (po : PortId) :
    ((s.scanCues c r).port po).unlatched = (s.port po).unlatched := by
  simp only [State.scanCues]
  all_goals repeat' split
  all_goals simp [foldl_unlatched]

@[simp] theorem State.scheduleCues_unlatched (s : State) (c : Channel) (r : StepReport) (po : PortId) :
    ((s.scheduleCues c r).port po).unlatched = (s.port po).unlatched := by
  simp only [State.scheduleCues]
  all_goals repeat' split
  all_goals simp

@[simp] theorem State.reportCues_unlatched (s : State) (c : Channel) (po : PortId) :
    ((s.reportCues c).port po).unlatched = (s.port po).unlatched := by
  simp only [State.reportCues]
  all_goals repeat' split
  all_goals simp

@[simp] theorem State.reportSpans_unlatched (s : State) (c : Channel) (po : PortId) :
    ((s.reportSpans c).port po).unlatched = (s.port po).unlatched := by
  simp only [State.reportSpans]
  all_goals repeat' split
  all_goals simp

@[simp] theorem State.deliverReport_unlatched (s : State) (c : Channel) (o : ReportOrder) (po : PortId) :
    ((s.deliverReport c o).port po).unlatched = (s.port po).unlatched := by
  cases o <;> simp only [State.deliverReport]
  all_goals repeat' split
  all_goals simp

@[simp] theorem State.reportClock_unlatched (s : State) (c : Channel) (k : CueClock) (f : FrameKind) (po : PortId) :
    ((s.reportClock c k f).port po).unlatched = (s.port po).unlatched := by
  simp only [State.reportClock]
  all_goals repeat' split
  all_goals simp

@[simp] theorem State.updateClock_unlatched (s : State) (c : Channel) (po : PortId) :
    ((s.updateClock c).port po).unlatched = (s.port po).unlatched := by
  simp only [State.updateClock]
  all_goals repeat' split
  all_goals simp

@[simp] theorem State.fireEdges_unlatched (s : State) (g : GpiIx) (e : List Channel) (po : PortId) :
    ((s.fireEdges g e).port po).unlatched = (s.port po).unlatched := by
  simp only [State.fireEdges]
  all_goals repeat' split
  all_goals simp [foldl_unlatched]

@[simp] theorem State.updateTallies_port (s : State) (c : Channel) (po : PortId) :
    (s.updateTallies c).port po = s.port po := by simp only [State.port, State.updateTallies_ports]

@[simp] theorem State.windowPeriod_port (s : State) (c : Channel) (po : PortId) :
    (s.windowPeriod c).port po = s.port po := by simp only [State.port, State.windowPeriod_ports]

@[simp] theorem State.sampleGpi_unlatched (s : State) (g : GpiIx) (v : Contact) (e : List Channel) (po : PortId) :
    ((s.sampleGpi g v e).port po).unlatched = (s.port po).unlatched := by
  simp only [State.sampleGpi]
  all_goals repeat' split
  all_goals simp

@[simp] theorem State.frameTask_unlatched (s : State) (inputs : Bank 4 (List InputFrame)) (k : FrameTask) (po : PortId) :
    ((State.frameTask inputs s k).port po).unlatched = (s.port po).unlatched := by
  cases k <;> simp only [State.frameTask]
  all_goals repeat' split
  all_goals simp

@[simp] theorem State.periodTask_unlatched (s : State) (b : Bank 8 Contact) (o : Bool) (k : PeriodTask) (po : PortId) :
    ((State.periodTask b o s k).port po).unlatched = (s.port po).unlatched := by
  cases k <;> simp only [State.periodTask]
  all_goals repeat' split
  all_goals simp

/-! ## Replies -/

/-- A reply with room joins the queue, or is discarded with tag FFh (R181, R183). -/
theorem State.queueReply_of_room (u : State) (p : PortId) (tag code : Byte) (a : Answer)
    (h : tag = 0xFF ∨ (u.port p).queue.length < 4) :
    u.queueReply p (replyTo code tag a)
      = if tag = 0xFF then u
        else u.setPort p { u.port p with
          queue := (u.port p).queue
            ++ [{ lead := code + 0x80, tag := tag, code := a.code.byte, payload := a.payload }]
          sending := true } := by
  by_cases ht : tag = 0xFF
  · simp [State.queueReply, replyTo, ht]
  · have hq : ¬ 4 ≤ (u.port p).queue.length := by
      rcases h with h | h
      · exact absurd h ht
      · omega
    simp [State.queueReply, replyTo, ht, hq, State.modPort]

/-- A request whose reply has room reaches its owner, whatever it answers (R185). -/
theorem State.serve_of_room (s : State) (p : PortId) (tag code : Byte)
    (owner : State → State × Answer) (h : tag = 0xFF ∨ (s.port p).queue.length < 4) :
    s.serve p tag code owner = (owner s).1.queueReply p (replyTo code tag (owner s).2) := by
  have hn : ¬ (tag ≠ 0xFF ∧ 4 ≤ (s.port p).queue.length) := by
    rintro ⟨h1, h2⟩
    rcases h with h | h
    · exact h1 h
    · omega
  simp only [State.serve, hn, if_false, State.take]

end Sys2Proof.Machine
end

