-- ==== Sys2Proof/Laws/Wire.lean ====
section
/-! SUPPORT. Two-byte fields on the wire: reading what is sent gives the field back, and the other way round. -/

namespace Sys2Proof.Machine

open Sys2Proof

/-- The value of two bytes, the most significant first (R196). -/
theorem append_toNat (x y : Byte) : (x ++ y : Half).toNat = x.toNat * 256 + y.toNat := by
  rw [BitVec.toNat_append, ← Nat.shiftLeft_add_eq_or_of_lt y.isLt, Nat.shiftLeft_eq]

/-- A two-byte field sent and read. -/
@[simp] theorem append_sentHalf (h : Half) :
    (h.extractLsb' 8 8 : Byte) ++ (h.extractLsb' 0 8 : Byte) = h := by
  apply BitVec.eq_of_toNat_eq
  have := h.isLt
  rw [append_toNat, BitVec.extractLsb'_toNat, BitVec.extractLsb'_toNat]
  simp only [Nat.shiftRight_eq_div_pow]
  omega

/-- Two bytes read and sent. -/
@[simp] theorem sentHalf_append (x y : Byte) : sentHalf (x ++ y) = [x, y] := by
  have hx := x.isLt
  have hy := y.isLt
  unfold sentHalf
  congr 1
  · apply BitVec.eq_of_toNat_eq
    rw [BitVec.extractLsb'_toNat, append_toNat, Nat.shiftRight_eq_div_pow]
    omega
  · congr 1
    apply BitVec.eq_of_toNat_eq
    rw [BitVec.extractLsb'_toNat, append_toNat, Nat.shiftRight_eq_div_pow]
    omega

end Sys2Proof.Machine
end

