-- ==== Sys2Proof/WellFormed.lean ====
section
/-! DEFINITION. Which commands are well formed: what they carry can have come in over the connections of
the device, and their orders name each part once. -/

namespace Sys2Proof

/-- Whether a list repeats no entry. -/
def distinct {α : Type} [DecidableEq α] : List α → Bool
  | [] => true
  | x :: rest => decide (x ∉ rest) && distinct rest

/-- A picture whose listed pairs lie on the largest raster, each named once. -/
def Picture.wellFormed (p : Picture) : Bool :=
  distinct (p.listed.map (·.1))
    && p.listed.all fun e => decide (e.1.1 < 1080) && decide (e.1.2 < 960)

/-- Whether the listed pairs of a received picture lie on the raster received (R119). -/
def Picture.within (p : Picture) (raster : Raster) : Bool :=
  p.listed.all fun e => decide (2 * e.1.2 + 1 < Raster.samples raster e.1.1)

/-- A packet with its identifier pair and data count. -/
def Packet.wellFormed (p : Packet) : Bool := decide (3 ≤ p.words.length)

/-- An item of ancillary space whose packet, if it is one, is well formed. -/
def AncItem.wellFormed : AncItem → Bool
  | .packet p => p.wellFormed
  | .space _ => true

/-- A period's part of a programme frame. -/
def PeriodPart.wellFormed (x : PeriodPart) : Bool :=
  x.picture.wellFormed
    && (x.anc.vertical ++ x.anc.horizontal).all fun line => line.all AncItem.wellFormed

/-- A frame of a programme input. -/
def InputFrame.wellFormed (x : InputFrame) : Bool :=
  x.frame.first.wellFormed && x.frame.second.wellFormed

/-- A well-formed command. -/
def Instr.wellFormed : Instr → Bool
  | .outputFrameStart _ inputs order =>
    (Channel.all.all fun c => (inputs.pick c).all InputFrame.wellFormed) && distinct order
  | .periodStart _ order => distinct (order.map Machine.PeriodTask.key)
  | .debouncedStateChange _ _ edges => distinct edges
  | .markerReceived _ packet => packet.wellFormed
  | .pictureCompletion _ raster picture _ => picture.wellFormed && picture.within raster
  | .powerOnReset _ | .referenceFrameStart _ | .referenceTimeout | .relockEnd
  | .freewheelExpired _ | .clockPresetApplied _ _ | .slewStep _ | .rampEnd _ | .moveEnd _
  | .pendingLayoutTaken _ | .holdLimitReached _ _ | .flashPhaseChange _ | .markerSend _
  | .calibrationTimeout _ | .signalUp _ | .signalDown _ | .pictureStart _ _
  | .characterReceived _ _ | .frameGapTimeout _ | .lineBreak _ | .replySent _
  | .statusRead _ _ _ | .attentionRead _ _ | .attentionMask _ _ _ | .syncStatsRead _ _ _ _
  | .cueAdd _ _ _ | .cueModify _ _ _ _ | .cueDelete _ _ _ | .cueListRead _ _ _ _ _
  | .cueSkipNext _ _ _ | .cueClear _ _ _ _ | .cueHold _ _ _ _ | .outcomeRead _ _ _
  | .windowSet _ _ _ _ _ _ _ | .layoutSelect _ _ _ _ _ | .suppress _ _ _ _
  | .presetWrite _ _ _ _ _ | .presetRead _ _ _ _ | .spanSet _ _ _ _ _ _ _ _ | .spanRead _ _ _
  | .lagSet _ _ _ _ | .boothLatencySet _ _ _ _ | .calibrate _ _ _ | .clockPreset _ _ _ _
  | .channelConfig _ _ _ _ | .gpiBind _ _ _ _ _ _ _ | .tallySet _ _ _ _ _ _ _
  | .formatSet _ _ _ | .channelReset _ _ _ | .deviceReset _ _ | .configRead _ _ _ _
  | .lineReturnedToMark _ => true

end Sys2Proof
end

