-- ==== Sys2Proof/Tests/Slice0.lean ====
section
/-! SUPPORT. The model's own tests: the ill-formed commands that WellFormed refuses, figures the manual works
out, and for every statement with hypotheses concrete states and operands that meet them. -/

namespace Sys2Proof.Tests

set_option Elab.async false

open Sys2Proof Sys2Proof.Machine

/-! ## States to start from -/

/-- The state after commands taken in turn. -/
def after : List Instr → State → State
  | [], s => s
  | i :: rest, s =>
    match exec i s with
    | .next t => after rest t
    | .fault _ => s
    | .refused _ => s

/-- After power-on with CP-A as supervisor, in the format of a strap. -/
def start (fmt : BitVec 3) : State := State.powerOn { supv := 1, baud := 0, fmt := fmt }

/-- The same in F1, outside a relock. -/
def calm : State :=
  { start 0 with timing :=
    { (start 0).timing with relockCount := 0, relocking := false, relockPeriod := false } }

/-- A channel's cue clock VALID at a frame number, with the scheduler there too. -/
def clocked (c : Channel) (n : Nat) (s : State) : State :=
  s.modChan c fun x => (x.setClock
    { x.clock with value := n, status := .valid, lastValid := some n }).setScheduler
      { x.scheduler with scan := some n }

/-- A channel's synchroniser in a lock state. -/
def locked (c : Channel) (l : LockState) (s : State) : State :=
  s.modChan c fun x => x.setSync { x.sync with lock := l }

/-- A port's attention mask with every condition in it. -/
def listening (p : PortId) (s : State) : State := s.modPort p fun x => { x with mask := 0xFF }

/-- A port with 4 replies queued. -/
def crowded (p : PortId) (s : State) : State :=
  s.modPort p fun x =>
    { x with queue := List.replicate 4 { lead := 0x81, tag := 1, code := 0, payload := [] }
             sending := true }

/-- The fields of a TIME cue on CH1 at 00:00:05:00, WINDOW_IN over 25. -/
def timeCue : CueFields :=
  { channel := 1, kind := 0, trigger := { hh := 0, mm := 0, ss := 5, ff := 0 }, action := 0
    duration := 25, presetFlag := 0, preset := 0, lag := 0 }

/-- The fields of a CONTACT cue on CH1 for GPI 2, LAG 10. -/
def contactCue : CueFields :=
  { timeCue with kind := 1, trigger := { hh := 2, mm := 0, ss := 0, ff := 0 }, action := 3, lag := 10 }

/-- One TIME cue of CP-A in slot 0 and one CONTACT cue of CP-B in slot 1, both on CH1, at 00:00:04:00. -/
def planned : State :=
  after [.cueAdd .a 0xFF timeCue, .cueAdd .b 0xFF contactCue] (clocked 1 100 calm)

/-- The rasters' smallest and an odd preset record as PRESET_WRITE's worked sequence sends it (4.3). -/
def writtenFields : PresetFields :=
  { window := { x := 1901, y := 1001, w := 60, h := 30 }, border := 20
    borderColour := { y := 64, cb := 512, cr := 512 }, crop := { x := 1700, y := 0, w := 100, h := 1080 }
    key := 0, kb := 288, kr := 272, inner := 900, outer := 500
    programme := { x := 0, y := 0, w := 400, h := 1080 }, fill := { y := 1000, cb := 512, cr := 512 } }

/-- Configuration fields at the reset values. -/
def resetFields : ConfigFields :=
  { source := 0, dropMode := 0, freewheelLimit := 25, lateTolerance := 10, holdLimit := 10
    lossPolicy := 0, slewInterval := 25, fade := 12 }

/-! ## What WellFormed refuses -/

theorem test_wellFormed_refuses_repeated_frame_task :
    (Instr.outputFrameStart 0 (Bank.fill 4 []) [.delay 1, .delay 1]).wellFormed = false := by
  decide +kernel

theorem test_wellFormed_refuses_repeated_period_task :
    (Instr.periodStart (Bank.fill 8 .opened)
      [.synchronise 0 .windowFirst, .synchronise 0 .calibrationFirst]).wellFormed = false := by
  decide +kernel

theorem test_wellFormed_refuses_repeated_edge :
    (Instr.debouncedStateChange 0 .closed [2, 2]).wellFormed = false := by decide +kernel

theorem test_wellFormed_refuses_short_packet :
    (Instr.markerReceived 0 { words := [0x51, 0x2E] }).wellFormed = false := by decide +kernel

theorem test_wellFormed_refuses_pair_off_the_raster :
    (Instr.pictureCompletion 0 (stationRaster .f1) { base := blackPair, listed := [((0, 960), blackPair)] }
      .windowFirst).wellFormed = false := by decide +kernel

theorem test_wellFormed_refuses_pair_off_the_raster_received :
    (Instr.pictureCompletion 0 [[8, 8], [8, 6]] { base := blackPair, listed := [((3, 3), blackPair)] }
      .windowFirst).wellFormed = false := by decide +kernel

theorem test_wellFormed_refuses_pair_listed_twice :
    (Instr.pictureCompletion 0 (stationRaster .f1)
      { base := blackPair, listed := [((3, 4), blackPair), ((3, 4), blackPair)] }
      .windowFirst).wellFormed = false := by decide +kernel

theorem test_wellFormed_refuses_packet_in_input_frame :
    (Instr.outputFrameStart 0
      (Bank.fill 4 [{ format := .f1, frame := { blackFrame with first :=
        { blackPart with anc := { noAnc with vertical := [[.packet { words := [] }]] } } } }])
      []).wellFormed = false := by decide +kernel

theorem test_wellFormed_takes_requests_whole :
    (Instr.cueAdd .c 7 timeCue).wellFormed = true
      ∧ (Instr.periodStart (Bank.fill 8 .opened) [.window 3, .contact 0 []]).wellFormed = true := by
  decide +kernel

/-! ## Figures of the manual -/

/-- The drop-frame day ends at 23:59:59:29, and the first number after minute 0 is 00:01:00:02 (R10, R11). -/
theorem test_drop_frame_labels :
    labelOf .f2 .df 2589407 = { hh := 23, mm := 59, ss := 59, ff := 29 }
      ∧ labelOf .f2 .df 1800 = { hh := 0, mm := 1, ss := 0, ff := 2 }
      ∧ frameNumber .f2 .df { hh := 0, mm := 10, ss := 0, ff := 0 } = 17982
      ∧ labelValid .f2 .df { hh := 0, mm := 1, ss := 0, ff := 1 } = false := by decide +kernel

/-- The table of "a write that is fitted" (4.3). -/
theorem test_preset_write_fits :
    (readLayout writtenFields).map (fitLayout .f1) = some {
      window := { x := 1856, y := 1000, w := 64, h := 36 }, border := 8
      borderColour := { y := 64, cb := 512, cr := 512 }, crop := { x := 1700, y := 0, w := 100, h := 160 }
      key := false, kb := 288, kr := 272, inner := 900, outer := 901
      programme := { x := 0, y := 0, w := 480, h := 1080 }
      fill := { y := 940, cb := 512, cr := 512 } } := by decide +kernel

/-- The move of R93 in F1: x from 1380 to 60 over 25, at k = 7, is 1010. -/
theorem test_move_interpolates :
    evenDown (interpolate 1380 60 7 25) = 1010 := by decide +kernel

/-- R96: P = (0, 0, 1440, 810) at opacity 512 gives 1680 × 945, and 944 lines when interlaced; R97 gives its
steps. -/
theorem test_effective_programme :
    effectiveProgramme .f3 { x := 0, y := 0, w := 1440, h := 810 } 512
        = { x := 0, y := 0, w := 1680, h := 945 }
      ∧ (effectiveProgramme .f1 { x := 0, y := 0, w := 1440, h := 810 } 512).h = 944
      ∧ scalingStep 1920 1680 = 74898 ∧ scalingStep 1080 944 = 74977 := by decide +kernel

/-- "Contact hold during a rise" (3.2): the rise at k = 3 and the fall from 307 over 4. -/
theorem test_ramp_values :
    ((calm.chan 2).window.follow { (calm.chan 2).window with requested := true }
        (calm.chan 2).presets 10).state = .rising
      ∧ 1024 * 3 / 10 = 307 ∧ 307 - 307 * 1 / 4 = 231 := by decide +kernel

/-- "Three channels contend for the pool" (7.2): CH0's lag of 40 takes 44 frames and leaves 36 slots, and CH1's
lag of 46 is then clamped to the 40 that fit. -/
theorem test_pool_contention :
    let t := after [.lagSet .a 0xFF 0 40, .lagSet .b 0xFF 1 46] calm
    (t.chan 0).delay.target = 44 ∧ (t.chan 0).delay.held = 45
      ∧ (t.chan 1).delay.requested = 50 ∧ (t.chan 1).delay.target = 40 ∧ t.free = 0 := by
  decide +kernel

/-- R20 and R26: the first cue takes slot 0 with generation 1, the next slot 1. -/
theorem test_cue_add_handles :
    planned.slot 0 = { generation := 1, cue := some {
        channel := 1, origin := .a, trigger := .time 125, action := .windowIn, duration := 25
        preset := none, lag := 0, late := false } }
      ∧ (planned.slot 1).generation = 1 ∧ (planned.chan 1).scheduler.timed = [0]
      ∧ (planned.chan 1).scheduler.contact = [1] := by decide +kernel

/-- R27: a cue at or behind the scan value by at most the tolerance of 10 is late, one 11 behind is not. -/
theorem test_late_insert :
    (clocked 1 135 calm).lateInsert 1 125 = true ∧ (clocked 1 136 calm).lateInsert 1 125 = false := by
  decide +kernel

/-- R28, R30: CP-C may not delete CP-A's cue, CP-A may, and the handle is then stale. -/
theorem test_cue_delete :
    (after [.cueDelete .c 0xFF ⟨0, 1⟩] planned).cue 0 = planned.cue 0
      ∧ (after [.cueDelete .a 0xFF ⟨0, 1⟩] planned).cue 0 = none
      ∧ ((after [.cueDelete .a 1 ⟨0, 1⟩, .cueDelete .a 2 ⟨0, 1⟩] planned).port .a).queue.map (·.code)
        = [0x00, 0x06] := by decide +kernel

/-- R38, R40: a report of a step of 1 to the cue's time fires it; a jump of 12 past it makes it MISSED. -/
theorem test_cue_fires_and_is_missed :
    ((planned.scheduleCues 1 { status := .valid, value := 125, distance := 1, kind := .advance }).chan
        1).scheduler.ring.map (·.result) = [.fired]
      ∧ ((planned.scheduleCues 1 { status := .valid, value := 126, distance := 12, kind := .forward }).chan
        1).scheduler.ring.map (·.result) = [.missed] := by decide +kernel

/-- R183: the fifth reply finds no place, its request is not executed, and REPLY_OVERRUN is latched; with tag
FFh the request is executed. -/
theorem test_full_queue :
    let s := listening .a (crowded .a calm)
    ((after [.suppress .a 5 1 0] s).port .a).holds .replyOverrun = true
      ∧ ((after [.suppress .a 5 1 0] s).chan 0).window.suppression.portA = false
      ∧ ((after [.suppress .a 0xFF 1 0] s).chan 0).window.suppression.portA = true := by decide +kernel

/-- 11.2: CLOCK_CHANGE is condition 8, and R188 takes REPLY_OVERRUN before it. -/
theorem test_attention_order :
    (Latch.channel .clockChange 2).byte = 8 ∧ Latch.replyOverrun.byte = 1
      ∧ ((((calm.port .a).latch (.channel .clockChange 2) true).latch .replyOverrun true).firstLatch)
        = some .replyOverrun := by decide +kernel

/-- R179, R196: the reply OK to STATUS_READ tagged 40h with an empty payload sums to 0 with its check character,
and its lead alone has the ninth bit set. -/
theorem test_reply_check :
    let sent := ({ lead := 0x81, tag := 0x40, code := 0, payload := [] } : Reply).characters
    sent.map (·.value) = [0x81, 0x40, 0x00, 0x00, 0x3F]
      ∧ sent.map (·.lead) = [true, false, false, false, false] := by decide +kernel

/-- A whole frame, character by character (R180, R196): SUPPRESS (22h), tag FFh, mask 02h, action ON. -/
theorem test_frame_runs_request :
    let say := fun (b : Byte) (lead : Bool) =>
      Instr.characterReceived .b { stopError := false, lead := lead, value := b }
    ((after [say 0x22 true, say 0xFF false, say 0x02 false, say 0x02 false, say 0x00 false,
      say 0xDB false] calm).chan 1).window.suppression.portB = true := by decide +kernel

/-- R198: the check of a marker of channel 2 and sequence 254 is 255; the packet is read back. -/
theorem test_marker_packet :
    readMarker { words := [0x51, 0x2E, 3, 2, 254, 255] } = some (2, 254)
      ∧ readMarker { words := [0x51, 0x2E, 3, 2, 254, 254] } = none := by decide +kernel

/-- R110: a negative sum takes the floor; alpha 0 clamps the programme sample into legal range. -/
theorem test_mix :
    mixSample 64 940 513 100 97 = 98 ∧ mixSample 64 940 0 20 500 = 64
      ∧ mixSample 64 960 1024 20 500 = 500 := by decide +kernel

/-- R168: with debounce 2 the third sample changes the debounced state. -/
theorem test_debounce :
    (((resetGpi.sample .closed).sample .closed).debounced) = .opened
      ∧ ((((resetGpi.sample .closed).sample .closed).sample .closed).debounced) = .closed := by
  decide +kernel

/-- R175: a flash begins active, and turns after its on count of 12. -/
theorem test_flash :
    let x : Tally := { resetTally with mode := .onAirFlash }
    (x.set 500 false).active = true ∧ ({ x with count := 12 }.set 500 false).active = false
      ∧ (x.set 500 true).active = true := by decide +kernel

/-- R122: the sixteenth valid picture locks, and the unread count becomes 1. -/
theorem test_lock :
    let s := calm.modChan 0 fun x => x.setSync { x.sync with
      lock := .acquiring, consecutive := 15, incoming := some { interval := some 1080540 }
      write := some 1 }
    let t := after [.pictureCompletion 0 (stationRaster .f1) blackPicture .windowFirst] s
    (t.chan 0).sync.lock = .locked ∧ (t.chan 0).sync.unread = 1 ∧ (t.chan 0).sync.newest = 1 := by
  decide +kernel

/-- R113, R124: a picture that begins in the period in which a DEVICE_RESET falls is written to a slot that the
compositor does not read. -/
theorem test_reset_keeps_the_read_slot_unwritten :
    let s := calm.modChan 0 fun x => (x.setSync { x.sync with signal := true, current := 1, newest := 1 }).setLatches
      { x.latches with signer := 1 }
    let t := after [.deviceReset .a 0xFF, .pictureStart 0 7] s
    (t.chan 0).sync.write = some 1 ∧ (t.chan 0).sync.ring.pick (t.chan 0).latches.signer = .black := by
  decide +kernel

/-- R119: a line one sample short, one field, and the lines of a frame in one picture are all wrong in F1. -/
theorem test_raster_verdict :
    let line := List.replicate 540 1920
    rasterRight .f1 [line, line] = true ∧ rasterRight .f1 [line, line.set 539 1919] = false
      ∧ rasterRight .f1 [line] = false ∧ rasterRight .f1 [line ++ line] = false
      ∧ rasterRight .f3 [line ++ line] = true ∧ rasterRight .f5 [List.replicate 720 1280] = true := by
  decide +kernel

/-- R145, R147: a slew step down gives its slot back. -/
theorem test_slew_down :
    let s := calm.modChan 3 fun x => x.setDelay { x.delay with target := 3, slewCount := 24 }
    let t := after [.slewStep 3] s
    (t.chan 3).delay.actual = 3 ∧ (t.chan 3).delay.held = 4 ∧ t.free = 77
      ∧ (t.chan 3).delay.kind = .afterDrop := by decide +kernel

/-- R3: the reference locks in the frame in progress; its two periods are counted and no further one, the outputs
carry blanking, and the first period start after the next output frame start ends it. -/
theorem test_extended_frame :
    let s := after [.outputFrameStart 1000 (Bank.fill 4 []) []] { calm with
      timing := { calm.timing with goodIntervals := 1, lastReference := some 500 } }
    let run := s.modChan 0 fun x => x.setCalibration { x.calibration with running := true }
    let period := Instr.periodStart (Bank.fill 8 .opened) []
    let t := after [.referenceFrameStart 1080500, period, period, period, period] run
    t.timing.reference = .locked ∧ t.timing.placement = .atReferenceFrom 1081000
      ∧ (t.chan 0).calibration.runCount = 2 ∧ t.timing.blanking = true
      ∧ (after [.outputFrameStart 2160500 (Bank.fill 4 []) []] t).timing.dark = true
      ∧ (after [.outputFrameStart 2160500 (Bank.fill 4 []) [], period] t).timing.dark = false := by
  decide +kernel

/-- R153: from an output frame start to the next period start the booth feed still carries the second part of the
frame before. -/
theorem test_booth_feed_keeps_its_period :
    let part := fun n : Nat => { blackPart with picture := { base := { blackPair with y0 := sampleOf n }, listed := [] } }
    let input : InputFrame := { format := .f1, frame := { first := part 100, second := part 200 } }
    let begun := fun n => Instr.outputFrameStart n (Bank.fill 4 [input]) []
    let period := Instr.periodStart (Bank.fill 8 .opened) []
    let base := fun s : State => (s.boothFeed 2).picture.base.y0
    let s := after [begun 0, period, period, begun 1080000, period, period, begun 2160000] calm
    base s = sampleOf 200 ∧ base (after [period] s) = sampleOf 100 := by decide +kernel

/-- R38, R40: a forward jump deals with the late-marked cue, the cue passed and the cue reached in this order; the
cue passed is fired late while the jump is at most one frame longer than the tolerance, and else missed. -/
theorem test_report_groups :
    let cue := fun ff ss : Byte => Instr.cueAdd .a 0xFF { timeCue with trigger := { hh := 0, mm := 0, ss := ss, ff := ff } }
    let s := after [cue 24 3, cue 3 4, cue 5 4] (clocked 1 100 calm)
    let report : StepReport := { status := .valid, value := 105, distance := 5, kind := .forward }
    let results := fun tolerance : Nat =>
      let t := (s.modScheduler 1 fun k => { k with lateTolerance := tolerance }).scheduleCues 1 report
      (t.chan 1).scheduler.ring.map (·.result)
    results 4 = [.firedLate, .firedLate, .fired] ∧ results 3 = [.firedLate, .missed, .fired] := by decide +kernel

/-- R98, R117, R153: the period in progress at a DEVICE_RESET goes on and the next is black; the last period of a
relock stays black past the output frame start that ends the relock. -/
theorem test_outputs_change_with_periods :
    let period := Instr.periodStart (Bank.fill 8 .opened) []
    let first := Instr.outputFrameStart 1 (Bank.fill 4 []) []
    let reset := after [.deviceReset .a 0xFF] calm
    let last := after [.deviceReset .a 0xFF, first, period, period]
      { calm with timing := { calm.timing with lastFrameStart := some 0 } }
    let ended := after [first] { last with timing := { last.timing with relockCount := 0 } }
    reset.timing.dark = false ∧ (after [period] reset).timing.dark = true
      ∧ ended.timing.relocking = false ∧ ended.timing.dark = true
      ∧ (after [period] ended).timing.dark = false := by decide +kernel

/-- R44: a hold released without a report between leaves the next step as the clock reports it, here a preset
taking effect as an advance; with a report between, the step is measured across the hold. -/
theorem test_hold_without_report :
    let s := planned.modChan 1 fun x => x.setClock { x.clock with source := .internal }
    let hold := Instr.cueHold .a 0xFF 2 0
    let release := Instr.cueHold .a 0xFF 2 1
    let preset := Instr.clockPresetApplied 1 .cuesFirst
    let aim := fun n : Nat => fun t : State =>
      t.modChan 1 fun x => x.setClock { x.clock with pendingPreset := some n }
    let missed := fun t : State => ((t.chan 1).scheduler.ring.map (·.result))
    missed (after [preset] (aim 300 (after [hold, release] s))) = []
      ∧ missed (after [preset] (aim 300 (after [release] (after [preset] (aim 50 (after [hold] s))))))
        = [.missed] := by decide +kernel

/-! ## Witnesses: what the hypotheses of each statement are met by -/

/-- A reply has room behind 3 others, and needs none with tag FFh. -/
theorem witness_room :
    (start 0).Room .a 1 ∧ (crowded .a calm).Room .a 0xFF ∧ ¬ (crowded .a calm).Room .a 1
      ∧ (after [.replySent .a] (crowded .a calm)).Room .a 1 := by decide +kernel

theorem witness_DeviceResetValues :
    ((start 1).port .a).supervisor = true ∧ (start 1).Room .a 0 := by decide +kernel

theorem witness_FormatSetValues :
    ((start 1).port .a).supervisor = true ∧ (start 1).Room .a 0 ∧ readFormat 5 = some .f6
      ∧ readFormat 6 = none := by decide +kernel

theorem witness_ChannelResetValues :
    (planned.port .a).supervisor = true ∧ planned.Room .a 0 ∧ (3 : Byte).toNat = (3 : Channel).val
      ∧ 4 ≤ (4 : Byte).toNat ∧ planned.PoolSound ∧ (planned.cue 0).isSome = true := by decide +kernel

/-- The tolerance's ends for a reference at 25 frame/s: 540 counts either side of 1,080,000. -/
theorem witness_ReferenceStateTable :
    let t := fun (r : ReferenceState) (g : Nat) =>
      { calm.timing with reference := r, goodIntervals := g, lastReference := some 7 }
    (t .locked 2).judge (7 + 1080540) = { t .locked 2 with lastReference := some 1080547 }
      ∧ ((t .locked 2).judge (7 + 1079459)).reference = .free
      ∧ ((t .free 0).judge (7 + 1079460)).goodIntervals = 1
      ∧ ((t .free 1).judge (7 + 1079460)).reference = .locked
      ∧ ((t .free 1).judge (7 + 1080541)).goodIntervals = 0
      ∧ ((t .locked 2).judge (7 + 1080541)).reference = .free
      ∧ ({ t .free 1 with lastReference := none }.judge 1080007).goodIntervals = 0
      ∧ ({ t .locked 2 with extending := true, lastFrameStart := some 5 } : Timing).placement
        = .atReferenceFrom 1080005
      ∧ calm.timing.reference = .free ∧ calm.timing.placement = .atOnce
      ∧ frameInterval .f1 = 1080000 ∧ referenceTolerance .f1 = 540 := by decide +kernel

theorem witness_RelockFrames :
    0 < (start 0).timing.relockCount
      ∧ ({ (start 0).timing with relockCount := 0 } : Timing).relocking = true := by decide +kernel

/-- A clock with a preset to take on, one that jumps by 2 over a drop, and input frames of two formats. -/
theorem witness_OrdinaryFrameClocks :
    let a : InputFrame := { format := .f1, frame := blackFrame }
    let b : InputFrame := { format := .f3, frame := blackFrame }
    let s := { calm with timing := { calm.timing with frameInProgress := true } }
    let k : CueClock := { resetClock with source := .internal, status := .valid, lastValid := some 0 }
    calm.timing.relockCount = 0 ∧ calm.timing.frameInProgress = false ∧ [b, a, b] = [b] ++ a :: [b]
      ∧ s.timing.frameInProgress = true ∧ a.format = s.timing.format ∧ b.format ≠ s.timing.format
      ∧ (calm.chan 0).report = none ∧ ((after [.outputFrameStart 1 (Bank.fill 4 []) []] calm).chan 0).report ≠ none
      ∧ (k.update .f1 blackFrame .afterDrop).value = 2 := by decide +kernel

theorem witness_CueClockTable :
    let k : CueClock := { resetClock with status := .valid, value := 2159999 }
    let f : ProgrammeFrame := { blackFrame with first :=
      { blackPart with anc := { noAnc with timecode := some { hh := 23, mm := 59, ss := 59, ff := 24 } } } }
    labelValid .f1 .df { hh := 23, mm := 59, ss := 59, ff := 24 } = true
      ∧ labelValid .f1 .df { hh := 23, mm := 59, ss := 59, ff := 25 } = false
      ∧ k.update .f1 f .ordinary = { k with lastValid := some 2159999 }
      ∧ (k.update .f1 blackFrame .ordinary).value = 0
      ∧ ({ k with freewheelLimit := 0 }.update .f1 blackFrame .ordinary).status = .invalid
      ∧ ({ k with status := .freewheel, freewheelCount := 24 }.update .f1 blackFrame
          .ordinary).freewheelCount = 25
      ∧ ({ k with status := .freewheel, freewheelCount := 25 }.update .f1 blackFrame
          .ordinary).status = .invalid
      ∧ ({ k with source := .internal }.update .f1 blackFrame .afterDrop).value = 1
      ∧ ({ k with source := .internal, pendingPreset := some 9 }.update .f1 blackFrame
          .repeated).value = 9 := by decide +kernel

theorem witness_ClockEvents :
    let s := (clocked 1 100 calm).modChan 1 fun x => x.setClock
      { x.clock with status := .freewheel, freewheelCount := 25 }
    let t := calm.modChan 2 fun x => x.setClock
      { x.clock with source := .internal, status := .valid, pendingPreset := some 5 }
    s.timing.relocking = false ∧ (s.chan 1).clock.source = .embedded
      ∧ (s.chan 1).clock.freewheelLimit ≤ (s.chan 1).clock.freewheelCount
      ∧ t.timing.relocking = false ∧ (t.chan 2).clock.status ≠ .invalid
      ∧ t.Room .c 1 ∧ 4 ≤ (4 : Byte).toNat ∧ (3 : Byte).toNat = (3 : Channel).val
      ∧ labelValid .f1 .df { hh := 23, mm := 59, ss := 59, ff := 24 } = true
      ∧ labelValid .f1 .df { hh := 24, mm := 0, ss := 0, ff := 0 } = false := by decide +kernel

/-- The ends of a forward jump at 29.97 frame/s DF: 2 and one below the half-day of 1,294,704. -/
theorem witness_StepReportKinds :
    let k := fun n => { resetClock with status := .valid, value := n, lastValid := some n }
    (stepReport .f2 (k 7) (k 7)).kind = .repeated ∧ resetClock.lastValid = none
      ∧ (stepReport .f2 resetClock (k 7)).kind = .advance ∧ resetClock.status = .invalid
      ∧ ({ k 7 with source := .internal, pendingPreset := some 9 } : CueClock).setsOne = true
      ∧ (stepReport .f2 (k 7) (k 8)).kind = .advance ∧ (stepReport .f2 (k 7) (k 9)).kind = .forward
      ∧ (stepReport .f2 (k 7) (k 1294710)).kind = .forward
      ∧ (stepReport .f2 (k 7) (k 1294711)).kind = .backward
      ∧ (stepReport .f2 (k 7) (k 6)).kind = .backward := by decide +kernel

theorem witness_PlainLabels :
    dropFrame .f2 .ndf = false ∧ dropFrame .f1 .df = false
      ∧ labelValid .f2 .ndf { hh := 23, mm := 59, ss := 59, ff := 29 } = true
      ∧ labelOf .f2 .ndf 2591999 = { hh := 23, mm := 59, ss := 59, ff := 29 } := by decide +kernel

theorem witness_DropFrameLabels : fractional .f6 = true ∧ 2589407 < 2589408 := by decide +kernel

theorem witness_CueAddResult :
    planned.Room .a 1 ∧ planned.CuesSound ∧ ¬ planned.CueRefused timeCue
      ∧ ¬ planned.CueRefused { contactCue with trigger := ⟨7, 0, 0, 0⟩ }
      ∧ planned.CueRefused { contactCue with trigger := ⟨8, 0, 0, 0⟩ }
      ∧ planned.CueRefused { timeCue with channel := 4 }
      ∧ planned.CueRefused { timeCue with trigger := ⟨0, 0, 0, 25⟩ }
      ∧ planned.CueRefused { timeCue with action := 2 }
      ∧ planned.CueRefused { timeCue with action := 1, presetFlag := 1 }
      ∧ planned.CueRefused { timeCue with presetFlag := 1, preset := 8 }
      ∧ planned.cue 2 = none ∧ (∀ j : SlotIx, j < 2 → (planned.cue j).isSome = true) := by
  refine ⟨?_, ?_, ?_, ?_, ?_, ?_, ?_, ?_, ?_, ?_, ?_, ?_⟩ <;> decide +kernel

/-- A pool without a free slot. -/
theorem witness_CueAddResult_full :
    let held : Cue := {
      channel := 1, origin := .a, trigger := .contact 0, action := .windowOut, duration := 0
      preset := none, lag := 0, late := false }
    let s : State := { calm with
      cues := Bank.fill 256 { generation := 1, cue := some held }
      channels := calm.channels.put 1 ((calm.chan 1).setScheduler
        { (calm.chan 1).scheduler with contact := slotIndices }) }
    s.CuesSound ∧ (∀ i : SlotIx, (s.cue i).isSome = true) ∧ ¬ s.CueRefused timeCue
      ∧ s.Room .b 0 := by
  refine ⟨?_, ?_, ?_, ?_⟩ <;> decide +kernel

theorem witness_CueModifyResult :
    planned.Room .b 1 ∧ planned.CuesSound ∧ planned.RecordsSound
      ∧ (planned.slot 0).generation = (1 : Byte).toNat ∧ ((planned.cue 0).map (·.origin)) = some .a
      ∧ (planned.port .b).supervisor = false ∧ (planned.port .a).supervisor = true
      ∧ ¬ planned.CueRefused { timeCue with trigger := ⟨23, 59, 59, 24⟩ }
      ∧ (planned.slot 0).generation ≠ (2 : Byte).toNat ∧ planned.cue 255 = none := by
  refine ⟨?_, ?_, ?_, ?_, ?_, ?_, ?_, ?_, ?_, ?_⟩ <;> decide +kernel

theorem witness_CueDeleteResult :
    planned.Room .b 1 ∧ (planned.slot 1).generation = (1 : Byte).toNat
      ∧ ((planned.cue 1).map (·.origin)) = some .b ∧ ((planned.cue 0).map (·.origin)) = some .a
      ∧ (planned.port .b).supervisor = false ∧ planned.cue 2 = none := by decide +kernel

theorem witness_CueClearResult :
    planned.Room .a 1 ∧ planned.CuesSound ∧ planned.RingsSound ∧ (planned.port .a).supervisor = true
      ∧ (planned.port .c).supervisor = false ∧ (1 : Byte).toNat = (1 : Channel).val
      ∧ 4 ≤ (4 : Byte).toNat ∧ 2 ≤ (2 : Byte).toNat := by decide +kernel

theorem witness_CueSkipNextResult :
    planned.Room .c 1 ∧ planned.CuesSound ∧ (planned.chan 1).scheduler.timed ≠ []
      ∧ (planned.chan 0).scheduler.timed = []
      ∧ (∀ j ∈ (planned.chan 1).scheduler.timed, planned.lateAt j = false)
      ∧ (let s := after [.cueAdd .c 0xFF timeCue] (clocked 1 125 calm)
        ∃ j ∈ (s.chan 1).scheduler.timed, s.lateAt j = true) := by decide +kernel

theorem witness_CueHoldResult :
    calm.Room .a 1 ∧ (calm.port .a).supervisor = true ∧ (calm.port .b).supervisor = false
      ∧ (calm.chan 0).scheduler.hold = PortSet.empty ∧ (calm.chan 0).scheduler.resume = false
      ∧ (⟨false, false, true⟩ : PortSet) ≠ PortSet.empty
      ∧ 0 < (15 : Byte).toNat ∧ (15 : Byte).toNat < 16 ∧ 16 ≤ (16 : Byte).toNat
      ∧ (15 : Byte).getLsbD 3 = true ∧ (7 : Byte).getLsbD 3 = false := by decide +kernel

theorem witness_ReportScan :
    let s := planned.modScheduler 1 fun k => { k with resume := true, hold := ⟨false, true, false⟩ }
    planned.CuesSound ∧ (planned.chan 1).scheduler.hold = PortSet.empty
      ∧ (planned.chan 1).scheduler.resume = false ∧ s.CuesSound
      ∧ (s.chan 1).scheduler.hold ≠ PortSet.empty ∧ (s.chan 1).scheduler.scan = some 100
      ∧ stepKind .f1 .df 25 = .forward ∧ 2159999 < planned.day 1 := by
  intro s
  refine ⟨?_, ?_, ?_, ?_, ?_, ?_, ?_, ?_⟩ <;> decide +kernel

/-- A jump of 12, one past what a tolerance of 10 still fires late. -/
theorem witness_MissedCues :
    let r : StepReport := { status := .valid, value := 130, distance := 12, kind := .forward }
    planned.CuesSound ∧ planned.RingsSound ∧ (planned.chan 1).scheduler.hold = PortSet.empty
      ∧ (planned.chan 1).scheduler.resume = false
      ∧ (planned.chan 1).scheduler.lateTolerance + 1 < r.distance
      ∧ (∀ i ∈ (planned.chan 1).scheduler.timed,
        planned.lateAt i = false ∧ planned.fireTimeAt i ≠ r.value) := by decide +kernel

theorem witness_FireEdgeResult :
    (planned.chan 1).scheduler.hold = PortSet.empty ∧ (planned.chan 1).scheduler.contact = [] ++ 1 :: []
      ∧ ((planned.cue 1).map (·.trigger)) = some (.contact 2)
      ∧ ((planned.cue 1).map (·.action)) = some .lag ∧ planned.PoolSound
      ∧ ((planned.cue 0).map (·.action)) = some .windowIn := by decide +kernel

/-- Both reversals at the ends of the opacity's range. -/
theorem witness_WindowStateTable :
    let w := (calm.chan 0).window
    let on : Window := { w with requested := true, state := .off }
    let out : Window := { w with state := .on, opacity := 1024 }
    on.suppression = Suppression.empty ∧ (on.react (calm.chan 0).presets 1).state = .rising
      ∧ (on.react (calm.chan 0).presets 0).state = .on
      ∧ ({ on with state := .falling, opacity := 1023 }.react (calm.chan 0).presets 1).state = .rising
      ∧ ({ on with state := .falling, opacity := 1024 }.react (calm.chan 0).presets 1).state = .on
      ∧ (out.react (calm.chan 0).presets 1).state = .falling
      ∧ ({ out with state := .rising, opacity := 0 }.react (calm.chan 0).presets 1).state = .off := by
  decide +kernel

theorem witness_WindowRequests :
    calm.Room .b 1 ∧ 4 ≤ (4 : Byte).toNat ∧ 8 ≤ (8 : Byte).toNat
      ∧ (3 : Byte).toNat = (3 : Channel).val ∧ (7 : Byte).toNat = (7 : PresetIx).val := by
  decide +kernel

theorem witness_SuppressResult :
    calm.Room .a 1 ∧ (calm.port .a).supervisor = true ∧ (calm.port .b).supervisor = false
      ∧ 0 < (1 : Byte).toNat ∧ (15 : Byte).toNat < 16 ∧ 3 ≤ (3 : Byte).toNat := by decide +kernel

/-- A report of a value and an INVALID one, as the span matcher takes them. -/
theorem witness_SpanSetResult_report :
    let r : StepReport := { status := .freewheel, value := 7, distance := 1, kind := .advance }
    let s := fun r => calm.modChan 0 fun x => x.setReport (some r)
    ((s r).chan 0).report = some r ∧ r.status ≠ .invalid ∧ (calm.chan 0).report = none
      ∧ ((s { r with status := .invalid }).chan 0).report = some { r with status := .invalid } := by
  decide +kernel

theorem witness_SpanSetResult :
    calm.Room .c 1 ∧ calm.LevelsFollowed ∧ (3 : Byte).toNat = (3 : SpanIx).val
      ∧ labelValid .f1 .df (labelOfBytes ⟨23, 59, 59, 24⟩) = true
      ∧ labelValid .f1 .df (labelOfBytes ⟨23, 59, 59, 25⟩) = false
      ∧ (calm.chan 0).clock.status = .invalid
      ∧ ((clocked 0 5 calm).chan 0).clock.status ≠ .invalid ∧ (clocked 0 5 calm).LevelsFollowed := by
  refine ⟨?_, ?_, ?_, ?_, ?_, ?_, ?_, ?_⟩ <;> decide +kernel

theorem witness_WindowPeriodEvents :
    let w := (calm.chan 0).window
    let rise : Window := { w with
      state := .rising, opacity := 921, ramp := { start := 0, length := 10, count := 9 } }
    let fall : Window := { w with
      state := .falling, opacity := 103, ramp := { start := 1024, length := 10, count := 9 } }
    let early : Window := { rise with opacity := 819, ramp := { start := 0, length := 10, count := 8 } }
    let moving : Window := { fall with
      move := some { source := w.geometry, target := w.geometry, preset := 0, length := 1, count := 0 } }
    rise.RampSound ∧ fall.RampSound ∧ early.RampSound ∧ w.RampSound
      ∧ rise.ramp.length = rise.ramp.count + 1 ∧ early.ramp.count + 1 < early.ramp.length
      ∧ rise.contactHold = false ∧ (moving.move.map fun m => m.count + 1) = some 1
      ∧ ({ rise with contactHold := true } : Window).state = .rising
      ∧ ({ w with pendingLayout := some { preset := 7, duration := 0, cue := none } } :
        Window).move = none := by
  refine ⟨?_, ?_, ?_, ?_, ?_, ?_, ?_, ?_, ?_⟩ <;> decide +kernel

theorem witness_PresetWriteResult :
    calm.Room .a 1 ∧ writtenFields.key = 0 ∧ 2 ≤ (2 : Byte).toNat ∧ (7 : Byte).toNat = (7 : PresetIx).val
      ∧ (defaultLayout .f1).Fitted .f1 := by refine ⟨?_, ?_, ?_, ?_, ?_⟩ <;> decide +kernel

theorem witness_LayoutFitting : (defaultLayout .f5).Fitted .f5 := by decide +kernel

theorem witness_PeriodGeometryRanges :
    (defaultLayout .f2).Fitted .f2 ∧ (fitLayout .f2 { defaultLayout .f2 with border := 16 }).Fitted .f2
      ∧ (0 : Nat) < 250 ∧ (250 : Nat) ≤ 250 ∧ (1024 : Nat) ≤ 1024 := by
  refine ⟨?_, ?_, ?_, ?_, ?_⟩ <;> decide +kernel

theorem witness_DelayTargets :
    calm.Room .a 1 ∧ calm.PoolSound ∧ 4 ≤ (4 : Byte).toNat ∧ (3 : Byte).toNat = (3 : Channel).val := by
  decide +kernel

theorem witness_SlewStepResult :
    let s := after [.lagSet .a 0xFF 0 1] calm
    let due := s.modChan 0 fun x => x.setDelay { x.delay with slewCount := 24 }
    let down := (after [.lagSet .a 0xFF 0 0] due)
    due.PoolSound ∧ (due.chan 0).delay.slewInterval ≤ (due.chan 0).delay.slewCount + 1
      ∧ (due.chan 0).delay.actual < (due.chan 0).delay.target
      ∧ (s.chan 0).delay.slewCount + 1 < (s.chan 0).delay.slewInterval
      ∧ (down.chan 0).delay.actual = (down.chan 0).delay.target ∧ due.timing.relocking = false := by
  decide +kernel

/-- A step down that is due: 5 toward 4, with 6 slots held. -/
theorem witness_SlewStepResult_down :
    let s := (calm.modChan 0 fun x => x.setDelay { x.delay with
      actual := 5, held := 6, slewCount := 24, ring := List.replicate 6 none }).setFree 75
    s.PoolSound ∧ (s.chan 0).delay.target < (s.chan 0).delay.actual
      ∧ (s.chan 0).delay.slewInterval ≤ (s.chan 0).delay.slewCount + 1 := by decide +kernel

theorem witness_CalibrateResult :
    let s := locked 0 .holding calm
    s.Room .b 1 ∧ (s.chan 0).calibration.running = false ∧ s.timing.relockCount = 0
      ∧ (s.chan 0).sync.lock = .holding ∧ (calm.chan 0).sync.lock = .absent
      ∧ ((after [.calibrate .b 0xFF 0] s).chan 0).calibration.running = true
      ∧ 0 < (start 0).timing.relockCount := by decide +kernel

/-- A running calibration at run count 250 with marker 1, sent at count 1, still out: the next count is the
timeout; at 249 it is not, and at 150 the next sends marker 4. -/
theorem witness_CalibrationPeriods :
    let k := fun n => { resetCalibration with running := true, runCount := n
                                              sends := #v[some 1, some 51, some 101, none] }
    (k 250).timedOut 251 = true ∧ (k 151).timedOut 152 = false ∧ (k 151).sendDue = false ∧ (k 249).timedOut 250 = false ∧ (k 150).timedOut 151 = false
      ∧ (k 150).runCount + 1 = 1 + 50 * (3 : MarkerIx).val ∧ (k 150).running = true := by
  decide +kernel

theorem witness_MarkerMeasured :
    let k := { resetCalibration with
      running := true, base := 254, runCount := 10, sends := #v[some 1, none, none, none] }
    let last := { resetCalibration with
      running := true, base := 254, runCount := 160, sends := #v[some 1, some 51, some 101, some 151]
      measured := #v[some 9, some 9, some 12, none] }
    calm.PoolSound ∧ (0x51 : Sample).toNat % 256 = 0x51 ∧ (0x12E : Sample).toNat % 256 = 0x2E
      ∧ k.matched 254 = some 0 ∧ k.matched 255 = none ∧ k.matched 0 = none
      ∧ last.matched 1 = some 3 ∧ (last.measure 3).allMeasured = true
      ∧ (last.measure 3).largest = 12 := by decide +kernel

theorem witness_PictureStartResult :
    let x := (calm.chan 0).sync
    x.lock ≠ .lost ∧ x.lastStart = none ∧ ({ x with lock := .locked } : Synchroniser).lock.writes = true
      ∧ (({ x with lastStart := some 0 }.measureStart .f1 2160000 false).incoming)
        = some { interval := some 2160000 }
      ∧ (({ x with lastStart := some 0 }.measureStart .f1 2160001 false).incoming)
        = some { interval := none } := by decide +kernel

theorem witness_PictureCompletionResult :
    let x := (calm.chan 0).sync
    let full : Synchroniser := { x with
      lock := .mismatch, incoming := some { interval := some 1080000 }
      history := List.replicate 16 1080540 }
    full.full = true ∧ sumInRate .f1 full.history = true
      ∧ sumInRate .f1 (1080541 :: full.history.drop 1) = false
      ∧ full.lockAfter .f1 true true 1 = .acquiring ∧ full.lockAfter .f1 false false 0 = .mismatch
      ∧ ({ full with lock := .locked }.lockAfter .f1 true true 16) = .locked
      ∧ ({ full with lock := .acquiring }.lockAfter .f1 true true 16) = .locked
      ∧ rasterRight .f1 [List.replicate 540 1920, List.replicate 540 1920] = true
      ∧ (x.incoming = none) := by decide +kernel

theorem witness_SignerChoice :
    let s := locked 0 .holding calm
    let t := s.modChan 0 fun x => x.setSync { x.sync with holding := 9, unread := 2 }
    (s.chan 0).sync.lock = .holding ∧ (s.chan 0).sync.unread = 0
      ∧ (s.chan 0).sync.holding + 1 < (s.chan 0).sync.holdLimit
      ∧ (t.chan 0).sync.holdLimit ≤ (t.chan 0).sync.holding + 1 ∧ 0 < (t.chan 0).sync.unread
      ∧ (calm.chan 0).sync.lock ≠ .locked ∧ (calm.chan 0).sync.lock ≠ .holding := by decide +kernel

/-- A frame that is not extended, one that is but has a period to come, and one in its extension. -/
theorem witness_PeriodStart :
    let t : Timing := { calm.timing with
      reference := .locked, extending := true, firstPeriodDue := false, secondPeriod := false }
    calm.timing.blanking = false ∧ calm.timing.extending = false ∧ t.extended = false
      ∧ ({ t with secondPeriod := true } : Timing).extended = true
      ∧ ({ t with extending := false, blanking := true } : Timing).extended = true
      ∧ ({ t with blanking := true, firstPeriodDue := true } : Timing).extended = false := by decide +kernel

/-- What the parts of a period start meet: calibrations not running, to send, to raise and to time out; windows with
and without a move and a pending layout; a tally of the channel and one of another. -/
theorem witness_PeriodStart_parts :
    let k : Calibration := { (calm.chan 0).calibration with running := true }
    let old := { k with runCount := 250, sends := k.sends.put 0 (some 1) }
    let w := (calm.chan 0).window
    let q : PendingLayout := { preset := 1, duration := 1, cue := none }
    let m : Move := { source := w.geometry, target := w.geometry, preset := 1, length := 2, count := 0 }
    (calm.chan 0).calibration.running = false ∧ k.runCount + 1 = 1 + 50 * (0 : MarkerIx).val
      ∧ ({ k with runCount := 1 } : Calibration).sendDue = false ∧ k.timedOut (k.runCount + 1) = false
      ∧ old.sends.pick 0 = some 1 ∧ old.measured.pick 0 = none ∧ 1 + 250 ≤ old.runCount + 1
      ∧ (w.advanceRamp (calm.chan 0).presets).move = none
      ∧ ({ w with pendingLayout := some q }.advanceRamp (calm.chan 0).presets).pendingLayout = some q
      ∧ ({ w with move := some m }.advanceRamp (calm.chan 0).presets).move = some m
      ∧ (calm.tally 0).channel = 0 ∧ (calm.gpi 0).debounced = .opened ∧ (calm.gpi 0).debounce + 1 ≤ 16 := by
  decide +kernel

/-- A FIRE input at its last sample before the debounce completes. -/
theorem witness_DebouncedChange :
    let s := planned.setGpi 2 { resetGpi with
      mode := .fire, mask := #v[false, true, false, false], sampled := .closed, stable := 2 }
    s.CuesSound ∧ (s.gpi 2).debounce + 1 ≤ min 16 ((s.gpi 2).stable + 1)
      ∧ (s.gpi 2).debounced = .opened ∧ (s.gpi 2).mask.pick 1 = true ∧ (s.gpi 2).mask.pick 0 = false
      ∧ (s.chan 1).scheduler.contact = [] ++ 1 :: [] ∧ (s.chan 3).scheduler.contact = []
      ∧ ((s.cue 1).map (·.trigger)) = some (.contact 2) ∧ (planned.gpi 2).mode = .none := by
  decide +kernel

theorem witness_GpiBindResult :
    calm.Room .a 1 ∧ (calm.port .a).supervisor = true ∧ (7 : Byte).toNat = (7 : GpiIx).val
      ∧ gpiModeByte .hold = 3 ∧ polarityByte .activeOpen = 1 ∧ (15 : Byte).toNat < 16
      ∧ 8 ≤ (8 : Byte).toNat ∧ gpiModeByte .none = 0 := by decide +kernel

theorem witness_TallyOutputs :
    let x : Tally := { resetTally with mode := .onAirFlash, count := 12 }
    calm.Room .a 1 ∧ (calm.port .a).supervisor = true ∧ (3 : Byte).toNat = (3 : TallyIx).val
      ∧ tallyModeByte .onAirFlash = 2 ∧ x.onCount ≤ x.count ∧ x.flashes 1 false = true
      ∧ x.flashes 0 false = false ∧ ({ x with count := 11 } : Tally).phaseDue = false := by
  decide +kernel

theorem witness_OpacityZero :
    (calm.chan 0).latches.geometry.opacity = 0 ∧ calm.timing.relockPeriod = false
      ∧ calm.timing.blanking = false
      ∧ 1918 % 2 = 0 ∧ 1918 < width .f1 ∧ frameLine .f1 true 539 < height .f1 := by decide +kernel

theorem witness_AlphaValues :
    let l := (calm.chan 0).latches
    l.geometry.layout.inner < l.geometry.layout.outer ∧ l.geometry.layout.key = false
      ∧ l.geometry.inner.holds 1380 480 = true ∧ l.geometry.inner.holds 1378 480 = false
      ∧ effectiveAlpha 1024 1023 = 1023 ∧ effectiveAlpha 1023 1024 = 1023 := by decide +kernel

theorem witness_MixedSamples :
    let l := (calm.chan 0).latches
    (64 : Nat) ≤ 940 ∧ (940 : Nat) < 1024 ∧ (1024 : Nat) ≤ 1024
      ∧ 0 < ({ l.geometry with opacity := 1 } : PeriodGeometry).opacity
      ∧ calm.timing.relockPeriod = false ∧ calm.timing.blanking = false
      ∧ (calm.chan 0).sync.ring.pick l.signer = .black
      ∧ ((calm.chan 0).sync.ring.put 1 (.picture blackPicture 0)).pick 1 = .picture blackPicture 0
      ∧ l.geometry.layout.window.holds 1858 1018 = true
      ∧ l.geometry.layout.window.holds 1860 1018 = false
      ∧ l.geometry.inner.holds 1858 1018 = true ∧ l.display = .picture
      ∧ l.geometry.effective.holds 1918 1079 = true ∧ l.geometry.effective.holds 1920 1079 = false := by
  decide +kernel

/-- A period outside relock and blanking with a marker to send and a line to send it on, one without, and a
relock period. -/
theorem witness_BoothFeedContents :
    let s := calm.modChan 1 fun x => (x.setCalibration { x.calibration with
      inserting := some 254 }).setLatches { x.latches with
        booth := { blackPart with anc := { noAnc with vertical := [[]] } } }
    s.timing.relockPeriod = false ∧ s.timing.blanking = false ∧ (s.chan 1).calibration.inserting = some 254
      ∧ (s.chan 1).latches.booth.anc.vertical ≠ [] ∧ (s.chan 0).calibration.inserting = none
      ∧ (start 0).timing.relockPeriod = true := by decide +kernel

theorem witness_ReadReplies :
    calm.Room .a 1 ∧ (3 : Byte).toNat = (3 : Channel).val ∧ 4 ≤ (4 : Byte).toNat
      ∧ 9 ≤ (9 : Byte).toNat ∧ (7 : Byte).toNat = (7 : PresetIx).val ∧ 2 ≤ (2 : Byte).toNat
      ∧ (planned.cue 0).isSome = true := by decide +kernel

theorem witness_AttentionRequests :
    let s := calm.setPort .a ((calm.port .a).latch (.channel .cueOutcome 3) true)
    s.Room .a 1 ∧ (s.port .a).holds (.channel .cueOutcome 3) = true
      ∧ (Latch.all.filter (s.port .a).holds).length = 1 ∧ (calm.port .a).latchCount = 0
      ∧ (255 : Half).toNat < 256 ∧ 256 ≤ (256 : Half).toNat := by decide +kernel

theorem witness_UntakenRequests :
    calm.Room .b 1 ∧ (calm.port .b).supervisor = false ∧ 4 ≤ ((crowded .b calm).port .b).queue.length
      ∧ (1 : Byte) ≠ 0xFF := by decide +kernel

/-- Frames one character short of complete: STATUS_READ of CH0, a code that names none, a length that does
not fit, and a wrong check. -/
theorem witness_RequestChecks :
    let held : List Byte := [0x01, 0x07, 0x01, 0x00]
    let s := calm.setReceiver .b (.receiving held)
    (s.port .b).receiver = .receiving held ∧ (s.port .b).broken = false
      ∧ held.length = (byteAt held 2).toNat + 3 ∧ (held ++ [0xF7]).sum = 0 ∧ (held ++ [0xF8]).sum ≠ 0
      ∧ requestLength 0x01 = some (held.drop 3).length ∧ s.Room .b 0x07
      ∧ requestLength 0x05 = none ∧ requestLength 0x80 = none ∧ requestLength 0x02 = some 0
      ∧ requestLength 0x3C = some 1 ∧ (s.port .b).supervisor = false
      ∧ ¬ (crowded .b s).Room .b 0x07 ∧ ((crowded .b s).port .b).receiver = .receiving held
      ∧ requestOf 0x30 [3, 50] = some (.lagSet 3 50) ∧ requestLength 0x30 = some 2 := by decide +kernel

theorem witness_ReceiverTable :
    let s := calm.setReceiver .c (.receiving [1, 2])
    (s.port .c).broken = false ∧ (calm.port .c).receiver = .idle ∧ (48 : Byte).toNat ≤ 48
      ∧ 48 < (49 : Byte).toNat ∧ s.Room .c 2 ∧ ((crowded .c calm).port .c).sending = true
      ∧ ¬ (crowded .c s).Room .c 2 ∧ (calm.port .c).sending = false ∧ ((after [.lineBreak .c] s).port .c).broken = true := by
  decide +kernel

theorem witness_ChannelConfigResult :
    let s := after [.cueAdd .a 0xFF timeCue] (start 1)
    s.Room .a 1 ∧ (s.port .a).supervisor = true ∧ (s.port .b).supervisor = false
      ∧ (1 : Byte).toNat = (1 : Channel).val ∧ sourceByte .internal = 1 ∧ dropModeByte .ndf = 1
      ∧ policyByte .backdrop = 2 ∧ s.LevelsFollowed ∧ s.CuesSound ∧ s.RecordsSound ∧ s.ClocksSound
      ∧ fractional s.timing.format = true ∧ (s.chan 1).clock.dropMode = .df := by
  refine ⟨?_, ?_, ?_, ?_, ?_, ?_, ?_, ?_, ?_, ?_, ?_, ?_, ?_⟩ <;> decide +kernel

/-- A state of more than reset meets every condition that steps keep, and steps on. -/
theorem witness_kept :
    let s := planned.setPending [.windowSet .b 1 1 0 25 0 0]
    s.PoolSound ∧ s.WindowsSound ∧ s.LevelsFollowed ∧ s.CuesSound ∧ s.RecordsSound ∧ s.ClocksSound
      ∧ s.RingsSound ∧ s.PortsSound ∧ s.SynchronisersSound ∧ s.TimingSound
      ∧ ((after [.windowSet .b 1 1 0 25 0 0] s).chan 1).window.state = .rising := by
  refine ⟨?_, ?_, ?_, ?_, ?_, ?_, ?_, ?_, ?_, ?_, ?_⟩ <;> decide +kernel

theorem witness_kept_layouts : planned.ContactsSound ∧ planned.LayoutsFitted := by
  refine ⟨?_, ?_⟩
  · decide +kernel
  · intro c
    refine ⟨fun i => ?_, ?_, ?_⟩
    · revert c i; decide +kernel
    · revert c; decide +kernel
    · have none : (planned.chan c).window.move = none := by revert c; decide +kernel
      simp [none]

end Sys2Proof.Tests
end

section
/-! PROOFS. Labels and frame numbers (R8 to R11): the two countings, each with its inverse. -/

namespace Sys2Proof.Machine

open Sys2Proof

/-! ## Labels that R8 takes -/

theorem labelValid_iff (f : Format) (m : DropMode) (l : Label) :
    labelValid f m l = true ↔ (l.hh ≤ 23 ∧ l.mm ≤ 59 ∧ l.ss ≤ 59 ∧ l.ff < framesPerSecond f)
      ∧ ¬ (dropFrame f m = true ∧ l.ss = 0 ∧ l.ff ≤ 1 ∧ l.mm % 10 ≠ 0) := by
  simp only [labelValid, Bool.and_eq_true, Bool.not_eq_true', Bool.and_eq_false_iff,
    decide_eq_true_eq, decide_eq_false_iff_not, not_and_or, Bool.not_eq_true, and_assoc, or_assoc]

theorem framesPerSecond_pos (f : Format) : 0 < framesPerSecond f := by
  cases f <;> decide

theorem fractional_of_dropFrame {f : Format} {m : DropMode} (h : dropFrame f m = true) :
    fractional f = true := by
  simp only [dropFrame, Bool.and_eq_true] at h
  exact h.1

theorem dayLength_pos (f : Format) (m : DropMode) : 0 < dayLength f m := by
  unfold dayLength
  split
  · decide
  · split <;> decide

/-- Without drop-frame counting the day holds 24 hours of labels, none left out (R9). -/
theorem dayLength_plain {f : Format} {m : DropMode} (h : dropFrame f m = false) :
    dayLength f m = 86400 * framesPerSecond f := by
  simp only [dayLength, h, framesPerSecond]
  cases fractional f <;> rfl

theorem dayLength_drop {f : Format} {m : DropMode} (h : dropFrame f m = true) :
    dayLength f m = 2589408 := by
  simp [dayLength, h]

/-! ## Counting every label (R9) -/

/-- The seconds of the day that a label names. -/
def labelSeconds (l : Label) : Nat := l.hh * 3600 + l.mm * 60 + l.ss

theorem plainNumber_eq (fps : Nat) (l : Label) : plainNumber fps l = labelSeconds l * fps + l.ff := rfl

theorem plainNumber_lt {fps : Nat} {l : Label} (hh : l.hh ≤ 23) (mm : l.mm ≤ 59) (ss : l.ss ≤ 59)
    (ff : l.ff < fps) : plainNumber fps l < 86400 * fps := by
  have seconds : labelSeconds l + 1 ≤ 86400 := by unfold labelSeconds; omega
  calc plainNumber fps l = labelSeconds l * fps + l.ff := rfl
    _ < (labelSeconds l + 1) * fps := by rw [Nat.add_mul, Nat.one_mul]; omega
    _ ≤ 86400 * fps := Nat.mul_le_mul_right fps seconds

theorem plainLabel_plainNumber {fps : Nat} {l : Label} (mm : l.mm ≤ 59) (ss : l.ss ≤ 59)
    (ff : l.ff < fps) : plainLabel fps (plainNumber fps l) = l := by
  have quotient : plainNumber fps l / fps = labelSeconds l := by
    rw [plainNumber_eq, Nat.mul_comm, Nat.mul_add_div (by omega), Nat.div_eq_of_lt ff, Nat.add_zero]
  have rest : plainNumber fps l % fps = l.ff := by
    rw [plainNumber_eq, Nat.mul_comm, Nat.mul_add_mod, Nat.mod_eq_of_lt ff]
  obtain ⟨hh, minute, second, frame⟩ := l
  dsimp only at mm ss
  simp only [plainLabel, quotient, rest, labelSeconds, Label.mk.injEq, and_true]
  omega

theorem plainNumber_plainLabel (fps n : Nat) : plainNumber fps (plainLabel fps n) = n := by
  have seconds : labelSeconds (plainLabel fps n) = n / fps := by
    simp only [labelSeconds, plainLabel]; omega
  rw [plainNumber_eq, seconds]
  exact Nat.div_add_mod' n fps

theorem plainLabel_ranges {fps n : Nat} (h : n < 86400 * fps) :
    (plainLabel fps n).hh ≤ 23 ∧ (plainLabel fps n).mm ≤ 59 ∧ (plainLabel fps n).ss ≤ 59
      ∧ (plainLabel fps n).ff < fps := by
  have pos : 0 < fps := by omega
  have seconds : n / fps < 86400 := by rw [Nat.div_lt_iff_lt_mul pos]; exact h
  have ff : n % fps < fps := Nat.mod_lt n pos
  simp only [plainLabel]
  omega

/-- Settles O12: the two directions of R9, each an inverse of the other. -/
theorem plainLabels : Obligations.PlainLabels := by
  intro f m plain
  have number : ∀ l, frameNumber f m l = plainNumber (framesPerSecond f) l := by
    simp [frameNumber, plain]
  have label : ∀ n, labelOf f m n = plainLabel (framesPerSecond f) n := by simp [labelOf, plain]
  have day : dayLength f m = if fractional f then 2592000 else 2160000 := by simp [dayLength, plain]
  refine ⟨day, fun l valid => ?_, fun n lt => ?_⟩
  · obtain ⟨⟨hh, mm, ss, ff⟩, -⟩ := (labelValid_iff f m l).1 valid
    rw [label, number]
    refine ⟨rfl, ?_, plainLabel_plainNumber mm ss ff⟩
    rw [← day, dayLength_plain plain]
    exact plainNumber_lt hh mm ss ff
  · rw [← day, dayLength_plain plain] at lt
    rw [labelValid_iff, number, label]
    exact ⟨rfl, ⟨plainLabel_ranges lt, by simp [plain]⟩, plainNumber_plainLabel _ n⟩

/-! ## Drop-frame counting (R10, R11) -/

/-- Where a drop-frame number stands: in the minute `10 q + k`, `k` of them since the last whole ten, at the
offset `j`, which in a minute that leaves two labels out begins at 2 (R11). -/
theorem dropCounted_eq (n : Nat) : ∃ q k j, k ≤ 9 ∧ j < 1800 ∧ (0 < k → 2 ≤ j)
    ∧ n = 17982 * q + 1798 * k + j ∧ dropCounted n = 18000 * q + 1800 * k + j := by
  by_cases first : n % 17982 < 2
  · refine ⟨n / 17982, 0, n % 17982, by omega, by omega, by omega, by omega, ?_⟩
    simp only [dropCounted, first, if_true]
    omega
  · refine ⟨n / 17982, (n % 17982 - 2) / 1798, (n % 17982 - 2) % 1798 + 2, by omega, by omega, by omega,
      by omega, ?_⟩
    simp only [dropCounted, first, if_false]
    omega

theorem dropNumber_eq (l : Label) : dropNumber l = (l.hh * 3600 + l.mm * 60 + l.ss) * 30 + l.ff
    - 2 * ((60 * l.hh + l.mm) - (60 * l.hh + l.mm) / 10) := rfl

theorem dropNumber_plainLabel_dropCounted (n : Nat) :
    dropNumber (plainLabel 30 (dropCounted n)) = n := by
  obtain ⟨q, k, j, hk, hj, -, number, counted⟩ := dropCounted_eq n
  have minutes : 60 * (plainLabel 30 (dropCounted n)).hh + (plainLabel 30 (dropCounted n)).mm
      = 10 * q + k := by
    simp only [plainLabel, counted]; omega
  rw [dropNumber, plainNumber_plainLabel, minutes, counted]
  omega

theorem dropNumber_lt {l : Label} (hh : l.hh ≤ 23) (mm : l.mm ≤ 59) (ss : l.ss ≤ 59)
    (ff : l.ff < 30) : dropNumber l < 2589408 := by
  rw [dropNumber_eq]; omega

theorem dropCounted_lt {n : Nat} (h : n < 2589408) : dropCounted n < 86400 * 30 := by
  obtain ⟨q, k, j, hk, hj, -, number, counted⟩ := dropCounted_eq n
  omega

/-- The label of a drop-frame number is never one that the counting leaves out (R8, R11). -/
theorem plainLabel_dropCounted_counted (n : Nat) :
    ¬ ((plainLabel 30 (dropCounted n)).ss = 0 ∧ (plainLabel 30 (dropCounted n)).ff ≤ 1
      ∧ (plainLabel 30 (dropCounted n)).mm % 10 ≠ 0) := by
  obtain ⟨q, k, j, hk, hj, two, -, counted⟩ := dropCounted_eq n
  simp only [plainLabel, counted]
  omega

/-! ## Both countings -/

/-- A label that R8 takes names a frame number of the day (R9, R10). -/
theorem frameNumber_lt {f : Format} {m : DropMode} {l : Label} (valid : labelValid f m l = true) :
    frameNumber f m l < dayLength f m := by
  obtain ⟨⟨hh, mm, ss, ff⟩, -⟩ := (labelValid_iff f m l).1 valid
  cases drop : dropFrame f m
  · rw [dayLength_plain drop]
    simpa [frameNumber, drop] using plainNumber_lt hh mm ss ff
  · have fps : framesPerSecond f = 30 := by simp [framesPerSecond, fractional_of_dropFrame drop]
    rw [dayLength_drop drop]
    simpa [frameNumber, drop] using dropNumber_lt hh mm ss (fps ▸ ff)

/-- The label of a frame number of the day is one that R8 takes (R9, R11). -/
theorem labelValid_labelOf {f : Format} {m : DropMode} {n : Nat} (h : n < dayLength f m) :
    labelValid f m (labelOf f m n) = true := by
  rw [labelValid_iff]
  cases drop : dropFrame f m
  · rw [dayLength_plain drop] at h
    simpa [labelOf, drop] using plainLabel_ranges h
  · have fps : framesPerSecond f = 30 := by simp [framesPerSecond, fractional_of_dropFrame drop]
    rw [dayLength_drop drop] at h
    simp only [labelOf, drop, if_true, fps, true_and]
    exact ⟨plainLabel_ranges (dropCounted_lt h), plainLabel_dropCounted_counted n⟩

/-- A frame number is that of its own label (R9 to R11). -/
theorem frameNumber_labelOf (f : Format) (m : DropMode) (n : Nat) :
    frameNumber f m (labelOf f m n) = n := by
  cases drop : dropFrame f m
  · simpa [frameNumber, labelOf, drop] using plainNumber_plainLabel _ n
  · simpa [frameNumber, labelOf, drop] using dropNumber_plainLabel_dropCounted n

/-- Settles O13: R11 is read as minute and offset (`dropCounted_eq`), which R10 undoes. -/
theorem dropFrameLabels : Obligations.DropFrameLabels := by
  intro f rate n lt
  have drop : dropFrame f .df = true := by simp [dropFrame, rate]
  refine ⟨?_, labelValid_labelOf (by rwa [dayLength_drop drop]), ?_, frameNumber_labelOf f .df n⟩
  · simp only [labelOf, drop, if_true]
    rfl
  · simp only [frameNumber, drop, if_true]
    rfl

/-! ## A change of drop mode (R34, R67) -/

/-- The label that drop-frame counting gives in place of one of the plain counting is one that it has. -/
theorem labelValid_countedLabel {f : Format} {l : Label} (valid : labelValid f .ndf l = true) :
    labelValid f .df (countedLabel f l) = true := by
  unfold countedLabel
  split
  · assumption
  · rename_i left_out
    rw [labelValid_iff] at *
    have := framesPerSecond_pos f
    cases rate : fractional f <;> simp_all [dropFrame, framesPerSecond]

/-- A converted frame number is one of the new day. -/
theorem convertNumber_lt {f : Format} {old new : DropMode} {n : Nat} (h : n < dayLength f old) :
    convertNumber f old new n < dayLength f new := by
  have valid := labelValid_labelOf h
  cases old <;> cases new <;> simp only [convertNumber]
  case df.df | ndf.ndf => exact h
  case ndf.df => exact frameNumber_lt (labelValid_countedLabel valid)
  case df.ndf =>
    refine frameNumber_lt ?_
    rw [labelValid_iff] at *
    exact ⟨valid.1, by simp [dropFrame]⟩

end Sys2Proof.Machine
end

section
/-! PROOFS. The cue clock: its update, its range and its step report (R12 to R17). -/

namespace Sys2Proof.Machine

open Sys2Proof

/-! ## The update, case by case (R13 to R15) -/

theorem embeddedLabel_valid {f : Format} {m : DropMode} {frame : ProgrammeFrame} {l : Label}
    (label : frame.first.anc.timecode = some l) (valid : labelValid f m l = true) :
    embeddedLabel f m frame = some (frameNumber f m l) := by
  simp [embeddedLabel, label, valid]

theorem embeddedLabel_none {f : Format} {m : DropMode} {frame : ProgrammeFrame}
    (none_valid : ∀ l, frame.first.anc.timecode = some l → labelValid f m l = false) :
    embeddedLabel f m frame = none := by
  unfold embeddedLabel
  cases label : frame.first.anc.timecode with
  | none => rfl
  | some l => simp [none_valid l label]

theorem embeddedLabel_lt {f : Format} {m : DropMode} {frame : ProgrammeFrame} {v : Nat}
    (h : embeddedLabel f m frame = some v) : v < dayLength f m := by
  unfold embeddedLabel at h
  split at h
  · cases h
  · split at h
    · rename_i valid
      cases h
      exact frameNumber_lt valid
    · cases h

section
variable {k : CueClock} (f : Format) (frame : ProgrammeFrame) (kind : FrameKind)

theorem CueClock.update_label {v : Nat} (source : k.source = .embedded)
    (label : embeddedLabel f k.dropMode frame = some v) : k.update f frame kind = k.labelled v := by
  simp [CueClock.update, source, label]

theorem CueClock.update_noLabel (source : k.source = .embedded)
    (label : embeddedLabel f k.dropMode frame = none) :
    k.update f frame kind = k.unlabelled (dayLength f k.dropMode) := by
  simp [CueClock.update, source, label]

theorem CueClock.update_preset {p : Nat} (source : k.source = .internal)
    (pending : k.pendingPreset = some p) : k.update f frame kind = k.preset p := by
  simp [CueClock.update, source, pending]

theorem CueClock.update_run (source : k.source = .internal) (pending : k.pendingPreset = none) :
    k.update f frame kind = k.run (dayLength f k.dropMode) kind := by
  simp [CueClock.update, source, pending]

end

/-- Settles O9: one clause for each equation of the update. -/
theorem cueClockTable : Obligations.CueClockTable := by
  intro k f frame kind
  refine ⟨fun l source label valid => ?_, fun source none_valid => ?_, fun source pending => ?_,
    fun n source pending => ?_⟩
  · rw [k.update_label f frame kind source (embeddedLabel_valid label valid)]
    exact ⟨rfl, rfl, rfl, rfl⟩
  · rw [k.update_noLabel f frame kind source (embeddedLabel_none none_valid)]
    refine ⟨fun status limit => ?_, fun status limit => ?_, fun status limit => ?_,
      fun status limit => ?_, fun status => ?_⟩
    · simp [CueClock.unlabelled, status, limit, CueClock.freewheel, later]
    · simp [CueClock.unlabelled, status, limit, CueClock.expire]
    · simp [CueClock.unlabelled, status, limit, CueClock.freewheel, later]
    · simp [CueClock.unlabelled, status, Nat.not_lt.2 limit, CueClock.expire]
    · simp [CueClock.unlabelled, status]
  · rw [k.update_run f frame kind source pending]
    cases kind <;> rfl
  · rw [k.update_preset f frame kind source pending]
    rfl

/-! ## The range of a clock (R9, R10, R15) -/

theorem CueClock.update_dropMode (k : CueClock) (f : Format) (frame : ProgrammeFrame)
    (kind : FrameKind) : (k.update f frame kind).dropMode = k.dropMode := by
  unfold CueClock.update CueClock.unlabelled
  repeat' split
  all_goals rfl

theorem later_lt {day : Nat} (h : 0 < day) (v n : Nat) : later day v n < day := Nat.mod_lt _ h

section
variable {k : CueClock} {day : Nat} (sound : k.Sound day)
include sound

theorem CueClock.Sound.labelled {v : Nat} (h : v < day) : (k.labelled v).Sound day := by
  obtain ⟨-, -, pending, -⟩ := sound
  exact ⟨h, by simpa [CueClock.labelled] using h, pending, fun _ => rfl⟩

theorem CueClock.Sound.expire (source : k.source = .embedded) : k.expire.Sound day := by
  obtain ⟨value, last, pending, -⟩ := sound
  exact ⟨value, last, pending, by simp [CueClock.expire, source]⟩

theorem CueClock.Sound.freewheel (source : k.source = .embedded) (pos : 0 < day) (n : Nat) :
    (k.freewheel day n).Sound day := by
  obtain ⟨-, -, pending, -⟩ := sound
  exact ⟨later_lt pos _ _, by simpa [CueClock.freewheel] using later_lt pos _ _, pending,
    by simp [CueClock.freewheel, source]⟩

theorem CueClock.Sound.unlabelled (source : k.source = .embedded) (pos : 0 < day) :
    (k.unlabelled day).Sound day := by
  unfold CueClock.unlabelled
  split
  · split
    · exact sound.freewheel source pos _
    · exact sound.expire source
  · split
    · exact sound.freewheel source pos _
    · exact sound.expire source
  · exact sound

theorem CueClock.Sound.preset {p : Nat} (h : k.pendingPreset = some p) : (k.preset p).Sound day := by
  obtain ⟨-, -, pending, valid⟩ := sound
  have lt : p < day := pending p h
  exact ⟨lt, by simpa [CueClock.preset] using lt, by simp [CueClock.preset], valid⟩

theorem CueClock.Sound.run (pos : 0 < day) (kind : FrameKind) : (k.run day kind).Sound day := by
  obtain ⟨-, -, pending, valid⟩ := sound
  exact ⟨later_lt pos _ _, by simpa [CueClock.run] using later_lt pos _ _, pending, valid⟩

end

theorem CueClock.Sound.update {k : CueClock} {f : Format} (sound : k.Sound (dayLength f k.dropMode))
    (frame : ProgrammeFrame) (kind : FrameKind) :
    (k.update f frame kind).Sound (dayLength f k.dropMode) := by
  have pos := dayLength_pos f k.dropMode
  cases source : k.source with
  | internal =>
    cases pending : k.pendingPreset with
    | none => rw [k.update_run f frame kind source pending]; exact sound.run pos kind
    | some p => rw [k.update_preset f frame kind source pending]; exact sound.preset pending
  | embedded =>
    cases label : embeddedLabel f k.dropMode frame with
    | none => rw [k.update_noLabel f frame kind source label]; exact sound.unlabelled source pos
    | some v =>
      rw [k.update_label f frame kind source label]
      exact sound.labelled (embeddedLabel_lt label)

/-! ## The step report (R17) -/

theorem halfDay_eq (f : Format) (m : DropMode) : halfDay f m
    = if fractional f then (if m = .df then 1294704 else 1296000) else 1080000 := by
  cases f <;> cases m <;> rfl

theorem two_lt_halfDay (f : Format) (m : DropMode) : 2 < halfDay f m := by
  cases f <;> cases m <;> decide

theorem distance_cast {day : Nat} (pos : 0 < day) (a b : Nat) :
    (distance day a b : Int) = ((b : Int) - (a : Int)) % (day : Int) :=
  Int.toNat_of_nonneg (Int.emod_nonneg _ (by omega))

theorem stepKind_iff (f : Format) (m : DropMode) (d : Nat) :
    (stepKind f m d = .repeated ↔ d = 0) ∧ (stepKind f m d = .advance ↔ d = 1)
      ∧ (stepKind f m d = .forward ↔ 2 ≤ d ∧ d < halfDay f m)
      ∧ (stepKind f m d = .backward ↔ halfDay f m ≤ d) := by
  have half := two_lt_halfDay f m
  unfold stepKind
  by_cases zero : d = 0
  · simp [zero]; omega
  · by_cases one : d = 1
    · simp [one]; omega
    · by_cases ahead : d < halfDay f m
      · simp [zero, one, ahead]; omega
      · simp [zero, one, ahead]; omega

theorem CueClock.setsOne_iff (k : CueClock) : k.setsOne = true
    ↔ k.lastValid = none ∨ (k.source = .internal ∧ k.pendingPreset ≠ none) := by
  simp only [CueClock.setsOne, Bool.or_eq_true, Bool.and_eq_true, decide_eq_true_eq,
    Option.isNone_iff_eq_none, Option.isSome_iff_ne_none]
  exact or_comm

theorem stepReport_invalid {f : Format} {old new : CueClock} (h : new.status = .invalid) :
    (stepReport f old new).status = .invalid := by
  simp [stepReport, h]

theorem stepReport_one {f : Format} {old new : CueClock} (valid : new.status ≠ .invalid)
    (one : old.setsOne = true) : stepReport f old new
      = { status := new.status, value := new.value, distance := 1, kind := .advance } := by
  simp [stepReport, valid, one]

theorem stepReport_measured {f : Format} {old new : CueClock} {v : Nat}
    (valid : new.status ≠ .invalid) (one : old.setsOne = false) (last : old.lastValid = some v) :
    stepReport f old new
      = { status := new.status, value := new.value
          distance := distance (dayLength f new.dropMode) v new.value
          kind := stepKind f new.dropMode (distance (dayLength f new.dropMode) v new.value) } := by
  simp [stepReport, valid, one, last]

theorem stepReport_status (f : Format) (old new : CueClock) :
    (stepReport f old new).status = new.status := by
  unfold stepReport
  split
  · exact Eq.symm ‹_›
  · split <;> rfl

/-- Settles O11: the three forms of a report, and the table of kinds (`stepKind_iff`). -/
theorem stepReportKinds : Obligations.StepReportKinds := by
  intro f old new
  refine ⟨stepReport_invalid, fun valid => ⟨stepReport_status f old new, ?_, fun h => ?_,
    fun v last h => ?_⟩⟩
  · unfold stepReport
    rw [if_neg valid]
    split <;> rfl
  · rw [stepReport_one valid (old.setsOne_iff.2 h)]
    exact ⟨rfl, rfl⟩
  · have one : old.setsOne = false := by
      rw [← Bool.not_eq_true, old.setsOne_iff]
      rintro (absent | preset)
      · simp [last] at absent
      · exact h preset
    rw [stepReport_measured valid one last, ← halfDay_eq]
    exact ⟨distance_cast (dayLength_pos _ _) _ _, stepKind_iff f new.dropMode _⟩

end Sys2Proof.Machine
end

section
/-! PROOFS. What a step can do, said once: every command leaves the ports aside, then does one of the device's
own events or what a request asks, and then leaves the ports aside again. -/

namespace Sys2Proof.Machine

open Sys2Proof

/-! ## Requests -/

/-- What the owner of a request does with it (R185); DEVICE_RESET has none of its own. -/
def requestOwner (p : PortId) : Request → State → State × Answer
  | .statusRead ch => statusRead ch
  | .attentionRead => attentionRead p
  | .attentionMask mask => attentionMask p mask
  | .syncStatsRead ch clear => syncStatsRead ch clear
  | .cueAdd f => cueAdd p f
  | .cueModify h f => cueModify p h f
  | .cueDelete h => cueDelete p h
  | .cueListRead ch selector start => cueListRead ch selector start
  | .cueSkipNext ch => cueSkipNext ch
  | .cueClear ch scope => cueClear p ch scope
  | .cueHold mask action => cueHold p mask action
  | .outcomeRead ch => outcomeRead ch
  | .windowSet ch direction duration flag preset => windowSet ch direction duration flag preset
  | .layoutSelect ch preset duration => layoutSelect ch preset duration
  | .suppress mask action => suppress p mask action
  | .presetWrite ch index f => presetWrite p ch index f
  | .presetRead ch index => presetRead ch index
  | .spanSet ch index enable mode start stop => spanSet p ch index enable mode start stop
  | .spanRead ch => spanRead ch
  | .lagSet ch lag => lagSet ch lag
  | .boothLatencySet ch latency => boothLatencySet ch latency
  | .calibrate ch => calibrate p ch
  | .clockPreset ch label => clockPreset ch label
  | .channelConfig ch f => channelConfig ch f
  | .gpiBind gpi mode mask polarity debounce => gpiBind gpi mode mask polarity debounce
  | .tallySet tally ch mode onCount offCount => tallySet tally ch mode onCount offCount
  | .formatSet format => formatSet format
  | .channelReset ch => channelReset ch
  | .deviceReset => fun s => (s, refuse .notSupervisor)
  | .configRead part ch => configRead p part ch

/-- The requests that only the supervisor's port may make (R184). -/
def supervised : Request → Bool
  | .channelConfig _ _ | .gpiBind _ _ _ _ _ | .tallySet _ _ _ _ _ | .formatSet _ | .channelReset _
  | .deviceReset => true
  | _ => false

theorem handOver_eq_exec (p : PortId) (tag : Byte) (r : Request) (s : State) :
    handOver p tag r s = exec (requestCommand p tag r) s := by
  cases r <;> rfl

/-- A request but DEVICE_RESET is checked by the dispatcher and served by its owner (R185). -/
theorem exec_request {r : Request} (h : r ≠ .deviceReset) (p : PortId) (tag : Byte) (s : State) :
    exec (requestCommand p tag r) s = .next (if supervised r
      then s.serveSupervisor p tag (requestCode r) (requestOwner p r)
      else s.serve p tag (requestCode r) (requestOwner p r)) := by
  cases r
  case deviceReset => exact absurd rfl h
  all_goals rfl

theorem exec_deviceReset (p : PortId) (tag : Byte) (s : State) :
    exec (.deviceReset p tag) s = .next (s.serveDeviceReset p tag) := rfl

/-! ## The ports' own part -/

theorem State.SameButPorts.trans {s t u : State} (h : s.SameButPorts t) (g : t.SameButPorts u) :
    s.SameButPorts u := by
  rw [State.SameButPorts, g, h]

/-- What the ports do by themselves: a reply joins a queue or is sent, a latch is posted, and a receiver and its
line move on (R180 to R183). -/
inductive State.PortAct : State → State → Prop
  | reply (s : State) (p : PortId) (r : Reply) : s.PortAct (s.queueReply p r)
  | post (s : State) (p : PortId) (l : Latch) : s.PortAct (s.post p l)
  | receive (s : State) (p : PortId) (r : Receiver) (line : (s.port p).broken = false)
      (start : ∀ frame ∈ r.held, frame.length = 1) : s.PortAct (s.setReceiver p r)
  | join (s : State) (p : PortId) (frame : List Byte) (v : Byte) (line : (s.port p).broken = false)
      (held : (s.port p).receiver = .receiving frame)
      (short : ¬ ((frame ++ [v]).length = 3 ∧ 48 < v.toNat))
      (incomplete : ¬ (4 ≤ (frame ++ [v]).length
        ∧ (frame ++ [v]).length = (byteAt (frame ++ [v]) 2).toNat + 4)) :
      s.PortAct (s.setReceiver p (.receiving (frame ++ [v])))
  | abandon (s : State) (p : PortId) (r : Receiver) (frame : List Byte)
      (held : (s.port p).receiver = .receiving frame) (start : ∀ frame ∈ r.held, frame.length = 1) :
      s.PortAct (s.abandon p r)
  | lineBreak (s : State) (p : PortId) : s.PortAct (s.modPort p fun x =>
      { x with receiver := .idle, queue := [], sending := false, broken := true })
  | mark (s : State) (p : PortId) : s.PortAct (s.modPort p fun x => { x with broken := false })
  | sent (s : State) (p : PortId) (sending : (s.port p).sending = true) : s.PortAct (s.modPort p fun x =>
      { x with queue := x.queue.drop 1, sending := decide (1 < x.queue.length) })

theorem State.PortAct.same {s t : State} (h : s.PortAct t) : s.SameButPorts t := by
  cases h
  case reply p r =>
    unfold State.queueReply
    repeat' split
    all_goals rfl
  all_goals rfl

/-- Any number of the ports' own acts, one after another. -/
abbrev State.PortActs : State → State → Prop := Relation.ReflTransGen State.PortAct

theorem State.PortActs.same {s t : State} (h : s.PortActs t) : s.SameButPorts t := by
  induction h with
  | refl => rfl
  | tail _ act ih => exact ih.trans act.same

/-- A request served: its owner acts and the ports after it, or the ports alone do (R183, R185). -/
theorem State.serve_cases (s : State) (p : PortId) (tag code : Byte)
    (owner : State → State × Answer) :
    s.PortAct (s.serve p tag code owner) ∨ (owner s).1.PortAct (s.serve p tag code owner) := by
  unfold State.serve State.take
  split
  · exact .inl (.post s p _)
  · exact .inr (.reply _ p _)

theorem State.serveSupervisor_cases (s : State) (p : PortId) (tag code : Byte)
    (owner : State → State × Answer) :
    s.PortAct (s.serveSupervisor p tag code owner)
      ∨ (owner s).1.PortAct (s.serveSupervisor p tag code owner) := by
  unfold State.serveSupervisor
  split
  · exact s.serve_cases p tag code owner
  · exact .inl (.reply s p _)

/-! ## Events -/

/-- What comes about in the device, the ports' own acts aside: nothing, an event of the
table's rows in the case in which it acts, or the act of a request's owner. -/
inductive State.Event : State → State → Prop
  | stay (s : State) : s.Event s
  | powerOn (s : State) (straps : Straps) : s.Event
      (((s.keepSignals (State.powerOn straps)).setPending s.pending).resumeSignals
        fun c => (s.chan c).sync.signal)
  | judge (s : State) (now : Nat) : s.Event (s.setReference (s.timing.judge now))
  | timeout (s : State) (locked : s.timing.reference = .locked) :
      s.Event (s.setReference s.timing.free)
  | frame (s : State) (now : Nat) (inputs : Bank 4 (List InputFrame)) (order : List FrameTask) :
      s.Event (((frameOrder order).foldl (State.frameTask inputs) s.relock).setTiming
        (((frameOrder order).foldl (State.frameTask inputs) s.relock).timing.begin now))
  | relockEnd (s : State) : s.Event s.relock
  | expire (s : State) (c : Channel) (source : (s.chan c).clock.source = .embedded) :
      s.Event (s.reportClock c (s.chan c).clock.expire (s.chan c).delay.kind)
  | applyPreset (s : State) (c : Channel) (order : ReportOrder) (n : Nat)
      (pending : (s.chan c).clock.pendingPreset = some n) : s.Event
      ((s.reportClock c ((s.chan c).clock.preset n) (s.chan c).delay.kind).deliverReport c order)
  | slewStep (s : State) (c : Channel) (due : (s.chan c).delay.stepDue = true) : s.Event (s.slewStep c)
  | blank (s : State) (extended : s.timing.extended = true) :
      s.Event (s.setTiming { s.timing with blanking := true })
  | period (s : State) (contacts : Bank 8 Contact) (order : List PeriodTask) : s.Event
      ((periodOrder order).foldl
        (State.periodTask contacts (s.setTiming s.timing.nextPeriod).timing.outputPicture)
        (s.setTiming s.timing.nextPeriod))
  | advanceRamp (s : State) (c : Channel) :
      s.Event (s.modChan c fun x => x.setWindow (x.window.advanceRamp x.presets))
  | advanceMove (s : State) (c : Channel) :
      s.Event (s.modChan c fun x => x.setWindow x.window.advanceMove)
  | takePending (s : State) (c : Channel) :
      s.Event (s.modChan c fun x => x.setWindow (x.window.takePending x.presets))
  | raiseHolding (s : State) (c : Channel) (h : HandOver) (holding : (s.chan c).sync.lock = .holding) :
      s.Event (s.raiseHolding c h)
  | sampleGpi (s : State) (g : GpiIx) (v : Contact) (edges : List Channel) :
      s.Event (s.sampleGpi g v edges)
  | updateTally (s : State) (t : TallyIx) : s.Event (s.updateTally t)
  | countRun (s : State) (c : Channel) : s.Event (s.countRun c)
  | receiveMarker (s : State) (c : Channel) (ch seq : Nat) : s.Event (s.receiveMarker c ch seq)
  | signalUp (s : State) (c : Channel) : s.Event (s.signalUp c)
  | signalDown (s : State) (c : Channel) : s.Event
      (s.modChan c fun x => x.setSync { x.sync.discard with signal := false, lastStart := none })
  | signalAbsent (s : State) (c : Channel) : s.Event
      ((s.modChan c fun x => x.setSync { x.sync.discard with signal := false, lastStart := none }).setLock
        c .absent .windowFirst)
  | pictureStart (s : State) (c : Channel) (now : Nat) (fresh : Bool) : s.Event
      ((if fresh then
        (s.modChan c fun x => x.setSync x.sync.discard).setLock c .acquiring .windowFirst
        else s.modChan c fun x => x.setSync x.sync.discard).modChan c
          fun x => x.setSync (x.sync.measureStart s.format now fresh).beginWrite)
  | completePicture (s : State) (c : Channel) (right : Bool) (p : Picture) (h : HandOver) (i : Incoming) :
      s.Event (s.completePicture c right p h i)
  | request (s : State) (p : PortId) (r : Request) : s.Event (requestOwner p r s).1
  | resetDevice (s : State) : s.Event s.resetDevice

/-- A state reached by the ports' own acts, an event, and the ports' own acts again. -/
def State.Stepped (s t : State) : Prop :=
  ∃ a b, s.PortActs a ∧ State.Event a b ∧ b.PortActs t

theorem State.Event.stepped {s t : State} (h : s.Event t) : s.Stepped t := ⟨s, t, .refl, h, .refl⟩

theorem State.PortActs.stepped {s t : State} (h : s.PortActs t) : s.Stepped t :=
  ⟨s, s, .refl, .stay s, h⟩

theorem State.PortAct.stepped {s t : State} (h : s.PortAct t) : s.Stepped t :=
  State.PortActs.stepped (.single h)

theorem State.PortAct.then_stepped {s t u : State} (h : s.PortAct t) (g : t.Stepped u) :
    s.Stepped u := by
  obtain ⟨a, b, ha, event, hb⟩ := g
  exact ⟨a, b, .head h ha, event, hb⟩

theorem stepped_of_request {p : PortId} {tag : Byte} {r : Request} {s t : State}
    (h : exec (requestCommand p tag r) s = .next t) : s.Stepped t := by
  by_cases reset : r = .deviceReset
  · subst reset
    cases h
    unfold State.serveDeviceReset
    split
    · exact (State.PortAct.reply s p _).stepped
    · split
      · exact (State.PortAct.post s p _).stepped
      · exact (State.Event.resetDevice s).stepped
  · rw [exec_request reset] at h
    cases h
    have served : ∀ t, s.PortAct t ∨ (requestOwner p r s).1.PortAct t → s.Stepped t := by
      rintro t (same | owned)
      · exact same.stepped
      · exact ⟨s, _, .refl, .request s p r, .single owned⟩
    split
    · exact served _ (s.serveSupervisor_cases ..)
    · exact served _ (s.serve_cases ..)

/-- A frame completed is answered, or its request is taken (R181, R185). -/
theorem completeFrame_stepped {p : PortId} {frame : List Byte} {s t : State}
    (line : (s.port p).broken = false) (h : completeFrame p frame s = .next t) : s.Stepped t := by
  have idle : s.PortAct (s.setReceiver p .idle) := .receive s p .idle line (by simp [Receiver.held])
  unfold completeFrame dispatch at h
  dsimp only at h
  split at h
  · cases h
    exact idle.then_stepped (State.PortAct.reply ..).stepped
  · split at h
    · cases h
      exact idle.then_stepped (State.PortAct.reply ..).stepped
    · cases h
      exact idle.then_stepped (State.PortAct.reply ..).stepped
    · rw [handOver_eq_exec] at h
      exact idle.then_stepped (stepped_of_request h)

theorem joinFrame_stepped {p : PortId} {frame : List Byte} {v : Byte} {s t : State}
    (line : (s.port p).broken = false) (held : (s.port p).receiver = .receiving frame)
    (h : joinFrame p frame v s = .next t) : s.Stepped t := by
  unfold joinFrame at h
  dsimp only at h
  split at h
  · cases h
    have discarding : s.PortAct (s.setReceiver p .discarding) :=
      .receive s p .discarding line (by simp [Receiver.held])
    exact discarding.then_stepped (State.PortAct.reply ..).stepped
  · split at h
    · exact completeFrame_stepped line h
    · cases h
      exact (State.PortAct.join s p frame v line held ‹_› ‹_›).stepped

theorem execCharacterReceived_stepped {p : PortId} {ch : Character} {s t : State}
    (h : execCharacterReceived p ch s = .next t) : s.Stepped t := by
  unfold execCharacterReceived at h
  dsimp only at h
  split at h
  · cases h
    exact (State.Event.stay s).stepped
  · rename_i broken
    have line : (s.port p).broken = false := by simpa using broken
    have discard : s.Stepped (s.setReceiver p .discarding) :=
      (State.PortAct.receive s p .discarding line (by simp [Receiver.held])).stepped
    have start : s.Stepped (s.setReceiver p (.receiving [ch.value])) :=
      (State.PortAct.receive s p (.receiving [ch.value]) line (by simp [Receiver.held])).stepped
    split at h
    · cases h
      exact (State.PortAct.abandon s p _ _ ‹_› (by simp [Receiver.held])).stepped
    · cases h
      exact (State.PortAct.abandon s p _ _ ‹_› (by simp [Receiver.held])).stepped
    · exact joinFrame_stepped line ‹_› h
    · cases h; exact discard
    · cases h; exact discard
    · cases h; exact start
    · cases h; exact start
    · cases h; exact (State.Event.stay s).stepped
    · cases h; exact (State.Event.stay s).stepped

theorem exec_stepped {i : Instr} {s t : State} (h : exec i s = .next t) : s.Stepped t := by
  have stay : s.Stepped s := (State.Event.stay s).stepped
  cases i
  case powerOnReset straps => cases h; exact (State.Event.powerOn s straps).stepped
  case referenceFrameStart now => cases h; exact (State.Event.judge s now).stepped
  case referenceTimeout =>
    simp only [exec, execReferenceTimeout] at h
    split at h
    · cases h; exact (State.Event.timeout s ‹_›).stepped
    · cases h; exact stay
  case outputFrameStart now inputs order => cases h; exact (State.Event.frame s now inputs order).stepped
  case relockEnd =>
    simp only [exec, execRelockEnd] at h
    split at h
    · cases h; exact (State.Event.relockEnd s).stepped
    · cases h; exact stay
  case freewheelExpired c =>
    simp only [exec, execFreewheelExpired] at h
    split at h
    · rename_i spent
      cases h
      simp only [State.freewheelSpent, Bool.and_eq_true, decide_eq_true_eq] at spent
      obtain ⟨⟨⟨-, source⟩, -⟩, -⟩ := spent
      exact (State.Event.expire s c source).stepped
    · cases h; exact stay
  case clockPresetApplied c order =>
    simp only [exec, execClockPresetApplied] at h
    split at h
    · rename_i pending _
      cases h; exact (State.Event.applyPreset s c order _ pending).stepped
    · cases h; exact stay
  case slewStep c =>
    simp only [exec, execSlewStep] at h
    split at h
    · rename_i due
      cases h; exact (State.Event.slewStep s c due.2).stepped
    · cases h; exact stay
  case periodStart contacts order =>
    simp only [exec, execPeriodStart] at h
    split at h
    · cases h; exact (State.Event.blank s ‹_›).stepped
    · cases h; exact (State.Event.period s contacts order).stepped
  case rampEnd c =>
    simp only [exec, execRampEnd] at h
    split at h
    · cases h; exact (State.Event.advanceRamp s c).stepped
    · cases h; exact stay
  case moveEnd c =>
    simp only [exec, execMoveEnd] at h
    split at h
    · cases h; exact stay
    · split at h
      · cases h; exact (State.Event.advanceMove s c).stepped
      · cases h; exact stay
  case pendingLayoutTaken c => cases h; exact (State.Event.takePending s c).stepped
  case holdLimitReached c o =>
    simp only [exec, execHoldLimitReached] at h
    split at h
    · rename_i reached
      cases h; exact (State.Event.raiseHolding s c o reached.1).stepped
    · cases h; exact stay
  case debouncedStateChange g v edges =>
    simp only [exec, execDebouncedStateChange] at h
    split at h
    · cases h; exact stay
    · cases h; exact (State.Event.sampleGpi s g v edges).stepped
  case flashPhaseChange k =>
    simp only [exec, execFlashPhaseChange] at h
    split at h
    · cases h; exact (State.Event.updateTally s k).stepped
    · cases h; exact stay
  case markerSend c =>
    simp only [exec, execMarkerSend] at h
    split at h
    · cases h; exact (State.Event.countRun s c).stepped
    · cases h; exact stay
  case calibrationTimeout c =>
    simp only [exec, execCalibrationTimeout] at h
    split at h
    · cases h; exact (State.Event.countRun s c).stepped
    · cases h; exact stay
  case markerReceived c packet =>
    simp only [exec, execMarkerReceived] at h
    split at h
    · cases h; exact stay
    · cases h; exact (State.Event.receiveMarker s c _ _).stepped
  case signalUp c => cases h; exact (State.Event.signalUp s c).stepped
  case signalDown c =>
    simp only [exec, execSignalDown] at h
    split at h
    · cases h; exact (State.Event.signalAbsent s c).stepped
    · cases h; exact (State.Event.signalDown s c).stepped
  case pictureStart c now => cases h; exact (State.Event.pictureStart s c now _).stepped
  case pictureCompletion c raster picture o =>
    simp only [exec, execPictureCompletion] at h
    split at h
    · cases h; exact stay
    · cases h; exact (State.Event.completePicture s c _ picture o _).stepped
  case characterReceived p ch => exact execCharacterReceived_stepped h
  case frameGapTimeout p =>
    simp only [exec, execFrameGapTimeout] at h
    split at h
    · cases h
      exact (State.PortAct.abandon s p _ _ ‹_› (by simp [Receiver.held])).stepped
    · cases h; exact stay
    · cases h; exact stay
  case lineBreak p => cases h; exact (State.PortAct.lineBreak s p).stepped
  case lineReturnedToMark p => cases h; exact (State.PortAct.mark s p).stepped
  case replySent p =>
    simp only [exec, execReplySent] at h
    split at h
    · cases h; exact (State.PortAct.sent s p ‹_›).stepped
    · cases h; exact stay
  case statusRead p tag ch => exact stepped_of_request (r := .statusRead ch) h
  case attentionRead p tag => exact stepped_of_request (r := .attentionRead) h
  case attentionMask p tag mask => exact stepped_of_request (r := .attentionMask mask) h
  case syncStatsRead p tag ch clear => exact stepped_of_request (r := .syncStatsRead ch clear) h
  case cueAdd p tag f => exact stepped_of_request (r := .cueAdd f) h
  case cueModify p tag k f => exact stepped_of_request (r := .cueModify k f) h
  case cueDelete p tag k => exact stepped_of_request (r := .cueDelete k) h
  case cueListRead p tag ch selector start =>
    exact stepped_of_request (r := .cueListRead ch selector start) h
  case cueSkipNext p tag ch => exact stepped_of_request (r := .cueSkipNext ch) h
  case cueClear p tag ch scope => exact stepped_of_request (r := .cueClear ch scope) h
  case cueHold p tag mask action => exact stepped_of_request (r := .cueHold mask action) h
  case outcomeRead p tag ch => exact stepped_of_request (r := .outcomeRead ch) h
  case windowSet p tag ch direction duration flag preset =>
    exact stepped_of_request (r := .windowSet ch direction duration flag preset) h
  case layoutSelect p tag ch preset duration =>
    exact stepped_of_request (r := .layoutSelect ch preset duration) h
  case suppress p tag mask action => exact stepped_of_request (r := .suppress mask action) h
  case presetWrite p tag ch index f => exact stepped_of_request (r := .presetWrite ch index f) h
  case presetRead p tag ch index => exact stepped_of_request (r := .presetRead ch index) h
  case spanSet p tag ch index enable mode start stop =>
    exact stepped_of_request (r := .spanSet ch index enable mode start stop) h
  case spanRead p tag ch => exact stepped_of_request (r := .spanRead ch) h
  case lagSet p tag ch lag => exact stepped_of_request (r := .lagSet ch lag) h
  case boothLatencySet p tag ch latency => exact stepped_of_request (r := .boothLatencySet ch latency) h
  case calibrate p tag ch => exact stepped_of_request (r := .calibrate ch) h
  case clockPreset p tag ch label => exact stepped_of_request (r := .clockPreset ch label) h
  case channelConfig p tag ch f => exact stepped_of_request (r := .channelConfig ch f) h
  case gpiBind p tag gpi mode mask polarity debounce =>
    exact stepped_of_request (r := .gpiBind gpi mode mask polarity debounce) h
  case tallySet p tag tally ch mode onCount offCount =>
    exact stepped_of_request (r := .tallySet tally ch mode onCount offCount) h
  case formatSet p tag format => exact stepped_of_request (r := .formatSet format) h
  case channelReset p tag ch => exact stepped_of_request (r := .channelReset ch) h
  case deviceReset p tag => exact stepped_of_request (r := .deviceReset) h
  case configRead p tag part ch => exact stepped_of_request (r := .configRead part ch) h

/-- A step takes the command at the front of the queue, or idles. -/
theorem step_cases {s t : State} (h : step s = .next t) :
    t = s ∨ ∃ i rest, exec i (s.setPending rest) = .next t := by
  unfold step at h
  split at h
  · cases h; exact .inl rfl
  · exact .inr ⟨_, _, h⟩

/-- What the ports' own acts keep and every event keeps, and what the queue has no part in, every step keeps. -/
theorem step_keeps {P : State → Prop} (queue : ∀ (s : State) q, P s → P (s.setPending q))
    (act : ∀ s t : State, s.PortAct t → P s → P t) (event : ∀ s t : State, s.Event t → P s → P t)
    {s t : State} (h : step s = .next t) (keep : P s) : P t := by
  have acts : ∀ {a b : State}, a.PortActs b → P a → P b := by
    intro a b hab ha
    induction hab with
    | refl => exact ha
    | tail _ one ih => exact act _ _ one ih
  obtain rfl | ⟨i, rest, h⟩ := step_cases h
  · exact keep
  · obtain ⟨a, b, ha, happens, hb⟩ := exec_stepped h
    exact acts hb (event _ _ happens (acts ha (queue s rest keep)))

end Sys2Proof.Machine
end

section
/-! PROOFS. Frames of the requests and the resets: what they leave of the timing unit, the contact inputs, the
tally outputs and the queue. -/

namespace Sys2Proof.Machine

open Sys2Proof

/-- Between two states the timing unit, the contact inputs, the tally outputs and the queue are as they were. -/
abbrev State.Inner (s t : State) : Prop :=
  t.timing = s.timing ∧ t.gpis = s.gpis ∧ t.tallies = s.tallies ∧ t.pending = s.pending

theorem State.Inner.refl (s : State) : s.Inner s := ⟨rfl, rfl, rfl, rfl⟩

theorem State.Inner.trans {s t u : State} (h : s.Inner t) (g : t.Inner u) : s.Inner u := by
  obtain ⟨h1, h2, h3, h4⟩ := h
  obtain ⟨g1, g2, g3, g4⟩ := g
  exact ⟨g1.trans h1, g2.trans h2, g3.trans h3, g4.trans h4⟩

theorem State.Inner.foldl {α : Type} {f : State → α → State} (h : ∀ (s : State) a, s.Inner (f s a)) (l : List α)
    (s : State) : s.Inner (l.foldl f s) := by
  induction l generalizing s with
  | nil => exact .refl s
  | cons a l ih => exact (h s a).trans (ih _)

theorem State.Inner.eachChannel {f : Channel → State → State} (h : ∀ c (s : State), s.Inner (f c s)) (s : State) :
    s.Inner (s.eachChannel f) :=
  State.Inner.foldl (fun s c => h c s) _ s

theorem State.Inner.modChan (s : State) (c : Channel) (f : ChannelState → ChannelState) :
    s.Inner (s.modChan c f) := ⟨rfl, rfl, rfl, rfl⟩

theorem State.Inner.postAll (s : State) (l : Latch) : s.Inner (s.postAll l) := ⟨rfl, rfl, rfl, rfl⟩

/-! ## CHANNEL_CONFIG -/

theorem State.Inner.setSource (s : State) (c : Channel) (x : Source) : s.Inner (s.setSource c x) := by
  unfold State.setSource
  split
  · exact .refl s
  · exact (State.Inner.modChan s c _).trans (.postAll _ _)

theorem State.Inner.convertCue (s : State) (old new : DropMode) (i : SlotIx) :
    s.Inner (s.convertCue old new i) := by
  unfold State.convertCue
  repeat' split
  all_goals exact ⟨rfl, rfl, rfl, rfl⟩

theorem State.Inner.convertCues (s : State) (c : Channel) (old new : DropMode) :
    s.Inner (s.convertCues c old new) := by
  have converted : s.Inner ((s.chan c).scheduler.timed.foldl (fun u i => u.convertCue old new i) s) :=
    .foldl (fun s i => .convertCue s old new i) _ s
  exact converted.trans (.modChan _ c _)

theorem State.Inner.changeDropMode (s : State) (c : Channel) (m : DropMode) :
    s.Inner (s.changeDropMode c m) := by
  unfold State.changeDropMode
  dsimp only
  split
  · exact .modChan s c _
  · exact (State.Inner.modChan s c _).trans (.postAll _ _)

theorem State.Inner.convertSpans (s : State) (c : Channel) (old new : DropMode) :
    s.Inner (s.convertSpans c old new) := by
  unfold State.convertSpans
  dsimp only
  split
  · exact .modChan s c _
  · simp [State.Inner]

theorem State.Inner.setDropMode (s : State) (c : Channel) (m : DropMode) : s.Inner (s.setDropMode c m) := by
  unfold State.setDropMode
  dsimp only
  split
  · exact .refl s
  · split
    · exact ((State.Inner.convertCues s c _ m).trans (.changeDropMode _ c m)).trans (.convertSpans _ c _ m)
    · exact .modChan s c _

theorem State.Inner.setPolicy (s : State) (c : Channel) (x : LossPolicy) : s.Inner (s.setPolicy c x) := by
  simp [State.Inner, State.setPolicy]

theorem State.Inner.configure (s : State) (c : Channel) (k : Configuration) : s.Inner (s.configure c k) := by
  have mode := (State.Inner.setSource s c k.source).trans (.setDropMode _ c k.dropMode)
  unfold State.configure
  refine .trans (.trans mode ?_) (.modChan _ c _)
  exact .trans (.modChan _ c _) (.setPolicy _ c k.policy)

/-! ## The resets -/

theorem State.Inner.resumeSignals (s : State) (present : Channel → Bool) :
    s.Inner (s.resumeSignals present) := by
  refine .eachChannel (fun c t => ?_) s
  split
  · simp [State.Inner]
  · exact .refl t

theorem State.Inner.clearLatches (s : State) (c : Channel) : s.Inner (s.clearLatches c) := by
  simp [State.Inner]

theorem State.Inner.freeCues (s : State) (c : Channel) : s.Inner (s.freeCues c) := ⟨rfl, rfl, rfl, rfl⟩

theorem State.Inner.resetChannelDelay (s : State) (c : Channel) : s.Inner (s.resetChannelDelay c) :=
  ⟨rfl, rfl, rfl, rfl⟩

theorem State.Inner.abortRun (s : State) (c : Channel) : s.Inner (s.abortRun c) := by
  unfold State.abortRun
  split
  · simp [State.Inner]
  · exact .refl s

theorem State.Inner.resetOne (s : State) (c : Channel) : s.Inner (s.resetOne c) :=
  ((((State.Inner.clearLatches s c).trans (.freeCues _ c)).trans (.modChan _ c _)).trans
    (.resetChannelDelay _ c)).trans (.abortRun _ c)

/-! ## The requests -/

theorem syncStatsRead_cases (ch clear : Byte) (s : State) : (syncStatsRead ch clear s).1 = s
    ∨ ∃ c, (syncStatsRead ch clear s).1
      = s.modChan c fun y => y.setSync { y.sync with repeats := 0, drops := 0 } := by
  unfold syncStatsRead
  split
  · dsimp only
    split
    · exact .inr ⟨_, rfl⟩
    · exact .inl rfl
  · exact .inl rfl

theorem channelConfig_cases (ch : Byte) (f : ConfigFields) (s : State) : (channelConfig ch f s).1 = s
    ∨ ∃ c k, readChannel ch = some c ∧ readConfiguration f = some k
      ∧ (channelConfig ch f s).1 = s.configure c k := by
  unfold channelConfig
  split
  · rename_i c k hc hk
    exact .inr ⟨c, k, hc, hk, rfl⟩
  · exact .inl rfl

theorem channelReset_cases (ch : Byte) (s : State) : (channelReset ch s).1 = s
    ∨ ∃ c, (channelReset ch s).1 = s.resetOne c := by
  unfold channelReset
  split
  · exact .inl rfl
  · exact .inr ⟨_, rfl⟩

theorem formatSet_cases (format : Byte) (s : State) :
    (formatSet format s).1 = s ∨ ∃ f, (formatSet format s).1 = s.setFormat f := by
  unfold formatSet
  split
  · exact .inl rfl
  · exact .inr ⟨_, rfl⟩

theorem State.Inner.cueClear (s : State) (p : PortId) (ch scope : Byte) :
    s.Inner (cueClear p ch scope s).1 := by
  unfold Machine.cueClear
  repeat' split
  · exact .refl s
  · exact .foldl (fun t i => by simp [State.Inner]) _ s
  · exact .refl s

theorem State.Inner.cueHold (s : State) (p : PortId) (mask action : Byte) :
    s.Inner (cueHold p mask action s).1 := by
  have held : ∀ m : Bank 4 Bool, s.Inner (s.eachChannel fun c t =>
      if m.pick c then t.modScheduler c fun k => k.setHold (holdAfter k.hold p action.toNat) else t) := by
    refine fun m => .eachChannel (fun c t => ?_) s
    split
    · exact .modChan t c _
    · exact .refl t
  unfold Machine.cueHold
  repeat' split
  all_goals first | exact .refl s | exact held _

theorem State.Inner.suppress (s : State) (p : PortId) (mask action : Byte) :
    s.Inner (suppress p mask action s).1 := by
  have done : ∀ m : Bank 4 Bool, s.Inner (s.eachChannel fun c t =>
      if m.pick c then t.suppressChannel p action.toNat c else t) := by
    refine fun m => .eachChannel (fun c t => ?_) s
    split
    · simp [State.Inner]
    · exact .refl t
  unfold Machine.suppress
  repeat' split
  all_goals first | exact .refl s | exact done _

theorem State.Inner.requestOwner (s : State) (p : PortId) {r : Request}
    (format : ∀ f, r ≠ .formatSet f) (gpi : ∀ g m k o d, r ≠ .gpiBind g m k o d)
    (tally : ∀ k c m a b, r ≠ .tallySet k c m a b) : s.Inner (requestOwner p r s).1 := by
  cases r
  case formatSet f => exact absurd rfl (format f)
  case gpiBind g m k o d => exact absurd rfl (gpi g m k o d)
  case tallySet k c m a b => exact absurd rfl (tally k c m a b)
  case cueClear ch scope => exact .cueClear s p ch scope
  case cueHold mask action => exact .cueHold s p mask action
  case suppress mask action => exact .suppress s p mask action
  case channelConfig ch f =>
    simp only [Machine.requestOwner, channelConfig]
    split
    · exact .configure s _ _
    · exact .refl s
  case channelReset ch =>
    simp only [Machine.requestOwner, channelReset]
    split
    · exact .refl s
    · exact .resetOne s _
  all_goals
    simp only [Machine.requestOwner, statusRead, attentionRead, attentionMask, syncStatsRead, cueAdd,
      cueModify, cueDelete, cueListRead, cueSkipNext, outcomeRead, windowSet, layoutSelect, presetWrite,
      presetRead, spanSet, spanRead, lagSet, boothLatencySet, calibrate, clockPreset, configRead,
      State.placeCue, State.replaceCue]
    repeat' split
    all_goals simp [State.Inner]

end Sys2Proof.Machine
end

section
/-! PROOFS. What every step keeps of the timing unit, the contact inputs and the tally outputs. -/

namespace Sys2Proof.Machine

open Sys2Proof

/-! ## The timing unit (R2 to R4) -/

/-- The condition of `State.TimingSound`, of a timing unit. -/
def Timing.Sound (t : Timing) : Prop :=
  t.relockCount ≤ 8 ∧ (0 < t.relockCount → t.relocking = true)
    ∧ t.goodIntervals ≤ 2 ∧ (t.reference = .free → t.goodIntervals ≤ 1)
    ∧ (t.extending = true → t.reference = .locked)
    ∧ (t.blanking = true → t.secondPeriod = true)

theorem State.timingSound_iff (s : State) : s.TimingSound ↔ s.timing.Sound := Iff.rfl

theorem Timing.Sound.reset (f : Format) (b : Bool) : (resetTiming f b).Sound := by
  simp [Timing.Sound, resetTiming]

section
variable {t : Timing} (sound : t.Sound)
include sound

theorem Timing.Sound.free : t.free.Sound := by
  obtain ⟨count, relocking, -, -, -, blanking⟩ := sound
  exact ⟨count, relocking, by simp [Timing.free], by simp [Timing.free], by simp [Timing.free], blanking⟩

theorem Timing.Sound.countGood (free : t.reference = .free) : t.countGood.Sound := by
  obtain ⟨count, relocking, -, one, extending, blanking⟩ := sound
  have good := one free
  unfold Timing.countGood
  split
  · exact ⟨count, relocking, by simpa using good, by simp, by simp, blanking⟩
  · exact ⟨count, relocking, by dsimp only; omega, fun _ => by dsimp only; omega, extending, blanking⟩

theorem Timing.Sound.judge (now : Nat) : (t.judge now).Sound := by
  have stamped : ({ t with lastReference := some now } : Timing).Sound := sound
  obtain ⟨count, relocking, -, -, extending, blanking⟩ := sound
  unfold Timing.judge
  dsimp only
  split
  · exact stamped
  · exact stamped.free
  · rename_i free _
    exact stamped.countGood free
  · exact ⟨count, relocking, by simp, by simp, extending, blanking⟩

theorem Timing.Sound.relockStep : t.relockStep.Sound := by
  obtain ⟨count, -, good, one, extending, blanking⟩ := sound
  unfold Timing.relockStep
  split
  · exact ⟨by dsimp only; omega, fun _ => rfl, good, one, extending, blanking⟩
  · exact ⟨count, fun h => absurd h ‹_›, good, one, extending, blanking⟩

theorem Timing.Sound.begin (now : Nat) : (t.begin now).Sound := by
  obtain ⟨count, relocking, good, one, -, blanking⟩ := sound
  exact ⟨count, relocking, good, one, by simp [Timing.begin], blanking⟩

theorem Timing.Sound.nextPeriod : t.nextPeriod.Sound := by
  obtain ⟨count, relocking, good, one, extending, -⟩ := sound
  exact ⟨count, relocking, good, one, extending, by simp [Timing.nextPeriod]⟩

/-- Blanking begins only in a frame that has had its second period (R3). -/
theorem Timing.Sound.blank (extended : t.extended = true) :
    ({ t with blanking := true } : Timing).Sound := by
  obtain ⟨count, relocking, good, one, extending, blanking⟩ := sound
  refine ⟨count, relocking, good, one, extending, fun _ => ?_⟩
  simp only [Timing.extended, Bool.and_eq_true, Bool.or_eq_true] at extended
  obtain ⟨-, blank | ⟨-, second⟩⟩ := extended
  · exact blanking blank
  · exact second

theorem Timing.Sound.deviceReset : t.deviceReset.Sound := by
  obtain ⟨-, -, -, -, -, blanking⟩ := sound
  exact ⟨by simp [Timing.deviceReset], by simp [Timing.deviceReset], by simp [Timing.deviceReset],
    by simp [Timing.deviceReset], by simp [Timing.deviceReset], blanking⟩

end

theorem Timing.Sound.formatSet (t : Timing) (f : Format) : (t.formatSet f).Sound := by
  simp [Timing.Sound, Timing.formatSet]

/-! ### What the events do to the timing unit -/

theorem State.setReference_timing (s : State) (t : Timing) : (s.setReference t).timing = t := by
  unfold State.setReference
  split <;> simp

theorem State.relock_timing (s : State) : s.relock.timing = s.timing.relockStep := by
  unfold State.relock
  dsimp only
  split <;> simp

theorem frameTasks_timing (inputs : Bank 4 (List InputFrame)) (l : List FrameTask) (s : State) :
    (l.foldl (State.frameTask inputs) s).timing = s.timing :=
  foldl_keeps _ State.timing (fun s a => by simp) l s

theorem periodTasks_timing (contacts : Bank 8 Contact) (picture : Bool) (l : List PeriodTask) (s : State) :
    (l.foldl (State.periodTask contacts picture) s).timing = s.timing :=
  foldl_keeps _ State.timing (fun s a => by simp) l s

/-- The device with every channel reset and the format put in force, before anything is posted (R5). -/
def State.formatted (s : State) (f : Format) : State := (s.eachChannel fun c u => u.resetOne c).putFormat f

/-- CLOCK_CHANGE posted for every channel whose clock's state differs between two states (R18). -/
def State.postClockChanges (u s t : State) : State :=
  u.eachChannel fun c v =>
    if (s.chan c).clock.status = (t.chan c).clock.status then v
    else v.postAll (.channel .clockChange c)

theorem State.setFormat_eq (s : State) (f : Format) : s.setFormat f
    = (((s.formatted f).postClockChanges s (s.formatted f)).postAll .referenceChange).resumeSignals
        fun c => (s.chan c).sync.signal := rfl

theorem State.Inner.postClockChanges (u s t : State) : u.Inner (u.postClockChanges s t) := by
  refine .eachChannel (fun c v => ?_) u
  split
  · exact .refl v
  · exact .postAll v _

theorem State.formatted_inner (s : State) (f : Format) :
    (s.formatted f).timing = s.timing.formatSet f ∧ (s.formatted f).gpis = s.gpis
      ∧ (s.formatted f).tallies = s.tallies ∧ (s.formatted f).pending = s.pending := by
  have reset : s.Inner (s.eachChannel fun c u => u.resetOne c) := .eachChannel (fun c t => .resetOne t c) s
  obtain ⟨timing, gpis, tallies, pending⟩ := reset
  simp only [State.formatted, State.putFormat, timing, gpis, tallies, pending, and_self]

theorem State.Inner.setFormat (s : State) (f : Format) : (s.formatted f).Inner (s.setFormat f) := by
  rw [State.setFormat_eq]
  have posted := State.Inner.postClockChanges (s.formatted f) s (s.formatted f)
  refine .trans (posted.trans ?_) (.resumeSignals _ _)
  exact .postAll _ _

/-- FORMAT_SET takes the timing unit to its own reset values, and leaves the contact inputs, the tally outputs
and the queue (R5). -/
theorem State.setFormat_inner (s : State) (f : Format) :
    (s.setFormat f).timing = s.timing.formatSet f ∧ (s.setFormat f).gpis = s.gpis
      ∧ (s.setFormat f).tallies = s.tallies ∧ (s.setFormat f).pending = s.pending := by
  obtain ⟨timing, gpis, tallies, pending⟩ := s.formatted_inner f
  obtain ⟨timing', gpis', tallies', pending'⟩ := State.Inner.setFormat s f
  exact ⟨timing'.trans timing, gpis'.trans gpis, tallies'.trans tallies, pending'.trans pending⟩

theorem State.resetDevice_timing (s : State) : s.resetDevice.timing = s.timing.deviceReset :=
  (State.Inner.resumeSignals _ _).1

theorem gpiBind_inner (gpi mode mask polarity debounce : Byte) (s : State) :
    (gpiBind gpi mode mask polarity debounce s).1.timing = s.timing
      ∧ (gpiBind gpi mode mask polarity debounce s).1.tallies = s.tallies := by
  unfold gpiBind
  repeat' split
  all_goals simp

theorem tallySet_inner (tally ch mode onCount offCount : Byte) (s : State) :
    (tallySet tally ch mode onCount offCount s).1.timing = s.timing
      ∧ (tallySet tally ch mode onCount offCount s).1.gpis = s.gpis := by
  unfold tallySet
  repeat' split
  all_goals simp

theorem requestOwner_timing (s : State) (p : PortId) {r : Request} (h : ∀ f, r ≠ .formatSet f) :
    (requestOwner p r s).1.timing = s.timing := by
  cases r
  case formatSet f => exact absurd rfl (h f)
  case gpiBind g m k o d => exact (gpiBind_inner g m k o d s).1
  case tallySet k c m a b => exact (tallySet_inner k c m a b s).1
  all_goals exact (State.Inner.requestOwner s p (by simp) (by simp) (by simp)).1

theorem State.Event.timingSound {s t : State} (event : s.Event t) (sound : s.timing.Sound) :
    t.timing.Sound := by
  cases event
  case powerOn straps =>
    rw [(State.Inner.resumeSignals _ _).1]
    exact .reset _ _
  case judge now => rw [State.setReference_timing]; exact sound.judge now
  case timeout locked => rw [State.setReference_timing]; exact sound.free
  case frame now inputs order =>
    rw [State.setTiming_timing, frameTasks_timing, State.relock_timing]
    exact sound.relockStep.begin now
  case relockEnd => rw [State.relock_timing]; exact sound.relockStep
  case blank extended => exact sound.blank extended
  case period contacts order =>
    rw [periodTasks_timing]
    exact sound.nextPeriod
  case resetDevice => rw [State.resetDevice_timing]; exact sound.deviceReset
  case request p r =>
    by_cases format : ∃ f, r = .formatSet f
    · obtain ⟨f, rfl⟩ := format
      obtain same | ⟨f', set⟩ := formatSet_cases f s
      · simpa only [requestOwner, same] using sound
      · simp only [requestOwner]
        rw [set, (s.setFormat_inner f').1]
        exact .formatSet _ f'
    · rw [requestOwner_timing s p (fun f h => format ⟨f, h⟩)]
      exact sound
  case pictureStart c now fresh => cases fresh <;> simpa using sound
  all_goals simpa using sound

/-! ## The contact inputs (R168, R172) -/

theorem Gpi.Sound.sample {x : Gpi} (sound : x.Sound) (v : Contact) : (x.sample v).Sound := by
  obtain ⟨debounce, low, high, mask⟩ := sound
  unfold Gpi.sample
  dsimp only
  refine ⟨debounce, ?_, ?_, mask⟩
  · dsimp only; split <;> omega
  · dsimp only; split <;> omega

theorem maskEmpty_iff (m : Bank 4 Bool) : maskEmpty m = true ↔ m = Bank.fill 4 false := by
  constructor
  · intro h
    simp only [maskEmpty, Channel.all, List.all_cons, List.all_nil, Bool.and_true, Bool.and_eq_true,
      Bool.not_eq_true'] at h
    obtain ⟨h0, h1, h2, h3⟩ := h
    refine Vector.ext fun i hi => ?_
    simp only [Bank.pick] at h0 h1 h2 h3
    interval_cases i <;> simp_all [Bank.fill]
  · rintro rfl
    decide

theorem Gpi.Sound.bind {x : Gpi} (sound : x.Sound) {m : GpiMode} {k : Bank 4 Bool}
    (masked : m ≠ .none → maskEmpty k = false) (o : Polarity) {d : Nat} (hd : d ≤ 15) :
    (x.bind m k o d).Sound := by
  obtain ⟨-, low, high, -⟩ := sound
  have mask : m = .none ↔ (if m = .none then Bank.fill 4 false else k) = Bank.fill 4 false := by
    by_cases none : m = .none
    · simp [none]
    · simp only [none, if_false, false_iff]
      intro h
      have := masked none
      rw [(maskEmpty_iff k).2 h] at this
      cases this
  unfold Gpi.bind
  dsimp only
  split
  · exact ⟨hd, low, high, mask⟩
  · exact ⟨hd, by simp, by simp, mask⟩

/-! ## The tally outputs (R174 to R176) -/

/-- What of a tally's condition its next setting needs: the output itself is set anew. -/
def Tally.Ready (x : Tally) : Prop :=
  1 ≤ x.onCount ∧ x.onCount ≤ 250 ∧ 1 ≤ x.offCount ∧ x.offCount ≤ 250
    ∧ x.count ≤ (if x.phaseOn then x.onCount else x.offCount) ∧ (x.count = 0 → x.phaseOn = true)

theorem Tally.Sound.ready {x : Tally} (sound : x.Sound) : x.Ready := by
  obtain ⟨on, on', off, off', count, zero, -⟩ := sound
  exact ⟨on, on', off, off', count, zero⟩

theorem Tally.Ready.advanceFlash {x : Tally} (ready : x.Ready) : x.advanceFlash.Ready := by
  obtain ⟨on, on', off, off', count, zero⟩ := ready
  unfold Tally.advanceFlash
  split
  · exact ⟨on, on', off, off', by simpa using on, by simp⟩
  · split
    · refine ⟨on, on', off, off', ?_, by simp⟩
      dsimp only
      split <;> omega
    · rename_i nonzero due
      refine ⟨on, on', off, off', ?_, by simp⟩
      simp only [Tally.phaseDue, Bool.and_eq_true, decide_eq_true_eq, not_and] at due
      have := due nonzero
      dsimp only
      omega

theorem Tally.advanceFlash_mode (x : Tally) : x.advanceFlash.mode = x.mode := by
  unfold Tally.advanceFlash
  repeat' split
  all_goals rfl

theorem Tally.Ready.set {x : Tally} (ready : x.Ready) (opacity : Nat) (available : Bool) :
    (x.set opacity available).Sound := by
  unfold Tally.set
  split
  · rename_i flashes
    obtain ⟨on, on', off, off', count, zero⟩ := ready.advanceFlash
    refine ⟨on, on', off, off', count, zero, fun mode => ?_⟩
    simp only [Tally.flashes, Bool.and_eq_true, decide_eq_true_eq] at flashes
    rw [x.advanceFlash_mode, flashes.1.1] at mode
    cases mode
  · obtain ⟨on, on', off, off', -, -⟩ := ready
    exact ⟨on, on', off, off', by simp, by simp, by simp +contextual⟩

theorem Tally.Sound.reset : resetTally.Sound := by decide

theorem Gpi.Sound.reset : resetGpi.Sound := by
  refine ⟨by decide, by decide, by decide, by decide⟩

/-! ### What the events do to them -/

theorem State.setTally_tally (s : State) (k j : TallyIx) (x : Tally) :
    (s.setTally k x).tally j = if j = k then x else s.tally j := by
  simp only [State.tally, State.setTally_tallies, Bank.pick_put]

theorem State.setTally_updateTally_tally (s : State) (k j : TallyIx) (x : Tally) :
    (((s.setTally k x).updateTally k).tally j)
      = if j = k then x.set (s.tallyOpacity x.channel) (s.chan x.channel).sync.lock.available
        else s.tally j := by
  simp only [State.updateTally, State.setTally_tally]
  by_cases h : j = k
  · simp [h, State.tallyOpacity]
  · simp [h]

/-- The two halves of `State.ContactsSound`, each of the inputs or outputs alone. -/
def gpisSound (b : Bank 8 Gpi) : Prop := ∀ g : GpiIx, (b.pick g).Sound

def talliesSound (b : Bank 4 Tally) : Prop := ∀ k : TallyIx, (b.pick k).Sound

theorem State.contactsSound_iff (s : State) :
    s.ContactsSound ↔ gpisSound s.gpis ∧ talliesSound s.tallies := Iff.rfl

theorem gpisSound_put {b : Bank 8 Gpi} (sound : gpisSound b) (g : GpiIx) {x : Gpi} (hx : x.Sound) :
    gpisSound (b.put g x) := by
  intro g'
  rw [Bank.pick_put]
  split
  · exact hx
  · exact sound g'

theorem talliesSound_put {b : Bank 4 Tally} (sound : talliesSound b) (k : TallyIx) {x : Tally}
    (hx : x.Sound) : talliesSound (b.put k x) := by
  intro k'
  rw [Bank.pick_put]
  split
  · exact hx
  · exact sound k'

theorem gpisSound_fill : gpisSound (Bank.fill 8 resetGpi) := fun g => by
  rw [Bank.pick_fill]; exact .reset

theorem talliesSound_fill : talliesSound (Bank.fill 4 resetTally) := fun k => by
  rw [Bank.pick_fill]; exact .reset

theorem State.sampleGpi_gpis (s : State) (g : GpiIx) (v : Contact) (edges : List Channel) :
    (s.sampleGpi g v edges).gpis = s.gpis.put g ((s.gpi g).sample v) := by
  unfold State.sampleGpi
  dsimp only
  split <;> simp

theorem sampleGpi_sound {s : State} (sound : gpisSound s.gpis) (g : GpiIx) (v : Contact)
    (edges : List Channel) : gpisSound (s.sampleGpi g v edges).gpis := by
  rw [State.sampleGpi_gpis]
  exact gpisSound_put sound g ((sound g).sample v)

theorem updateTally_sound {s : State} (sound : talliesSound s.tallies) (k : TallyIx) :
    talliesSound (s.updateTally k).tallies :=
  talliesSound_put sound k ((sound k).ready.set _ _)

theorem updateTallies_sound {s : State} (sound : talliesSound s.tallies) (c : Channel) :
    talliesSound (s.updateTallies c).tallies :=
  List.foldlRecOn (motive := fun t : State => talliesSound t.tallies) _ _ sound
    fun _ h k _ => updateTally_sound h k

theorem periodTask_contactsSound {s : State} (sound : s.ContactsSound) (contacts : Bank 8 Contact)
    (picture : Bool) (k : PeriodTask) : (s.periodTask contacts picture k).ContactsSound := by
  obtain ⟨gpis, tallies⟩ := s.contactsSound_iff.1 sound
  rw [State.contactsSound_iff]
  cases k with
  | synchronise c h => simpa [State.periodTask] using ⟨gpis, tallies⟩
  | contact g edges => exact ⟨sampleGpi_sound gpis g _ edges, by simpa [State.periodTask] using tallies⟩
  | calibrate c => simpa [State.periodTask] using ⟨gpis, tallies⟩
  | window c =>
    refine ⟨by simpa [State.periodTask] using gpis, ?_⟩
    exact updateTallies_sound (by simpa using tallies) c

theorem gpiBind_sound {s : State} (sound : gpisSound s.gpis) (gpi mode mask polarity debounce : Byte) :
    gpisSound (gpiBind gpi mode mask polarity debounce s).1.gpis := by
  unfold gpiBind
  split
  · split
    · exact sound
    · rename_i g m o k _ _ _ _ refused
      simp only [State.takeContacts_gpis, State.setGpi_gpis]
      refine gpisSound_put sound g ((sound g).bind (fun bound => ?_) o (Nat.min_le_left _ _))
      rw [← Bool.not_eq_true]
      exact fun empty => refused ⟨bound, empty⟩
  · exact sound

theorem clampTo_bounds (lo hi n : Nat) (h : lo ≤ hi) : lo ≤ clampTo lo hi n ∧ clampTo lo hi n ≤ hi := by
  unfold clampTo; omega

theorem tallySet_sound {s : State} (sound : talliesSound s.tallies)
    (tally ch mode onCount offCount : Byte) :
    talliesSound (tallySet tally ch mode onCount offCount s).1.tallies := by
  unfold tallySet
  split
  · rename_i k c m _ _ _
    intro j
    show ((State.updateTally (State.setTally s k _) k).tally j).Sound
    rw [State.setTally_updateTally_tally]
    split
    · have on := clampTo_bounds 1 250 onCount.toNat (by decide)
      have off := clampTo_bounds 1 250 offCount.toNat (by decide)
      exact Tally.Ready.set ⟨on.1, on.2, off.1, off.2, by simp, by simp⟩ _ _
    · exact sound j
  · exact sound

theorem requestOwner_contactsSound {s : State} (sound : s.ContactsSound) (p : PortId) (r : Request) :
    (requestOwner p r s).1.ContactsSound := by
  obtain ⟨gpis, tallies⟩ := s.contactsSound_iff.1 sound
  rw [State.contactsSound_iff]
  have inner : s.Inner (requestOwner p r s).1
      → gpisSound (requestOwner p r s).1.gpis ∧ talliesSound (requestOwner p r s).1.tallies := by
    rintro ⟨-, h, h', -⟩
    exact ⟨h ▸ gpis, h' ▸ tallies⟩
  cases r
  case formatSet f =>
    obtain same | ⟨f', set⟩ := formatSet_cases f s
    · exact inner (by simp [requestOwner, same, State.Inner])
    · obtain ⟨-, h, h', -⟩ := s.setFormat_inner f'
      simp only [requestOwner, set, h, h']
      exact ⟨gpis, tallies⟩
  case gpiBind g m k o d =>
    exact ⟨gpiBind_sound gpis g m k o d, by simpa [requestOwner, gpiBind_inner] using tallies⟩
  case tallySet k c m a b =>
    exact ⟨by simpa [requestOwner, tallySet_inner] using gpis, tallySet_sound tallies k c m a b⟩
  all_goals exact inner (.requestOwner s p (by simp) (by simp) (by simp))

theorem State.Event.contactsSound {s t : State} (event : s.Event t) (sound : s.ContactsSound) :
    t.ContactsSound := by
  obtain ⟨gpis, tallies⟩ := s.contactsSound_iff.1 sound
  cases event
  case powerOn straps =>
    obtain ⟨-, h, h', -⟩ := State.Inner.resumeSignals
      ((s.keepSignals (State.powerOn straps)).setPending s.pending) fun c => (s.chan c).sync.signal
    rw [State.contactsSound_iff, h, h']
    exact ⟨gpisSound_fill, talliesSound_fill⟩
  case resetDevice =>
    obtain ⟨-, h, h', -⟩ := State.Inner.resumeSignals _ fun c => (s.chan c).sync.signal
    rw [State.contactsSound_iff, State.resetDevice, h, h']
    exact ⟨gpisSound_fill, talliesSound_fill⟩
  case judge now =>
    unfold State.setReference
    split <;> exact sound
  case timeout locked =>
    unfold State.setReference
    split <;> exact sound
  case frame now inputs order =>
    have relocked : s.Inner (s.relock.setTiming s.timing) := by
      unfold State.relock
      dsimp only
      split <;> simp [State.Inner]
    refine List.foldlRecOn (motive := State.ContactsSound) _ _ ?_ fun u h k _ => ?_
    · obtain ⟨-, h, h', -⟩ := relocked
      exact (State.contactsSound_iff _).2 ⟨h ▸ gpis, h' ▸ tallies⟩
    · rw [State.contactsSound_iff] at *
      simpa using h
  case relockEnd =>
    unfold State.relock
    dsimp only
    split <;> exact sound
  case period contacts order =>
    exact List.foldlRecOn (motive := State.ContactsSound) _ _ sound
      fun u h k _ => periodTask_contactsSound h contacts _ k
  case sampleGpi g v edges =>
    exact ⟨sampleGpi_sound gpis g v edges, by simpa [talliesSound, State.tally] using tallies⟩
  case updateTally k => exact ⟨gpis, updateTally_sound tallies k⟩
  case request p r => exact requestOwner_contactsSound sound p r
  case pictureStart c now fresh =>
    rw [State.contactsSound_iff]
    cases fresh <;> simpa using ⟨gpis, tallies⟩
  all_goals
    rw [State.contactsSound_iff]
    simpa using ⟨gpis, tallies⟩

end Sys2Proof.Machine
end

section
/-! PROOFS. What every step keeps of the signer synchronisers (R120 to R126, R131). -/

namespace Sys2Proof.Machine

open Sys2Proof

/-! ## The record's own operations -/

theorem historyAdd_length {l : List Nat} (h : l.length ≤ 16) (n : Nat) : (historyAdd l n).length ≤ 16 := by
  simp only [historyAdd, List.length_drop, List.length_append, List.length_singleton]
  omega

section
variable {x : Synchroniser} (sound : x.Sound)
include sound

theorem Synchroniser.Sound.enter (new : LockState) : (x.enter new).Sound := by
  obtain ⟨write, current, newest, unread, history, consecutive, repeats, drops⟩ := sound
  unfold Synchroniser.enter
  split
  · exact ⟨write, current, newest, unread, by simp, by simp, repeats, drops⟩
  · exact ⟨write, current, newest, unread, history, consecutive, repeats, drops⟩

theorem Synchroniser.Sound.discard : x.discard.Sound := by
  obtain ⟨write, current, newest, unread, history, consecutive, repeats, drops⟩ := sound
  unfold Synchroniser.discard
  split
  · exact ⟨by simp, current, newest, unread, history, by simp, repeats, drops⟩
  · exact ⟨write, current, newest, unread, history, consecutive, repeats, drops⟩

theorem Synchroniser.Sound.measureStart (f : Format) (now : Nat) (fresh : Bool) :
    (x.measureStart f now fresh).Sound := by
  obtain ⟨write, current, newest, unread, history, consecutive, repeats, drops⟩ := sound
  have kept : x.Sound := ⟨write, current, newest, unread, history, consecutive, repeats, drops⟩
  unfold Synchroniser.measureStart
  split
  · exact kept
  · split
    · exact kept
    · split
      · exact ⟨write, current, newest, unread, by simp, by simp, repeats, drops⟩
      · exact ⟨write, current, newest, unread, historyAdd_length history _, consecutive, repeats, drops⟩

end

theorem Synchroniser.older_cases (x : Synchroniser) (a : Option RingIx) (b : RingIx) :
    x.older a b = a ∨ x.older a b = some b := by
  unfold Synchroniser.older
  split
  · exact .inr rfl
  · split
    · exact .inr rfl
    · exact .inl rfl

/-- The write slot taken is neither the current slot nor the newest (R124). -/
theorem Synchroniser.nextWrite_ne {x : Synchroniser} {i : RingIx} (h : x.nextWrite = some i) :
    i ≠ x.current ∧ i ≠ x.newest := by
  have taken : ∀ a ∈ x.nextWrite, a ≠ x.current ∧ a ≠ x.newest := by
    refine List.foldlRecOn (motive := fun o : Option RingIx => ∀ a ∈ o, a ≠ x.current ∧ a ≠ x.newest)
      _ _ (by simp) fun o ho b hb a ha => ?_
    obtain old | new := x.older_cases o b
    · exact ho a (old ▸ ha)
    · rw [new, Option.mem_some_iff] at ha
      subst ha
      simpa using (List.mem_filter.1 hb).2
  exact taken i h

theorem Synchroniser.Sound.beginWrite {x : Synchroniser} (sound : x.Sound) : x.beginWrite.Sound := by
  obtain ⟨write, current, newest, unread, history, consecutive, repeats, drops⟩ := sound
  unfold Synchroniser.beginWrite
  split
  · split
    · exact ⟨write, current, newest, unread, history, consecutive, repeats, drops⟩
    · rename_i i taken
      obtain ⟨hc, hn⟩ := Synchroniser.nextWrite_ne taken
      refine ⟨by simpa using ⟨hc, hn⟩, ?_, ?_, unread, history, consecutive, repeats, drops⟩
      · rw [Bank.pick_put_ne _ _ (Ne.symm hc)]; exact current
      · rw [Bank.pick_put_ne _ _ (Ne.symm hn)]; exact newest
  · exact ⟨write, current, newest, unread, history, consecutive, repeats, drops⟩

theorem Synchroniser.Sound.store {x : Synchroniser} (sound : x.Sound) (right : Bool) (p : Picture) :
    (x.store right p).Sound := by
  obtain ⟨write, current, newest, unread, history, consecutive, repeats, drops⟩ := sound
  unfold Synchroniser.store
  split
  · rename_i i taken
    obtain ⟨hc, -⟩ := write i taken
    refine ⟨by simp, ?_, by simp, unread, history, consecutive, repeats, drops⟩
    rw [Bank.pick_put_ne _ _ (Ne.symm hc)]; exact current
  · exact ⟨by simp, current, newest, unread, history, consecutive, repeats, drops⟩

theorem saturate_le (top n : Nat) : saturate top n ≤ top := Nat.min_le_left _ _

theorem Synchroniser.Sound.countUnread {x : Synchroniser} (sound : x.Sound) (new : LockState) :
    (x.countUnread new).Sound := by
  obtain ⟨write, current, newest, unread, history, consecutive, repeats, drops⟩ := sound
  unfold Synchroniser.countUnread
  split
  · exact ⟨write, current, newest, by simp, history, consecutive, repeats, drops⟩
  · split
    · split
      · exact ⟨write, current, newest, by simp, history, consecutive, repeats, saturate_le _ _⟩
      · exact ⟨write, current, newest, by dsimp only; omega, history, consecutive, repeats, drops⟩
    · exact ⟨write, current, newest, unread, history, consecutive, repeats, drops⟩

theorem countValid_le {n : Nat} (valid : Bool) : countValid valid n ≤ 16 := by
  unfold countValid
  split <;> omega

theorem Synchroniser.Sound.complete {x : Synchroniser} (sound : x.Sound) {n : Nat} (hn : n ≤ 16)
    (new : LockState) (right : Bool) (p : Picture) : (x.complete n new right p).Sound := by
  obtain ⟨write, current, newest, unread, history, -, repeats, drops⟩ := (sound.store right p).countUnread new
  exact ⟨write, current, newest, unread, history, hn, repeats, drops⟩

theorem Synchroniser.Sound.choose {x : Synchroniser} (sound : x.Sound) : x.choose.Sound := by
  obtain ⟨write, current, newest, unread, history, consecutive, repeats, drops⟩ := sound
  unfold Synchroniser.choose
  split
  · split
    · exact ⟨fun i h => ⟨(write i h).2, (write i h).2⟩, newest, newest, by simp, history, consecutive,
        repeats, saturate_le _ _⟩
    · exact ⟨write, current, newest, unread, history, consecutive, saturate_le _ _, drops⟩
  · exact ⟨write, current, newest, unread, history, consecutive, repeats, drops⟩

theorem Synchroniser.Sound.reset (holdLimit : Nat) (policy : LossPolicy) (signal : Bool) :
    (resetSync holdLimit policy signal).Sound := by
  refine ⟨by simp [resetSync], ?_, ?_, by simp [resetSync], by simp [resetSync], by simp [resetSync],
    by simp [resetSync], by simp [resetSync]⟩
  · simp [resetSync]
  · simp [resetSync]

/-! ### The current slot -/

theorem Synchroniser.enter_current (x : Synchroniser) (new : LockState) :
    (x.enter new).current = x.current := by
  unfold Synchroniser.enter
  split <;> rfl

theorem Synchroniser.discard_current (x : Synchroniser) : x.discard.current = x.current := by
  unfold Synchroniser.discard
  split <;> rfl

theorem Synchroniser.measureStart_current (x : Synchroniser) (f : Format) (now : Nat) (fresh : Bool) :
    (x.measureStart f now fresh).current = x.current := by
  unfold Synchroniser.measureStart
  repeat' split
  all_goals rfl

theorem Synchroniser.beginWrite_current (x : Synchroniser) : x.beginWrite.current = x.current := by
  unfold Synchroniser.beginWrite
  repeat' split
  all_goals rfl

theorem Synchroniser.complete_current (x : Synchroniser) (n : Nat) (new : LockState) (right : Bool)
    (p : Picture) : (x.complete n new right p).current = x.current := by
  unfold Synchroniser.complete Synchroniser.countUnread Synchroniser.store
  dsimp only
  repeat' split
  all_goals rfl

/-! ## Changes of lock state -/

theorem State.setLevel_sync (s : State) (c : Channel) (b : Bool) :
    ((s.setLevel c b).chan c).sync = { (s.chan c).sync with level := b } := by
  simp [State.setLevel]

/-- What a change of lock state does to the synchroniser's record (R122, R128). -/
theorem State.setLock_sync (s : State) (c : Channel) (new : LockState) (h : HandOver) :
    ((s.setLock c new h).chan c).sync = if (s.chan c).sync.lock = new then (s.chan c).sync
      else { (s.chan c).sync.enter new with level := (s.chan c).sync.levelAfter new } := by
  unfold State.setLock
  dsimp only
  split
  · rfl
  · cases h <;> simp [State.setLevel_sync]

theorem State.setLock_sync_sound {s : State} {c : Channel} (sound : (s.chan c).sync.Sound)
    (new : LockState) (h : HandOver) : ((s.setLock c new h).chan c).sync.Sound := by
  rw [State.setLock_sync]
  split
  · exact sound
  · exact sound.enter new

theorem State.setLock_current (s : State) (c : Channel) (new : LockState) (h : HandOver) :
    ((s.setLock c new h).chan c).sync.current = (s.chan c).sync.current := by
  rw [State.setLock_sync]
  split
  · rfl
  · exact Synchroniser.enter_current _ new

/-! ## The condition, channel by channel -/

/-- The condition of `State.SynchronisersSound`, of one channel. -/
def ChannelState.SyncSound (x : ChannelState) : Prop :=
  x.sync.Sound ∧ x.latches.signer = x.sync.current

theorem State.synchronisersSound_iff (s : State) :
    s.SynchronisersSound ↔ ∀ c, (s.chan c).SyncSound := Iff.rfl

/-- An event of one channel keeps the condition when it does so there. -/
theorem synchronisersSound_at {s t : State} (sound : s.SynchronisersSound) (c : Channel)
    (others : ∀ d, d ≠ c → t.chan d = s.chan d) (own : (t.chan c).SyncSound) : t.SynchronisersSound := by
  intro d
  by_cases h : d = c
  · exact h ▸ own
  · exact (others d h).symm ▸ sound d

/-- What leaves records and latches alone keeps the condition. -/
theorem synchronisersSound_of_same {s t : State} (sound : s.SynchronisersSound)
    (sync : ∀ c, (t.chan c).sync = (s.chan c).sync)
    (latches : ∀ c, (t.chan c).latches = (s.chan c).latches) : t.SynchronisersSound := by
  intro c
  rw [sync c, latches c]
  exact sound c

theorem setLock_syncSound {s : State} {c : Channel} (sound : (s.chan c).SyncSound) (new : LockState)
    (h : HandOver) : ((s.setLock c new h).chan c).SyncSound := by
  obtain ⟨record, signer⟩ := sound
  refine ⟨State.setLock_sync_sound record new h, ?_⟩
  rw [State.setLock_current]
  simpa using signer

theorem modChan_syncSound {s : State} {c : Channel} {f : ChannelState → ChannelState}
    (own : (f (s.chan c)).SyncSound) : ((s.modChan c f).chan c).SyncSound := by
  rw [State.modChan_chan_same]
  exact own

section
variable {s : State} (sound : s.SynchronisersSound) (c : Channel)
include sound

theorem signalUp_syncSound : (s.signalUp c).SynchronisersSound := by
  refine synchronisersSound_at sound c (fun d h => by simp [h]) ?_
  have up : ((s.modChan c fun x => x.setSync { x.sync with signal := true }).chan c).SyncSound :=
    modChan_syncSound (sound c)
  unfold State.signalUp
  dsimp only
  split
  · exact setLock_syncSound up _ _
  · exact up

theorem resumeSignals_syncSound (present : Channel → Bool) :
    (s.resumeSignals present).SynchronisersSound := by
  refine List.foldlRecOn (motive := State.SynchronisersSound) _ _ sound fun t h d _ => ?_
  dsimp only
  split
  · exact signalUp_syncSound h d
  · exact h

theorem discard_syncSound : ((s.chan c).setSync (s.chan c).sync.discard).SyncSound :=
  ⟨(sound c).1.discard, by simpa [Synchroniser.discard_current] using (sound c).2⟩

theorem signalDown_syncSound :
    (((s.modChan c fun x => x.setSync { x.sync.discard with signal := false, lastStart := none }).chan
      c).SyncSound) :=
  modChan_syncSound (discard_syncSound sound c)

theorem pictureStart_syncSound (now : Nat) (fresh : Bool) :
    ((if fresh then
      (s.modChan c fun x => x.setSync x.sync.discard).setLock c .acquiring .windowFirst
      else s.modChan c fun x => x.setSync x.sync.discard).modChan c
        fun x => x.setSync (x.sync.measureStart s.format now fresh).beginWrite).SynchronisersSound := by
  have discarded : ((s.modChan c fun x => x.setSync x.sync.discard).chan c).SyncSound :=
    modChan_syncSound (discard_syncSound sound c)
  have begun : ∀ x : ChannelState, x.SyncSound →
      (x.setSync (x.sync.measureStart s.format now fresh).beginWrite).SyncSound := by
    rintro x ⟨record, signer⟩
    refine ⟨(record.measureStart s.format now fresh).beginWrite, ?_⟩
    simp [Synchroniser.beginWrite_current, Synchroniser.measureStart_current, signer]
  have started : ∀ u : State, (∀ d, d ≠ c → u.chan d = s.chan d) → (u.chan c).SyncSound →
      (u.modChan c fun x =>
        x.setSync (x.sync.measureStart s.format now fresh).beginWrite).SynchronisersSound :=
    fun u others own => synchronisersSound_at sound c
      (fun d hd => (State.modChan_chan_ne u _ hd).trans (others d hd)) (modChan_syncSound (begun _ own))
  split
  · refine started _ (fun d hd => ?_) (setLock_syncSound discarded _ _)
    rw [State.setLock_chan_ne _ _ _ _ hd, State.modChan_chan_ne _ _ hd]
  · exact started _ (fun d hd => State.modChan_chan_ne _ _ hd) discarded

theorem completePicture_syncSound (right : Bool) (p : Picture) (h : HandOver) (i : Incoming) :
    (s.completePicture c right p h i).SynchronisersSound := by
  refine synchronisersSound_at sound c (fun d hd => by simp [hd]) (setLock_syncSound ?_ _ _)
  obtain ⟨record, signer⟩ := sound c
  exact modChan_syncSound ⟨record.complete (countValid_le _) _ _ _,
    by simpa [Synchroniser.complete_current] using signer⟩

end

/-! ## The period start (R113, R126) -/

theorem raiseHolding_record {s : State} {c : Channel} (sound : (s.chan c).sync.Sound) (h : HandOver) :
    ((s.raiseHolding c h).chan c).sync.Sound
      ∧ ((s.raiseHolding c h).chan c).sync.current = (s.chan c).sync.current := by
  have raised : ((s.modChan c fun y =>
      y.setSync { (s.chan c).sync with holding := (s.chan c).sync.holding + 1 }).chan c).sync.Sound := by
    rw [State.modChan_chan_same]
    exact sound
  unfold State.raiseHolding
  dsimp only
  split
  · exact ⟨State.setLock_sync_sound raised _ _, by rw [State.setLock_current]; simp⟩
  · exact ⟨raised, by simp⟩

theorem chooseSigner_record {s : State} {c : Channel} (sound : (s.chan c).sync.Sound) (h : HandOver) :
    ((s.chooseSigner c h).chan c).sync.Sound := by
  unfold State.chooseSigner
  dsimp only
  refine State.setLock_sync_sound ?_ _ h
  rw [State.modChan_chan_same, ChannelState.setSync_sync]
  split
  · exact sound.choose
  · exact sound.choose

/-- The choice may change the current slot; the slot latched after it is the one it leaves (R113). -/
theorem syncPeriod_syncSound {s : State} (sound : s.SynchronisersSound) (c : Channel) (picture : Bool)
    (h : HandOver) : (s.syncPeriod c picture h).SynchronisersSound := by
  refine synchronisersSound_at sound c (fun d hd => by simp [hd]) ?_
  have latched : ∀ t : State, (t.chan c).sync.Sound →
      (((if (s.chan c).sync.lock = .holding ∧ (t.chan c).sync.lock = .holding then t.raiseHolding c h
        else t).modChan c fun x => x.setLatches { x.latches with signer := x.sync.current }).chan
          c).SyncSound := by
    intro t sound
    rw [State.modChan_chan_same]
    split
    · exact ⟨(raiseHolding_record sound h).1, rfl⟩
    · exact ⟨sound, rfl⟩
  unfold State.syncPeriod
  dsimp only
  cases picture
  · exact latched s (sound c).1
  · exact latched _ (chooseSigner_record (sound c).1 h)

theorem windowPeriod_syncSound {s : State} (sound : s.SynchronisersSound) (c : Channel) :
    (s.windowPeriod c).SynchronisersSound := by
  refine synchronisersSound_at sound c (fun d hd => by simp [hd]) ?_
  unfold State.windowPeriod
  rw [State.updateTallies_chan]
  exact modChan_syncSound (sound c)

theorem periodTask_syncSound {s : State} (sound : s.SynchronisersSound) (contacts : Bank 8 Contact)
    (picture : Bool) (k : PeriodTask) : (s.periodTask contacts picture k).SynchronisersSound := by
  cases k with
  | synchronise c h => exact syncPeriod_syncSound sound c picture h
  | contact g edges =>
    exact synchronisersSound_of_same sound (fun d => by simp [State.periodTask])
      (fun d => by simp [State.periodTask])
  | calibrate c =>
    exact synchronisersSound_of_same sound (fun d => by simp [State.periodTask])
      (fun d => by simp [State.periodTask])
  | window c => exact windowPeriod_syncSound sound c

end Sys2Proof.Machine
end

section
/-! PROOFS. What every step keeps of the signer synchronisers: the requests, the resets and the step. -/

namespace Sys2Proof.Machine

open Sys2Proof

/-! ## What leaves records and latches alone -/

/-- Between two states every synchroniser's record and every channel's latches are as they were. -/
def State.SyncSame (s t : State) : Prop :=
  ∀ c : Channel, (t.chan c).sync = (s.chan c).sync ∧ (t.chan c).latches = (s.chan c).latches

theorem State.SyncSame.refl (s : State) : s.SyncSame s := fun _ => ⟨rfl, rfl⟩

theorem State.SyncSame.trans {s t u : State} (h : s.SyncSame t) (g : t.SyncSame u) : s.SyncSame u :=
  fun c => ⟨(g c).1.trans (h c).1, (g c).2.trans (h c).2⟩

theorem State.SyncSame.foldl {α : Type} {f : State → α → State} (h : ∀ (s : State) a, s.SyncSame (f s a))
    (l : List α) (s : State) : s.SyncSame (l.foldl f s) := by
  induction l generalizing s with
  | nil => exact .refl s
  | cons a l ih => exact (h s a).trans (ih _)

theorem State.SyncSame.eachChannel {f : Channel → State → State}
    (h : ∀ c (s : State), s.SyncSame (f c s)) (s : State) : s.SyncSame (s.eachChannel f) :=
  State.SyncSame.foldl (fun s c => h c s) _ s

theorem State.SyncSame.modChan (s : State) (c : Channel) {f : ChannelState → ChannelState}
    (h : ∀ x, (f x).sync = x.sync ∧ (f x).latches = x.latches) : s.SyncSame (s.modChan c f) := by
  intro d
  rw [State.modChan_chan]
  split
  · rename_i same
    subst same
    exact h _
  · exact ⟨rfl, rfl⟩

theorem State.SyncSame.postAll (s : State) (l : Latch) : s.SyncSame (s.postAll l) := fun c => by simp

theorem State.SyncSame.sound {s t : State} (same : s.SyncSame t) (sound : s.SynchronisersSound) :
    t.SynchronisersSound :=
  synchronisersSound_of_same sound (fun c => (same c).1) fun c => (same c).2

/-! ## CHANNEL_CONFIG -/

theorem State.SyncSame.setSource (s : State) (c : Channel) (x : Source) : s.SyncSame (s.setSource c x) := by
  unfold State.setSource
  split
  · exact .refl s
  · have changed : s.SyncSame (s.modChan c fun y => y.setClock (y.clock.changeSource x)) :=
      .modChan s c fun y => ⟨rfl, rfl⟩
    exact changed.trans (.postAll _ _)

theorem State.SyncSame.convertCue (s : State) (old new : DropMode) (i : SlotIx) :
    s.SyncSame (s.convertCue old new i) := by
  unfold State.convertCue
  repeat' split
  all_goals exact .refl _

theorem State.SyncSame.convertCues (s : State) (c : Channel) (old new : DropMode) :
    s.SyncSame (s.convertCues c old new) := by
  have converted : s.SyncSame ((s.chan c).scheduler.timed.foldl (fun u i => u.convertCue old new i) s) :=
    .foldl (fun s i => .convertCue s old new i) _ s
  exact converted.trans (.modChan _ c fun x => ⟨rfl, rfl⟩)

theorem State.SyncSame.changeDropMode (s : State) (c : Channel) (m : DropMode) :
    s.SyncSame (s.changeDropMode c m) := by
  have changed : ∀ k, s.SyncSame (s.modChan c fun x => x.setClock k) :=
    fun k => .modChan s c fun x => ⟨rfl, rfl⟩
  unfold State.changeDropMode
  dsimp only
  split
  · exact changed _
  · exact (changed _).trans (.postAll _ _)

theorem State.SyncSame.convertSpans (s : State) (c : Channel) (old new : DropMode) :
    s.SyncSame (s.convertSpans c old new) := by
  have converted : ∀ w : ChannelState → Window, s.SyncSame (s.modChan c fun x => x.setWindow (w x)) :=
    fun w => .modChan s c fun x => ⟨rfl, rfl⟩
  unfold State.convertSpans
  dsimp only
  split
  · exact converted _
  · refine (converted fun x =>
      { x.window with spans := x.window.spans.map fun y => y.convert s.format old new }).trans ?_
    exact fun d => by simp

theorem State.SyncSame.setDropMode (s : State) (c : Channel) (m : DropMode) :
    s.SyncSame (s.setDropMode c m) := by
  unfold State.setDropMode
  dsimp only
  split
  · exact .refl s
  · split
    · exact .trans (.trans (.convertCues s c _ m) (.changeDropMode _ c m)) (.convertSpans _ c _ m)
    · exact .modChan s c fun x => ⟨rfl, rfl⟩

theorem modChan_synchronisersSound {s : State} (sound : s.SynchronisersSound) (c : Channel)
    {f : ChannelState → ChannelState} (own : ∀ x : ChannelState, x.SyncSound → (f x).SyncSound) :
    (s.modChan c f).SynchronisersSound :=
  synchronisersSound_at sound c (fun _ h => State.modChan_chan_ne s f h) (modChan_syncSound (own _ (sound c)))

theorem setLevel_syncSound {s : State} (sound : s.SynchronisersSound) (c : Channel) (b : Bool) :
    (s.setLevel c b).SynchronisersSound := by
  refine synchronisersSound_at sound c (fun d h => by simp [h]) ⟨?_, ?_⟩
  · rw [State.setLevel_sync]; exact (sound c).1
  · rw [State.setLevel_sync, State.setLevel_chan_latches]; exact (sound c).2

theorem setPolicy_syncSound {s : State} (sound : s.SynchronisersSound) (c : Channel) (x : LossPolicy) :
    (s.setPolicy c x).SynchronisersSound := by
  unfold State.setPolicy
  apply setLevel_syncSound
  exact modChan_synchronisersSound sound c fun _ h => h

theorem configure_syncSound {s : State} (sound : s.SynchronisersSound) (c : Channel) (k : Configuration) :
    (s.configure c k).SynchronisersSound := by
  have moded := ((State.SyncSame.setSource s c k.source).trans
    (.setDropMode _ c k.dropMode)).sound sound
  unfold State.configure
  dsimp only
  refine modChan_synchronisersSound (setPolicy_syncSound ?_ c _) c fun _ h => h
  exact modChan_synchronisersSound moded c fun _ h => h

/-! ## The resets -/

theorem State.SyncSame.freeCues (s : State) (c : Channel) : s.SyncSame (s.freeCues c) := .refl s

theorem State.SyncSame.clearLatches (s : State) (c : Channel) : s.SyncSame (s.clearLatches c) :=
  fun d => by simp

theorem State.SyncSame.resetChannelDelay (s : State) (c : Channel) : s.SyncSame (s.resetChannelDelay c) := by
  have delayed : ∀ d, s.SyncSame (s.modChan c fun x => x.setDelay d) :=
    fun d => .modChan s c fun _ => ⟨rfl, rfl⟩
  exact delayed _

theorem State.SyncSame.abortRun (s : State) (c : Channel) : s.SyncSame (s.abortRun c) := by
  have finished : s.SyncSame (s.modChan c fun x => x.setCalibration (x.calibration.finish .aborted)) :=
    .modChan s c fun _ => ⟨rfl, rfl⟩
  unfold State.abortRun
  split
  · exact finished.trans fun d => by simp
  · exact .refl s

/-- The repeat and drop counts cleared (R132, R135). -/
theorem ChannelState.SyncSound.clearCounts {x : ChannelState} (sound : x.SyncSound) :
    (x.setSync { x.sync with repeats := 0, drops := 0 }).SyncSound := by
  obtain ⟨⟨write, current, newest, unread, history, consecutive, -, -⟩, signer⟩ := sound
  exact ⟨⟨write, current, newest, unread, history, consecutive, by simp, by simp⟩, signer⟩

theorem resetOne_syncSound {s : State} (sound : s.SynchronisersSound) (c : Channel) :
    (s.resetOne c).SynchronisersSound := by
  have freed := ((State.SyncSame.clearLatches s c).trans (.freeCues _ c)).sound sound
  unfold State.resetOne
  dsimp only
  refine (State.SyncSame.abortRun _ c).sound ((State.SyncSame.resetChannelDelay _ c).sound ?_)
  exact modChan_synchronisersSound freed c fun x h => h.clearCounts

theorem State.formatted_chan (s : State) (f : Format) (c : Channel) : (s.formatted f).chan c
    = ((s.eachChannel fun c u => u.resetOne c).chan c).formatSet
        (s.eachChannel fun c u => u.resetOne c).format f := by
  simp [State.formatted, State.putFormat, State.chan]

theorem formatSet_chan_syncSound (x : ChannelState) (old new : Format) :
    (x.formatSet old new).SyncSound :=
  ⟨.reset _ _ _, rfl⟩

theorem setFormat_syncSound (s : State) (f : Format) : (s.setFormat f).SynchronisersSound := by
  have formatted : (s.formatted f).SynchronisersSound := by
    intro c
    rw [State.formatted_chan]
    exact formatSet_chan_syncSound _ _ _
  have posted : (s.formatted f).SyncSame
      (((s.formatted f).postClockChanges s (s.formatted f)).postAll .referenceChange) := by
    refine .trans (t := (s.formatted f).postClockChanges s (s.formatted f)) ?_ (.postAll _ _)
    refine .eachChannel (fun c v => ?_) _
    split
    · exact .refl v
    · exact .postAll v _
  rw [State.setFormat_eq]
  exact resumeSignals_syncSound (posted.sound formatted) _

theorem resetDevice_syncSound (s : State) : s.resetDevice.SynchronisersSound := by
  refine resumeSignals_syncSound ?_ _
  intro c
  simp only [State.chan, Bank.pick_map]
  exact ⟨.reset _ _ _, rfl⟩

theorem State.keepSignals_chan (s t : State) (c : Channel) : (s.keepSignals t).chan c
    = (t.chan c).setSync { (t.chan c).sync with signal := (s.chan c).sync.signal } := by
  simp [State.keepSignals, State.chan, Bank.pick]

theorem State.powerOn_chan (straps : Straps) (c : Channel) :
    (State.powerOn straps).chan c = resetChannel (formatOfStrap straps.fmt) := by
  simp [State.powerOn, State.chan]

theorem powerOn_syncSound (s : State) (straps : Straps) :
    (((s.keepSignals (State.powerOn straps)).setPending s.pending).resumeSignals
      fun c => (s.chan c).sync.signal).SynchronisersSound := by
  refine resumeSignals_syncSound (fun c => ?_) _
  rw [State.setPending_chan, State.keepSignals_chan, State.powerOn_chan]
  exact ⟨.reset 10 .withdraw (s.chan c).sync.signal, rfl⟩

/-! ## The requests and the step -/

theorem State.SyncSame.cueClear (s : State) (p : PortId) (ch scope : Byte) :
    s.SyncSame (cueClear p ch scope s).1 := by
  unfold Machine.cueClear
  repeat' split
  · exact .refl s
  · exact .foldl (fun t i c => by simp) _ s
  · exact .refl s

theorem State.SyncSame.cueHold (s : State) (p : PortId) (mask action : Byte) :
    s.SyncSame (cueHold p mask action s).1 := by
  have held : ∀ m : Bank 4 Bool, s.SyncSame (s.eachChannel fun c t =>
      if m.pick c then t.modScheduler c fun k => k.setHold (holdAfter k.hold p action.toNat) else t) := by
    refine fun m => .eachChannel (fun c t => ?_) s
    split
    · exact .modChan t c fun x => ⟨rfl, rfl⟩
    · exact .refl t
  unfold Machine.cueHold
  repeat' split
  all_goals first | exact .refl s | exact held _

theorem State.SyncSame.suppress (s : State) (p : PortId) (mask action : Byte) :
    s.SyncSame (suppress p mask action s).1 := by
  have done : ∀ m : Bank 4 Bool, s.SyncSame (s.eachChannel fun c t =>
      if m.pick c then t.suppressChannel p action.toNat c else t) := by
    refine fun m => .eachChannel (fun c t => ?_) s
    split
    · exact fun d => by simp
    · exact .refl t
  unfold Machine.suppress
  repeat' split
  all_goals first | exact .refl s | exact done _

theorem syncStatsRead_syncSound {s : State} (sound : s.SynchronisersSound) (ch clear : Byte) :
    (syncStatsRead ch clear s).1.SynchronisersSound := by
  obtain same | ⟨c, cleared⟩ := syncStatsRead_cases ch clear s
  · rwa [same]
  · rw [cleared]
    exact modChan_synchronisersSound sound c fun x h => h.clearCounts

theorem requestOwner_syncSound {s : State} (sound : s.SynchronisersSound) (p : PortId) (r : Request) :
    (requestOwner p r s).1.SynchronisersSound := by
  cases r
  case cueClear ch scope => exact (State.SyncSame.cueClear s p ch scope).sound sound
  case cueHold mask action => exact (State.SyncSame.cueHold s p mask action).sound sound
  case suppress mask action => exact (State.SyncSame.suppress s p mask action).sound sound
  case syncStatsRead ch clear =>
    exact syncStatsRead_syncSound sound ch clear
  case channelConfig ch f =>
    simp only [requestOwner]
    obtain same | ⟨c, k, -, -, stored⟩ := channelConfig_cases ch f s
    · rwa [same]
    · rw [stored]
      exact configure_syncSound sound c k
  case channelReset ch =>
    simp only [requestOwner]
    obtain same | ⟨c, reset⟩ := channelReset_cases ch s
    · rwa [same]
    · rw [reset]
      exact resetOne_syncSound sound c
  case formatSet f =>
    obtain same | ⟨f', set⟩ := formatSet_cases f s
    · simp only [requestOwner]
      rwa [same]
    · simp only [requestOwner]
      rw [set]
      exact setFormat_syncSound s f'
  all_goals
    refine State.SyncSame.sound (s := s) (fun d => ?_) sound
    simp only [requestOwner, statusRead, attentionRead, attentionMask, cueAdd,
      cueModify, cueDelete, cueListRead, cueSkipNext, outcomeRead, windowSet, layoutSelect, presetWrite,
      presetRead, spanSet, spanRead, lagSet, boothLatencySet, calibrate, clockPreset, configRead,
      gpiBind, tallySet, State.placeCue, State.replaceCue]
    repeat' split
    all_goals simp [State.modChan_chan]
    all_goals split
    all_goals simp_all

theorem State.Event.syncSound {s t : State} (event : s.Event t) (sound : s.SynchronisersSound) :
    t.SynchronisersSound := by
  cases event
  case stay => exact sound
  case powerOn straps => exact powerOn_syncSound s straps
  case judge now => unfold State.setReference; split <;> exact sound
  case timeout locked => unfold State.setReference; split <;> exact sound
  case frame now inputs order =>
    have relocked : s.relock.SynchronisersSound := by
      unfold State.relock
      dsimp only
      split <;> exact sound
    have done : s.relock.SyncSame ((frameOrder order).foldl (State.frameTask inputs) s.relock) :=
      .foldl (fun t k c => by simp) _ _
    exact done.sound relocked
  case relockEnd =>
    unfold State.relock
    dsimp only
    split <;> exact sound
  case blank => exact sound
  case period contacts order =>
    exact List.foldlRecOn (motive := State.SynchronisersSound) _ _ sound
      fun u h k _ => periodTask_syncSound h contacts _ k
  case raiseHolding c h _ =>
    obtain ⟨record, signer⟩ := sound c
    obtain ⟨record', current⟩ := raiseHolding_record record h
    refine synchronisersSound_at sound c (fun d hd => by simp [hd]) ⟨record', ?_⟩
    rw [current, State.raiseHolding_chan_latches]
    exact signer
  case signalUp c => exact signalUp_syncSound sound c
  case signalDown c =>
    exact synchronisersSound_at sound c (fun d h => State.modChan_chan_ne s _ h)
      (signalDown_syncSound sound c)
  case signalAbsent c =>
    refine synchronisersSound_at sound c (fun d h => ?_)
      (setLock_syncSound (signalDown_syncSound sound c) _ _)
    rw [State.setLock_chan_ne _ _ _ _ h, State.modChan_chan_ne _ _ h]
  case pictureStart c now fresh => exact pictureStart_syncSound sound c now fresh
  case completePicture c right p h i => exact completePicture_syncSound sound c right p h i
  case request p r => exact requestOwner_syncSound sound p r
  case resetDevice => exact resetDevice_syncSound s
  case advanceRamp c => exact modChan_synchronisersSound sound c fun _ h => h
  case advanceMove c => exact modChan_synchronisersSound sound c fun _ h => h
  case takePending c => exact modChan_synchronisersSound sound c fun _ h => h
  all_goals exact State.SyncSame.sound (s := s) (fun d => by simp) sound

end Sys2Proof.Machine
end

section
/-! PROOFS. What every step keeps of the control ports (R180 to R184), and of all blocks together. -/

namespace Sys2Proof.Machine

open Sys2Proof

/-! ## What leaves all but masks and latches alone -/

/-- A port with its mask and its latches left out of account. -/
def Port.bare (x : Port) : Port := { x with mask := 0, latches := Bank.fill 26 false }

theorem Port.bare_of_unlatched {x y : Port} (h : x.unlatched = y.unlatched) : x.bare = y.bare :=
  (congrArg (fun z : Port => { z with mask := (0 : Byte) }) h : _)

/-- Between two states the ports keep all but their masks and latches. -/
def State.PortsSame (s t : State) : Prop := ∀ q : PortId, (t.port q).bare = (s.port q).bare

theorem State.PortsSame.refl (s : State) : s.PortsSame s := fun _ => rfl

theorem State.PortsSame.trans {s t u : State} (h : s.PortsSame t) (g : t.PortsSame u) : s.PortsSame u :=
  fun q => (g q).trans (h q)

theorem State.PortsSame.of_unlatched {s t : State}
    (h : ∀ q, ((t.port q).unlatched = (s.port q).unlatched)) : s.PortsSame t :=
  fun q => Port.bare_of_unlatched (h q)

theorem State.PortsSame.foldl {α : Type} {f : State → α → State}
    (h : ∀ (s : State) a, s.PortsSame (f s a)) (l : List α) (s : State) : s.PortsSame (l.foldl f s) := by
  induction l generalizing s with
  | nil => exact .refl s
  | cons a l ih => exact (h s a).trans (ih _)

theorem State.PortsSame.eachChannel {f : Channel → State → State}
    (h : ∀ c (s : State), s.PortsSame (f c s)) (s : State) : s.PortsSame (s.eachChannel f) :=
  State.PortsSame.foldl (fun s c => h c s) _ s

theorem State.PortsSame.modChan (s : State) (c : Channel) (f : ChannelState → ChannelState) :
    s.PortsSame (s.modChan c f) := .refl s

theorem State.PortsSame.postAll (s : State) (l : Latch) : s.PortsSame (s.postAll l) :=
  .of_unlatched fun q => by simp

theorem State.PortsSame.postIf (s : State) (p : Prop) [Decidable p] (l : Latch) :
    s.PortsSame (if p then s else s.postAll l) := by
  split
  · exact .refl s
  · exact .postAll s l

/-! ### Timing -/

theorem State.PortsSame.setReference (s : State) (t : Timing) : s.PortsSame (s.setReference t) := by
  unfold State.setReference
  split
  · exact .refl s
  · exact .postAll (s.setTiming t) _

theorem State.PortsSame.relock (s : State) : s.PortsSame s.relock := by
  unfold State.relock
  dsimp only
  split
  · exact .postAll (s.setTiming _) _
  · exact .refl s

/-! ### CHANNEL_CONFIG -/

theorem State.PortsSame.setSource (s : State) (c : Channel) (x : Source) :
    s.PortsSame (s.setSource c x) := by
  unfold State.setSource
  split
  · exact .refl s
  · exact .postAll (s.modChan c _) _

theorem State.PortsSame.convertCue (s : State) (old new : DropMode) (i : SlotIx) :
    s.PortsSame (s.convertCue old new i) := by
  unfold State.convertCue
  repeat' split
  all_goals exact .refl _

theorem State.PortsSame.convertCues (s : State) (c : Channel) (old new : DropMode) :
    s.PortsSame (s.convertCues c old new) := by
  have converted : s.PortsSame ((s.chan c).scheduler.timed.foldl (fun u i => u.convertCue old new i) s) :=
    .foldl (fun s i => .convertCue s old new i) _ s
  exact converted

theorem State.PortsSame.changeDropMode (s : State) (c : Channel) (m : DropMode) :
    s.PortsSame (s.changeDropMode c m) := by
  unfold State.changeDropMode
  exact .postIf (s.modChan c _) _ _

theorem State.PortsSame.convertSpans (s : State) (c : Channel) (old new : DropMode) :
    s.PortsSame (s.convertSpans c old new) := by
  unfold State.convertSpans
  dsimp only
  split
  · exact .refl s
  · exact .of_unlatched fun q => by simp

theorem State.PortsSame.setDropMode (s : State) (c : Channel) (m : DropMode) :
    s.PortsSame (s.setDropMode c m) := by
  unfold State.setDropMode
  dsimp only
  split
  · exact .refl s
  · split
    · exact .trans (.trans (.convertCues s c _ m) (.changeDropMode _ c m)) (.convertSpans _ c _ m)
    · exact .refl s

theorem State.PortsSame.configure (s : State) (c : Channel) (k : Configuration) :
    s.PortsSame (s.configure c k) := by
  have mode := (State.PortsSame.setSource s c k.source).trans (.setDropMode _ c k.dropMode)
  refine mode.trans (.of_unlatched fun q => ?_)
  simp [State.configure, State.setPolicy]

/-! ### The resets -/

theorem State.PortsSame.resumeSignals (s : State) (present : Channel → Bool) :
    s.PortsSame (s.resumeSignals present) := by
  refine .eachChannel (fun c t => ?_) s
  split
  · exact .of_unlatched fun q => by simp
  · exact .refl t

theorem State.PortsSame.clearLatches (s : State) (c : Channel) : s.PortsSame (s.clearLatches c) :=
  .of_unlatched fun q => by simp

theorem State.PortsSame.abortRun (s : State) (c : Channel) : s.PortsSame (s.abortRun c) := by
  unfold State.abortRun
  split
  · exact .of_unlatched fun q => by simp
  · exact .refl s

@[simp] theorem State.freeCues_port (s : State) (c : Channel) (q : PortId) :
    (s.freeCues c).port q = s.port q := rfl

@[simp] theorem State.resetChannelDelay_port (s : State) (c : Channel) (q : PortId) :
    (s.resetChannelDelay c).port q = s.port q := rfl

theorem State.PortsSame.resetOne (s : State) (c : Channel) : s.PortsSame (s.resetOne c) := by
  intro q
  unfold State.resetOne
  dsimp only
  rw [State.PortsSame.abortRun _ c q, State.resetChannelDelay_port, State.modChan_port,
    State.freeCues_port]
  exact State.PortsSame.clearLatches s c q

theorem State.formatted_port (s : State) (f : Format) (q : PortId) :
    (s.formatted f).port q = (s.eachChannel fun c u => u.resetOne c).port q := by
  simp only [State.formatted, State.putFormat, State.port]

theorem State.PortsSame.setFormat (s : State) (f : Format) : s.PortsSame (s.setFormat f) := by
  have reset : s.PortsSame (s.formatted f) := by
    intro q
    rw [State.formatted_port]
    exact State.PortsSame.eachChannel (fun c t => .resetOne t c) s q
  have changes : (s.formatted f).PortsSame ((s.formatted f).postClockChanges s (s.formatted f)) :=
    .eachChannel (fun c t => .postIf t _ _) _
  rw [State.setFormat_eq]
  refine .trans (.trans (reset.trans changes) ?_) (.resumeSignals _ _)
  exact .postAll _ _

/-! ### The requests -/

theorem attentionMask_ports (p : PortId) (mask : Half) (s : State) :
    s.PortsSame (attentionMask p mask s).1 := by
  unfold attentionMask
  split
  · exact .refl s
  · intro q
    simp only [State.modPort_port]
    split
    · rename_i same; subst same; rfl
    · rfl

theorem attentionRead_ports (p : PortId) (s : State) : s.PortsSame (attentionRead p s).1 := by
  unfold attentionRead
  split
  · exact .refl s
  · intro q
    simp only [State.port, State.setPort_ports, Trio.pick_put]
    split
    · rename_i same; subst same; rfl
    · rfl

theorem State.PortsSame.requestOwner (s : State) (p : PortId) (r : Request) :
    s.PortsSame (requestOwner p r s).1 := by
  cases r
  case attentionRead => exact attentionRead_ports p s
  case attentionMask mask => exact attentionMask_ports p mask s
  case cueClear ch scope =>
    simp only [Machine.requestOwner, cueClear]
    repeat' split
    · exact .refl s
    · exact .foldl (fun t i => .of_unlatched fun q => by simp) _ s
    · exact .refl s
  case cueHold mask action =>
    have held : ∀ m : Bank 4 Bool, s.PortsSame (s.eachChannel fun c t =>
        if m.pick c then t.modScheduler c fun k => k.setHold (holdAfter k.hold p action.toNat) else t) := by
      refine fun m => .eachChannel (fun c t => ?_) s
      split <;> exact .refl t
    simp only [Machine.requestOwner, cueHold]
    repeat' split
    all_goals first | exact .refl s | exact held _
  case suppress mask action =>
    have done : ∀ m : Bank 4 Bool, s.PortsSame (s.eachChannel fun c t =>
        if m.pick c then t.suppressChannel p action.toNat c else t) := by
      refine fun m => .eachChannel (fun c t => ?_) s
      split
      · exact .of_unlatched fun q => by simp
      · exact .refl t
    simp only [Machine.requestOwner, Machine.suppress]
    repeat' split
    all_goals first | exact .refl s | exact done _
  case channelConfig ch f =>
    simp only [Machine.requestOwner]
    obtain same | ⟨c, k, -, -, stored⟩ := channelConfig_cases ch f s
    · rw [same]; exact .refl s
    · rw [stored]; exact .configure s c k
  case channelReset ch =>
    simp only [Machine.requestOwner]
    obtain same | ⟨c, reset⟩ := channelReset_cases ch s
    · rw [same]; exact .refl s
    · rw [reset]; exact .resetOne s c
  case formatSet f =>
    simp only [Machine.requestOwner]
    obtain same | ⟨f', set⟩ := formatSet_cases f s
    · rw [same]; exact .refl s
    · rw [set]; exact .setFormat s f'
  all_goals
    refine .of_unlatched fun q => ?_
    simp only [Machine.requestOwner, statusRead, syncStatsRead, cueAdd,
      cueModify, cueDelete, cueListRead, cueSkipNext, outcomeRead, windowSet, layoutSelect, presetWrite,
      presetRead, spanSet, spanRead, lagSet, boothLatencySet, calibrate, clockPreset, configRead,
      gpiBind, tallySet, State.placeCue, State.replaceCue]
    repeat' split
    all_goals simp

/-! ## The condition of the ports -/

/-- `State.PortsSound`, said of every port and of every two. -/
theorem State.portsSound_iff (s : State) : s.PortsSound ↔ (∀ p : PortId, (s.port p).Sound)
    ∧ ∀ p q : PortId, p ≠ q → ((s.port p).supervisor && (s.port q).supervisor) = false := by
  constructor
  · rintro ⟨a, b, c, ab, ac, bc⟩
    refine ⟨fun p => ?_, fun p q h => ?_⟩
    · cases p
      · exact a
      · exact b
      · exact c
    · cases p <;> cases q
      case a.a | b.b | c.c => exact absurd rfl h
      case a.b => exact ab
      case a.c => exact ac
      case b.c => exact bc
      case b.a => rw [Bool.and_comm]; exact ab
      case c.a => rw [Bool.and_comm]; exact ac
      case c.b => rw [Bool.and_comm]; exact bc
  · rintro ⟨own, two⟩
    exact ⟨own .a, own .b, own .c, two .a .b (by simp), two .a .c (by simp), two .b .c (by simp)⟩

theorem Port.bare_sound_iff {x y : Port} (h : x.bare = y.bare) : x.Sound ↔ y.Sound := by
  have receiver : x.receiver = y.receiver := (congrArg Port.receiver h : _)
  have broken : x.broken = y.broken := (congrArg Port.broken h : _)
  have abandoned : x.abandoned = y.abandoned := (congrArg Port.abandoned h : _)
  have queue : x.queue = y.queue := (congrArg Port.queue h : _)
  have sending : x.sending = y.sending := (congrArg Port.sending h : _)
  simp only [Port.Sound, receiver, broken, abandoned, queue, sending]

theorem State.PortsSame.sound {s t : State} (same : s.PortsSame t) (sound : s.PortsSound) :
    t.PortsSound := by
  obtain ⟨own, two⟩ := s.portsSound_iff.1 sound
  have supervisor : ∀ q, (t.port q).supervisor = (s.port q).supervisor :=
    fun q => (congrArg Port.supervisor (same q) : _)
  refine t.portsSound_iff.2 ⟨fun p => (Port.bare_sound_iff (same p)).2 (own p), fun p q h => ?_⟩
  rw [supervisor, supervisor]
  exact two p q h

/-- A change of one port that leaves the supervisor flag keeps the condition when the port keeps its own. -/
theorem modPort_portsSound {s : State} (sound : s.PortsSound) (p : PortId) {f : Port → Port}
    (supervisor : ∀ x, (f x).supervisor = x.supervisor) (own : (f (s.port p)).Sound) :
    (s.modPort p f).PortsSound := by
  obtain ⟨each, two⟩ := s.portsSound_iff.1 sound
  have flag : ∀ q, ((s.modPort p f).port q).supervisor = (s.port q).supervisor := by
    intro q
    rw [State.modPort_port]
    split
    · rename_i same; subst same; exact supervisor _
    · rfl
  refine (State.portsSound_iff _).2 ⟨fun q => ?_, fun q r h => ?_⟩
  · rw [State.modPort_port]
    split
    · exact own
    · exact each q
  · rw [flag, flag]
    exact two q r h

/-! ### The ports' own acts -/

theorem partialFrameSound_single {frame : List Byte} (h : frame.length = 1) : PartialFrameSound frame := by
  constructor <;> omega

/-- A character that joins an unfinished frame and does not complete it leaves one again (R180, R181). -/
theorem partialFrameSound_join {frame : List Byte} {v : Byte} (sound : PartialFrameSound frame)
    (short : ¬ ((frame ++ [v]).length = 3 ∧ 48 < v.toNat))
    (incomplete : ¬ (4 ≤ (frame ++ [v]).length
      ∧ (frame ++ [v]).length = (byteAt (frame ++ [v]) 2).toNat + 4)) :
    PartialFrameSound (frame ++ [v]) := by
  obtain ⟨some, counted⟩ := sound
  have length : (frame ++ [v]).length = frame.length + 1 := by simp
  refine ⟨by omega, fun three => ?_⟩
  by_cases third : frame.length = 2
  · have this : byteAt (frame ++ [v]) 2 = v := by simp [byteAt, List.getD, third]
    rw [this] at incomplete ⊢
    omega
  · have this : byteAt (frame ++ [v]) 2 = byteAt frame 2 := by
      simp [byteAt, List.getD, List.getElem?_append_left (show 2 < frame.length by omega)]
    rw [this] at incomplete ⊢
    have := counted (by omega)
    omega

theorem State.PortAct.portsSound {s t : State} (act : s.PortAct t) (sound : s.PortsSound) :
    t.PortsSound := by
  obtain ⟨each, -⟩ := s.portsSound_iff.1 sound
  cases act
  case reply p r =>
    obtain ⟨room, sending, partial_, broken, abandoned⟩ := each p
    unfold State.queueReply
    split
    · exact sound
    · split
      · exact State.PortsSame.sound (.of_unlatched fun q => by simp) sound
      · exact modPort_portsSound sound p (fun x => rfl)
          ⟨by simpa using by omega, by simp, partial_, broken, abandoned⟩
  case post p l => exact State.PortsSame.sound (.of_unlatched fun q => by simp) sound
  case receive p r line start =>
    obtain ⟨room, sending, -, -, abandoned⟩ := each p
    exact modPort_portsSound sound p (fun x => rfl)
      ⟨room, sending, fun f hf => partialFrameSound_single (start f hf), by simp [line], abandoned⟩
  case join p frame v line held short incomplete =>
    obtain ⟨room, sending, frames, -, abandoned⟩ := each p
    have frameSound : PartialFrameSound frame := frames frame (by simp [held, Receiver.held])
    refine modPort_portsSound sound p (fun x => rfl) ⟨room, sending, ?_, by simp [line], abandoned⟩
    simpa [Receiver.held] using partialFrameSound_join frameSound short incomplete
  case abandon p r frame held start =>
    obtain ⟨room, sending, -, broken, abandoned⟩ := each p
    refine modPort_portsSound sound p (fun x => rfl)
      ⟨room, sending, fun f hf => partialFrameSound_single (start f hf), fun line => ?_, saturate_le _ _⟩
    have := broken line
    rw [held] at this
    cases this
  case lineBreak p =>
    obtain ⟨-, -, -, -, abandoned⟩ := each p
    exact modPort_portsSound sound p (fun x => rfl)
      ⟨by simp, by simp, by simp [Receiver.held], by simp, abandoned⟩
  case mark p =>
    obtain ⟨room, sending, partial_, -, abandoned⟩ := each p
    exact modPort_portsSound sound p (fun x => rfl) ⟨room, sending, partial_, by simp, abandoned⟩
  case sent p _ =>
    obtain ⟨room, -, partial_, broken, abandoned⟩ := each p
    refine modPort_portsSound sound p (fun x => rfl) ⟨?_, ?_, partial_, broken, abandoned⟩
    · simp only [List.length_drop]; omega
    · dsimp only
      rw [decide_eq_true_iff, Ne, List.drop_eq_nil_iff]
      omega

/-! ### The events -/

theorem State.deviceReset_port (s : State) (q : PortId) :
    (s.resetDevice.port q).bare = (s.port q).deviceReset.bare := by
  unfold State.resetDevice
  rw [State.PortsSame.resumeSignals _ _ q]
  cases q <;> rfl

theorem Port.Sound.deviceReset {x : Port} (sound : x.Sound) : x.deviceReset.Sound := by
  obtain ⟨-, -, -, broken, -⟩ := sound
  refine ⟨by simp [Port.deviceReset], by simp [Port.deviceReset], ?_, fun line => ?_,
    by simp [Port.deviceReset]⟩
  · cases h : x.receiver <;> simp [Port.deviceReset, h, Receiver.held]
  · simp [Port.deviceReset, broken line]

theorem resetDevice_portsSound {s : State} (sound : s.PortsSound) : s.resetDevice.PortsSound := by
  obtain ⟨each, two⟩ := s.portsSound_iff.1 sound
  have flag : ∀ q, (s.resetDevice.port q).supervisor = (s.port q).supervisor :=
    fun q => (congrArg Port.supervisor (s.deviceReset_port q) : _)
  refine (State.portsSound_iff _).2 ⟨fun q => ?_, fun q r h => ?_⟩
  · exact (Port.bare_sound_iff (s.deviceReset_port q)).2 (each q).deviceReset
  · rw [flag, flag]
    exact two q r h

theorem powerOn_portsSound (straps : Straps) : (State.powerOn straps).PortsSound := by
  have own : ∀ b, (resetPort b).Sound := fun b => by simp [Port.Sound, resetPort, Receiver.held]
  refine ⟨own _, own _, own _, ?_⟩
  simp only [State.powerOn, resetPorts, resetPort, Bool.and_eq_false_iff, beq_eq_false_iff_ne]
  generalize straps.supv = v
  revert v
  decide

theorem State.Event.portsSound {s t : State} (event : s.Event t) (sound : s.PortsSound) :
    t.PortsSound := by
  cases event
  case powerOn straps =>
    refine State.PortsSame.sound (.resumeSignals _ _) ?_
    exact powerOn_portsSound straps
  case resetDevice => exact resetDevice_portsSound sound
  case judge now => exact State.PortsSame.sound (.setReference s _) sound
  case timeout locked => exact State.PortsSame.sound (.setReference s _) sound
  case frame now inputs order =>
    have done : s.PortsSame ((frameOrder order).foldl (State.frameTask inputs) s.relock) :=
      (State.PortsSame.relock s).trans (.foldl (fun t k => .of_unlatched fun q => by simp) _ _)
    exact done.sound sound
  case relockEnd => exact State.PortsSame.sound (.relock s) sound
  case blank => exact sound
  case period contacts order =>
    exact State.PortsSame.sound (.foldl (fun t k => .of_unlatched fun q => by simp) _ _)
      (show (s.setTiming s.timing.nextPeriod).PortsSound from sound)
  case request p r => exact State.PortsSame.sound (.requestOwner s p r) sound
  case pictureStart c now fresh =>
    refine State.PortsSame.sound (.of_unlatched fun q => ?_) sound
    cases fresh <;> simp
  all_goals exact State.PortsSame.sound (s := s) (.of_unlatched fun q => by simp) sound

/-! ## All the blocks -/

/-- Settles O59: each of the four conditions is kept by the ports' own acts and by every event. -/
theorem blocksKept : Obligations.BlocksKept := by
  intro s t h
  have aside : ∀ {P : State → Prop}, (∀ s q, P s → P (s.setPending q)) →
      (∀ (s : State) (ports : Trio Port), P s → P { s with ports := ports }) →
      (∀ s t : State, s.Event t → P s → P t) → P s → P t := by
    intro P queue ports event
    refine step_keeps queue (fun a b act ha => ?_) event h
    rw [act.same]
    exact ports a b.ports ha
  exact ⟨step_keeps (fun _ _ h => h) (fun _ _ act => act.portsSound) (fun _ _ event => event.portsSound) h,
    aside (fun _ _ h => h) (fun _ _ h => h) fun _ _ event => event.syncSound,
    aside (fun _ _ h => h) (fun _ _ h => h) fun _ _ event => event.contactsSound,
    aside (fun _ _ h => h) (fun _ _ h => h) fun _ _ event => event.timingSound⟩

end Sys2Proof.Machine
end

section
/-! PROOFS. The cue pool and its lists: what each operation on them does, and that it keeps them in step (R20 to
R23, R29, R34). -/

namespace Sys2Proof.Machine

open Sys2Proof

/-! ## Ordered lists of slots -/

theorem insertBy_perm (key : SlotIx → Nat) (i : SlotIx) (l : List SlotIx) :
    (insertBy key i l).Perm (i :: l) := by
  unfold insertBy
  refine List.perm_middle.trans (.cons i ?_)
  rw [List.takeWhile_append_dropWhile]

theorem insertBy_pairwise (key : SlotIx → Nat) (i : SlotIx) {l : List SlotIx}
    (h : l.Pairwise fun a b => key a ≤ key b) : (insertBy key i l).Pairwise fun a b => key a ≤ key b := by
  induction l with
  | nil => simp [insertBy]
  | cons a l ih =>
    obtain ⟨least, rest⟩ := List.pairwise_cons.1 h
    by_cases le : key a ≤ key i
    · have next : insertBy key i (a :: l) = a :: insertBy key i l := by simp [insertBy, le]
      rw [next, List.pairwise_cons]
      refine ⟨fun b hb => ?_, ih rest⟩
      obtain rfl | mem := List.mem_cons.1 ((insertBy_perm key i l).mem_iff.1 hb)
      · exact le
      · exact least b mem
    · have first : insertBy key i (a :: l) = i :: a :: l := by simp [insertBy, le]
      rw [first, List.pairwise_cons]
      refine ⟨fun b hb => ?_, h⟩
      obtain rfl | mem := List.mem_cons.1 hb
      · omega
      · have := least b mem
        omega

/-- Inserting one entry after another gives what there was and the entries, in ascending order. -/
theorem foldl_insertBy (key : SlotIx → Nat) (l : List SlotIx) {done : List SlotIx}
    (h : done.Pairwise fun a b => key a ≤ key b) :
    (l.foldl (fun done i => insertBy key i done) done).Perm (l ++ done)
      ∧ (l.foldl (fun done i => insertBy key i done) done).Pairwise fun a b => key a ≤ key b := by
  induction l generalizing done with
  | nil => exact ⟨.refl _, h⟩
  | cons i l ih =>
    obtain ⟨perm, order⟩ := ih (insertBy_pairwise key i h)
    refine ⟨perm.trans ?_, order⟩
    exact ((insertBy_perm key i done).append_left l).trans List.perm_middle

theorem sortBy_perm (key : SlotIx → Nat) (l : List SlotIx) : (sortBy key l).Perm l := by
  simpa [sortBy] using (foldl_insertBy key l (done := []) .nil).1

theorem sortBy_pairwise (key : SlotIx → Nat) (l : List SlotIx) :
    (sortBy key l).Pairwise fun a b => key a ≤ key b :=
  (foldl_insertBy key l .nil).2

theorem insertTimed_eq (key : SlotIx → Nat) (i : SlotIx) (l : List SlotIx) :
    insertTimed key i l = insertBy key i l := rfl

/-! ## The pool and the lists, apart from the rest of the state -/

/-- The condition of `State.CuesSound` on the lists of one channel: `slots` gives the live cue of each slot. -/
def Listed (slots : SlotIx → Option Cue) (c : Channel) (timed contact : List SlotIx) : Prop :=
  timed.Nodup ∧ contact.Nodup
    ∧ timed.Pairwise (fun i j =>
      ((slots i).map Cue.fireTime).getD 0 ≤ ((slots j).map Cue.fireTime).getD 0)
    ∧ (∀ i : SlotIx, i ∈ timed ↔ ∃ k ∈ slots i, k.channel = c ∧ k.isTime = true)
    ∧ ∀ i : SlotIx, i ∈ contact ↔ ∃ k ∈ slots i, k.channel = c ∧ k.isTime = false

theorem State.cuesSound_iff (s : State) : s.CuesSound
    ↔ (∀ c, Listed s.cue c (s.chan c).scheduler.timed (s.chan c).scheduler.contact)
      ∧ ∀ i : SlotIx, (s.slot i).generation ≤ 255 ∧ ((s.cue i).isSome → 1 ≤ (s.slot i).generation) :=
  Iff.rfl

/-- Slots whose cues agree in channel, kind and fire time are listed alike. -/
theorem Listed.congr {slots slots' : SlotIx → Option Cue} {c : Channel} {timed contact : List SlotIx}
    (h : Listed slots c timed contact) (same : ∀ i, (slots' i).map (fun k => (k.channel, k.isTime, k.fireTime))
      = (slots i).map fun k => (k.channel, k.isTime, k.fireTime)) : Listed slots' c timed contact := by
  obtain ⟨nodup, nodup', order, mem, mem'⟩ := h
  have time : ∀ i, (slots' i).map Cue.fireTime = (slots i).map Cue.fireTime := fun i => by
    simpa [Function.comp_def] using congrArg (Option.map fun x : Channel × Bool × Nat => x.2.2) (same i)
  have live : ∀ i b, (∃ k ∈ slots' i, k.channel = c ∧ k.isTime = b)
      ↔ ∃ k ∈ slots i, k.channel = c ∧ k.isTime = b := by
    intro i b
    have this := same i
    cases h : slots i <;> cases h' : slots' i <;> simp_all
  refine ⟨nodup, nodup', ?_, fun i => (mem i).trans (live i true).symm,
    fun i => (mem' i).trans (live i false).symm⟩
  simpa only [time] using order

/-- A slot whose cue belongs to another channel, before and after, has no part in a channel's lists. -/
theorem Listed.other {slots slots' : SlotIx → Option Cue} {c : Channel} {timed contact : List SlotIx}
    (h : Listed slots c timed contact) (i : SlotIx) (same : ∀ j, j ≠ i → slots' j = slots j)
    (before : ∀ k ∈ slots i, k.channel ≠ c) (after : ∀ k ∈ slots' i, k.channel ≠ c) :
    Listed slots' c timed contact := by
  obtain ⟨nodup, nodup', order, mem, mem'⟩ := h
  have absent : i ∉ timed := fun hi => by
    obtain ⟨k, hk, channel, -⟩ := (mem i).1 hi
    exact before k hk channel
  have live : ∀ j b, (∃ k ∈ slots' j, k.channel = c ∧ k.isTime = b)
      ↔ ∃ k ∈ slots j, k.channel = c ∧ k.isTime = b := by
    intro j b
    by_cases hj : j = i
    · subst hj
      constructor
      · rintro ⟨k, hk, channel, -⟩; exact absurd channel (after k hk)
      · rintro ⟨k, hk, channel, -⟩; exact absurd channel (before k hk)
    · rw [same j hj]
  refine ⟨nodup, nodup', ?_, fun j => (mem j).trans (live j true).symm,
    fun j => (mem' j).trans (live j false).symm⟩
  refine order.imp_of_mem fun {a b} ha hb le => ?_
  rwa [same a (fun e => absent (e ▸ ha)), same b (fun e => absent (e ▸ hb))]

/-- A cue taken off the lists of its channel. -/
theorem Listed.remove {slots slots' : SlotIx → Option Cue} {c : Channel} {timed contact : List SlotIx}
    (h : Listed slots c timed contact) (i : SlotIx) (same : ∀ j, j ≠ i → slots' j = slots j)
    (gone : slots' i = none) :
    Listed slots' c (timed.filter (· ≠ i)) (contact.filter (· ≠ i)) := by
  obtain ⟨nodup, nodup', order, mem, mem'⟩ := h
  have kept : ∀ {l : List SlotIx} {b : Bool},
      (∀ j, j ∈ l ↔ ∃ k ∈ slots j, k.channel = c ∧ k.isTime = b) →
      ∀ j, j ∈ l.filter (· ≠ i) ↔ ∃ k ∈ slots' j, k.channel = c ∧ k.isTime = b := by
    intro l b hl j
    rw [List.mem_filter, hl]
    by_cases hj : j = i
    · subst hj; simp [gone]
    · simp [same j hj, hj]
  refine ⟨nodup.filter _, nodup'.filter _, ?_, kept mem, kept mem'⟩
  refine (order.sublist List.filter_sublist).imp_of_mem fun {a b} ha hb le => ?_
  rwa [same a (by simpa using (List.mem_filter.1 ha).2), same b (by simpa using (List.mem_filter.1 hb).2)]

/-- A TIME cue put on the timed list of its channel (R22). -/
theorem Listed.insert {slots slots' : SlotIx → Option Cue} {c : Channel} {timed contact : List SlotIx}
    (h : Listed slots c timed contact) {i : SlotIx} {k : Cue} (same : ∀ j, j ≠ i → slots' j = slots j)
    (new : slots' i = some k) (channel : k.channel = c) (time : k.isTime = true) (free : slots i = none) :
    Listed slots' c (insertTimed (fun j => ((slots' j).map Cue.fireTime).getD 0) i timed) contact := by
  obtain ⟨nodup, nodup', order, mem, mem'⟩ := h
  have absent : i ∉ timed := fun hi => by
    obtain ⟨k, hk, -⟩ := (mem i).1 hi
    simp [free] at hk
  have perm := insertBy_perm (fun j => ((slots' j).map Cue.fireTime).getD 0) i timed
  rw [insertTimed_eq]
  refine ⟨perm.nodup_iff.2 (List.nodup_cons.2 ⟨absent, nodup⟩), nodup', insertBy_pairwise _ i ?_,
    fun j => ?_, fun j => ?_⟩
  · refine order.imp_of_mem fun {a b} ha hb le => ?_
    rwa [same a (fun e => absent (e ▸ ha)), same b (fun e => absent (e ▸ hb))]
  · rw [perm.mem_iff, List.mem_cons]
    by_cases hj : j = i
    · subst hj; simp [new, channel, time]
    · rw [mem, same j hj]; simp [hj]
  · by_cases hj : j = i
    · subst hj; rw [mem']; simp [new, free, time]
    · rw [mem', same j hj]

/-- A CONTACT cue put at the tail of the contact list of its channel (R23). -/
theorem Listed.append {slots slots' : SlotIx → Option Cue} {c : Channel} {timed contact : List SlotIx}
    (h : Listed slots c timed contact) {i : SlotIx} {k : Cue} (same : ∀ j, j ≠ i → slots' j = slots j)
    (new : slots' i = some k) (channel : k.channel = c) (kind : k.isTime = false) (free : slots i = none) :
    Listed slots' c timed (contact ++ [i]) := by
  obtain ⟨nodup, nodup', order, mem, mem'⟩ := h
  have absent : ∀ {l : List SlotIx} {b : Bool},
      (∀ j, j ∈ l ↔ ∃ k ∈ slots j, k.channel = c ∧ k.isTime = b) → i ∉ l := by
    intro l b hl hi
    obtain ⟨k, hk, -⟩ := (hl i).1 hi
    simp [free] at hk
  refine ⟨nodup, ?_, ?_, fun j => ?_, fun j => ?_⟩
  · refine List.nodup_append.2 ⟨nodup', by simp, ?_⟩
    intro a ha b hb e
    obtain rfl := List.mem_singleton.1 hb
    exact absent mem' (e ▸ ha)
  · refine order.imp_of_mem fun {a b} ha hb le => ?_
    rwa [same a (fun e => absent mem (e ▸ ha)), same b (fun e => absent mem (e ▸ hb))]
  · by_cases hj : j = i
    · subst hj; rw [mem]; simp [new, free, kind]
    · rw [mem, same j hj]
  · rw [List.mem_append, List.mem_singleton, mem']
    by_cases hj : j = i
    · subst hj; simp [new, channel, kind]
    · rw [same j hj]; simp [hj]

/-- A timed list put in the order of new fire times (R34). -/
theorem Listed.sort {slots slots' : SlotIx → Option Cue} {c : Channel} {timed contact : List SlotIx}
    (h : Listed slots c timed contact) (same : ∀ i, (slots' i).map (fun k => (k.channel, k.isTime))
      = (slots i).map fun k => (k.channel, k.isTime)) :
    Listed slots' c (sortBy (fun j => ((slots' j).map Cue.fireTime).getD 0) timed) contact := by
  obtain ⟨nodup, nodup', -, mem, mem'⟩ := h
  have live : ∀ i b, (∃ k ∈ slots' i, k.channel = c ∧ k.isTime = b)
      ↔ ∃ k ∈ slots i, k.channel = c ∧ k.isTime = b := by
    intro i b
    have this := same i
    cases h : slots i <;> cases h' : slots' i <;> simp_all
  have perm := sortBy_perm (fun j => ((slots' j).map Cue.fireTime).getD 0) timed
  exact ⟨perm.nodup_iff.2 nodup, nodup', sortBy_pairwise _ _,
    fun i => perm.mem_iff.trans ((mem i).trans (live i true).symm),
    fun i => (mem' i).trans (live i false).symm⟩

theorem Listed.empty {slots : SlotIx → Option Cue} {c : Channel}
    (none : ∀ i, ∀ k ∈ slots i, k.channel ≠ c) : Listed slots c [] [] := by
  refine ⟨.nil, .nil, .nil, fun i => ?_, fun i => ?_⟩
  · simp only [List.not_mem_nil, false_iff]
    rintro ⟨k, hk, channel, -⟩
    exact none i k hk channel
  · simp only [List.not_mem_nil, false_iff]
    rintro ⟨k, hk, channel, -⟩
    exact none i k hk channel

end Sys2Proof.Machine
end

section
/-! PROOFS. The plan and the clocks under the scheduler's operations: cues placed, replaced, retired and fired. -/

namespace Sys2Proof.Machine

open Sys2Proof

/-- What `Obligations.PlanKept` says every step keeps (2.1, R9, R10, R15, R20, R22, R23, R47). -/
structure State.PlanSound (s : State) : Prop where
  cues : s.CuesSound
  records : s.RecordsSound
  clocks : s.ClocksSound
  rings : s.RingsSound

/-! ## What leaves the plan alone -/

/-- Between two states the pool, the format, the clocks, and of every scheduler the lists, ring and total are as
they were. -/
structure State.PlanSame (s t : State) : Prop where
  cues : t.cues = s.cues
  format : t.timing.format = s.timing.format
  clock : ∀ c, (t.chan c).clock = (s.chan c).clock
  timed : ∀ c, (t.chan c).scheduler.timed = (s.chan c).scheduler.timed
  contact : ∀ c, (t.chan c).scheduler.contact = (s.chan c).scheduler.contact
  ring : ∀ c, (t.chan c).scheduler.ring = (s.chan c).scheduler.ring
  total : ∀ c, (t.chan c).scheduler.total = (s.chan c).scheduler.total

theorem State.PlanSame.refl (s : State) : s.PlanSame s :=
  ⟨rfl, rfl, fun _ => rfl, fun _ => rfl, fun _ => rfl, fun _ => rfl, fun _ => rfl⟩

theorem State.PlanSame.trans {s t u : State} (h : s.PlanSame t) (g : t.PlanSame u) : s.PlanSame u :=
  ⟨g.cues.trans h.cues, g.format.trans h.format, fun c => (g.clock c).trans (h.clock c),
    fun c => (g.timed c).trans (h.timed c), fun c => (g.contact c).trans (h.contact c),
    fun c => (g.ring c).trans (h.ring c), fun c => (g.total c).trans (h.total c)⟩

theorem State.cue_of_cues {s t : State} (h : t.cues = s.cues) (i : SlotIx) : t.cue i = s.cue i := by
  simp only [State.cue, State.slot, h]

theorem State.cue_fun_of_cues {s t : State} (h : t.cues = s.cues) : t.cue = s.cue :=
  funext (State.cue_of_cues h)

theorem State.slot_of_cues {s t : State} (h : t.cues = s.cues) (i : SlotIx) : t.slot i = s.slot i := by
  simp only [State.slot, h]

theorem State.day_of {s t : State} {c : Channel} (format : t.timing.format = s.timing.format)
    (mode : (t.chan c).clock.dropMode = (s.chan c).clock.dropMode) : t.day c = s.day c := by
  simp only [State.day, State.format, State.dropMode, format, mode]

/-- The pool and the lists untouched, the cues stay in step. -/
theorem cuesSound_of_same {s t : State} (sound : s.CuesSound) (cues : t.cues = s.cues)
    (timed : ∀ c, (t.chan c).scheduler.timed = (s.chan c).scheduler.timed)
    (contact : ∀ c, (t.chan c).scheduler.contact = (s.chan c).scheduler.contact) : t.CuesSound := by
  obtain ⟨lists, generations⟩ := s.cuesSound_iff.1 sound
  refine t.cuesSound_iff.2 ⟨fun c => ?_, fun i => ?_⟩
  · rw [timed, contact, State.cue_fun_of_cues cues]
    exact lists c
  · rw [State.slot_of_cues cues, State.cue_of_cues cues]
    exact generations i

theorem recordsSound_of_same {s t : State} (sound : s.RecordsSound) (cues : t.cues = s.cues)
    (day : ∀ c, t.day c = s.day c) : t.RecordsSound := by
  intro i k hk
  rw [State.cue_of_cues cues] at hk
  rw [day]
  exact sound i k hk

theorem clocksSound_of_same {s t : State} (sound : s.ClocksSound) (day : ∀ c, t.day c = s.day c)
    (clock : ∀ c, (t.chan c).clock = (s.chan c).clock) : t.ClocksSound := by
  intro c
  rw [clock, day]
  exact sound c

theorem State.PlanSame.day {s t : State} (same : s.PlanSame t) (c : Channel) : t.day c = s.day c :=
  State.day_of same.format (congrArg CueClock.dropMode (same.clock c))

theorem State.PlanSame.sound {s t : State} (same : s.PlanSame t) (sound : s.PlanSound) : t.PlanSound where
  cues := cuesSound_of_same sound.cues same.cues same.timed same.contact
  records := recordsSound_of_same sound.records same.cues same.day
  clocks := clocksSound_of_same sound.clocks same.day same.clock
  rings := fun c => by rw [same.ring, same.total]; exact sound.rings c

theorem State.PlanSame.foldl {α : Type} {f : State → α → State}
    (h : ∀ (s : State) a, s.PlanSame (f s a)) (l : List α) (s : State) : s.PlanSame (l.foldl f s) := by
  induction l generalizing s with
  | nil => exact .refl s
  | cons a l ih => exact (h s a).trans (ih _)

theorem State.PlanSame.eachChannel {f : Channel → State → State}
    (h : ∀ c (s : State), s.PlanSame (f c s)) (s : State) : s.PlanSame (s.eachChannel f) :=
  State.PlanSame.foldl (fun s c => h c s) _ s

/-- A change of one channel leaves the plan alone when it leaves the channel's part of it. -/
theorem State.PlanSame.modChan (s : State) (c : Channel) {f : ChannelState → ChannelState}
    (clock : ∀ x, (f x).clock = x.clock) (timed : ∀ x, (f x).scheduler.timed = x.scheduler.timed)
    (contact : ∀ x, (f x).scheduler.contact = x.scheduler.contact)
    (ring : ∀ x, (f x).scheduler.ring = x.scheduler.ring)
    (total : ∀ x, (f x).scheduler.total = x.scheduler.total) : s.PlanSame (s.modChan c f) := by
  have at_ : ∀ {γ : Type} (g : ChannelState → γ), (∀ x, g (f x) = g x) →
      ∀ d, g ((s.modChan c f).chan d) = g (s.chan d) := by
    intro γ g h d
    rw [State.modChan_chan]
    split
    · rename_i same; subst same; exact h _
    · rfl
  exact ⟨rfl, rfl, at_ (·.clock) clock, at_ (·.scheduler.timed) timed, at_ (·.scheduler.contact) contact,
    at_ (·.scheduler.ring) ring, at_ (·.scheduler.total) total⟩

theorem State.PlanSame.setWindow (s : State) (c : Channel) (f : ChannelState → Window) :
    s.PlanSame (s.modChan c fun x => x.setWindow (f x)) :=
  .modChan s c (fun _ => rfl) (fun _ => rfl) (fun _ => rfl) (fun _ => rfl) (fun _ => rfl)

/-- What leaves the pool, the timing unit, the clocks and the schedulers alone leaves the plan alone. -/
theorem State.PlanSame.of_frames {s t : State} (cues : t.cues = s.cues) (timing : t.timing = s.timing)
    (clock : ∀ c, (t.chan c).clock = (s.chan c).clock)
    (scheduler : ∀ c, (t.chan c).scheduler = (s.chan c).scheduler) : s.PlanSame t :=
  ⟨cues, by rw [timing], clock, fun c => by rw [scheduler], fun c => by rw [scheduler],
    fun c => by rw [scheduler], fun c => by rw [scheduler]⟩

theorem State.PlanSame.postAll (s : State) (l : Latch) : s.PlanSame (s.postAll l) :=
  .of_frames rfl rfl (fun c => by simp) fun c => by simp

/-! ## Outcomes (R47) -/

theorem ringAdd_length {ring : List OutcomeRecord} (h : ring.length ≤ 8) (r : OutcomeRecord) :
    (ringAdd ring r).length ≤ 8 := by
  simp only [ringAdd, List.length_drop, List.length_append, List.length_singleton]
  omega

theorem State.addOutcome_timed (s : State) (c : Channel) (h : Handle) (a : Action) (o : PortId) (r : Result)
    (d : Channel) : ((s.addOutcome c h a o r).chan d).scheduler.timed = (s.chan d).scheduler.timed := by
  simp only [State.addOutcome, State.post_chan, State.modChan_chan]
  split
  · rename_i same; subst same; rfl
  · rfl

theorem State.addOutcome_contact (s : State) (c : Channel) (h : Handle) (a : Action) (o : PortId)
    (r : Result) (d : Channel) :
    ((s.addOutcome c h a o r).chan d).scheduler.contact = (s.chan d).scheduler.contact := by
  simp only [State.addOutcome, State.post_chan, State.modChan_chan]
  split
  · rename_i same; subst same; rfl
  · rfl

theorem addOutcome_plan {s : State} (sound : s.PlanSound) (c : Channel) (h : Handle) (a : Action)
    (o : PortId) (r : Result) : (s.addOutcome c h a o r).PlanSound where
  cues := cuesSound_of_same sound.cues (by simp) (s.addOutcome_timed c h a o r)
    (s.addOutcome_contact c h a o r)
  records := recordsSound_of_same sound.records (by simp) fun d => State.day_of (by simp) (by simp)
  clocks := clocksSound_of_same sound.clocks (fun d => State.day_of (by simp) (by simp)) (by simp)
  rings := by
    intro d
    by_cases hd : d = c
    · subst hd
      obtain ⟨length, -⟩ := sound.rings d
      simp only [State.addOutcome, State.post_chan, State.modChan_chan_same,
        ChannelState.setScheduler_scheduler]
      exact ⟨ringAdd_length length _, Nat.mod_lt _ (by decide)⟩
    · rw [State.addOutcome_chan_ne _ _ _ _ _ _ hd]
      exact sound.rings d

/-! ## Cues retired (R20, R30 to R32, R40) -/

/-- The cue of a slot, if it has one, is a cue of the channel. -/
def State.OfChannel (s : State) (c : Channel) (i : SlotIx) : Prop := ∀ k ∈ s.cue i, k.channel = c

theorem State.CuesSound.ofChannel_timed {s : State} (sound : s.CuesSound) {c : Channel} {i : SlotIx}
    (h : i ∈ (s.chan c).scheduler.timed) : s.OfChannel c i := by
  obtain ⟨lists, -⟩ := s.cuesSound_iff.1 sound
  obtain ⟨-, -, -, mem, -⟩ := lists c
  obtain ⟨k, hk, channel, -⟩ := (mem i).1 h
  intro k' hk'
  rw [Option.mem_def] at hk hk'
  rw [hk] at hk'
  cases hk'
  exact channel

theorem State.CuesSound.ofChannel_contact {s : State} (sound : s.CuesSound) {c : Channel} {i : SlotIx}
    (h : i ∈ (s.chan c).scheduler.contact) : s.OfChannel c i := by
  obtain ⟨lists, -⟩ := s.cuesSound_iff.1 sound
  obtain ⟨-, -, -, -, mem⟩ := lists c
  obtain ⟨k, hk, channel, -⟩ := (mem i).1 h
  intro k' hk'
  rw [Option.mem_def] at hk hk'
  rw [hk] at hk'
  cases hk'
  exact channel

theorem State.setSlot_cue (s : State) (i j : SlotIx) (x : CueSlot) :
    (s.setSlot i x).cue j = if j = i then x.cue else s.cue j := by
  rw [State.cue, State.setSlot_slot]
  split <;> rfl

theorem State.removeCue_cue (s : State) (c : Channel) (i j : SlotIx) :
    (s.removeCue c i).cue j = if j = i then none else s.cue j := by
  rw [State.removeCue, State.setSlot_cue]
  rfl

theorem State.removeCue_slot (s : State) (c : Channel) (i j : SlotIx) :
    (s.removeCue c i).slot j = if j = i then { s.slot i with cue := none } else s.slot j := by
  rw [State.removeCue, State.setSlot_slot]
  rfl

theorem State.removeCue_scheduler (s : State) (c : Channel) (i : SlotIx) :
    ((s.removeCue c i).chan c).scheduler = { (s.chan c).scheduler with
      timed := (s.chan c).scheduler.timed.filter (· ≠ i)
      contact := (s.chan c).scheduler.contact.filter (· ≠ i) } := by
  simp [State.removeCue, State.modScheduler]

theorem removeCue_plan {s : State} (sound : s.PlanSound) {c : Channel} {i : SlotIx}
    (h : s.OfChannel c i) : (s.removeCue c i).PlanSound where
  cues := by
    obtain ⟨lists, generations⟩ := s.cuesSound_iff.1 sound.cues
    have same : ∀ j, j ≠ i → (s.removeCue c i).cue j = s.cue j := fun j hj => by
      rw [State.removeCue_cue, if_neg hj]
    have gone : (s.removeCue c i).cue i = none := by rw [State.removeCue_cue, if_pos rfl]
    refine (State.cuesSound_iff _).2 ⟨fun d => ?_, fun j => ?_⟩
    · by_cases hd : d = c
      · subst hd
        rw [State.removeCue_scheduler]
        exact (lists d).remove i same gone
      · rw [State.removeCue_chan_ne _ _ _ hd]
        exact (lists d).other i same (fun k hk e => hd (e.symm.trans (h k hk))) (by simp [gone])
    · rw [State.removeCue_slot, State.removeCue_cue]
      split
      · exact ⟨(generations i).1, by simp⟩
      · exact generations j
  records := by
    intro j k hk
    rw [State.removeCue_cue] at hk
    split at hk
    · cases hk
    · rw [State.day_of (s := s) (by simp) (by simp)]
      exact sound.records j k hk
  clocks := clocksSound_of_same sound.clocks (fun d => State.day_of (by simp) (by simp)) (by simp)
  rings := by
    intro d
    by_cases hd : d = c
    · subst hd; rw [State.removeCue_scheduler]; exact sound.rings d
    · rw [State.removeCue_chan_ne _ _ _ hd]; exact sound.rings d

theorem State.retire_cue (s : State) (c : Channel) (i j : SlotIx) (k : Cue) (r : Result) :
    (s.retire c i k r).cue j = if j = i then none else s.cue j := by
  rw [State.retire, State.cue_of_cues (State.addOutcome_cues ..), State.removeCue_cue]

theorem retire_plan {s : State} (sound : s.PlanSound) {c : Channel} {i : SlotIx}
    (h : s.OfChannel c i) (k : Cue) (r : Result) : (s.retire c i k r).PlanSound :=
  addOutcome_plan (removeCue_plan sound h) c _ _ _ r

/-! ## Actions delivered (R41, R72, R73) -/

theorem takeLayout_plan {s : State} (sound : s.PlanSound) (c : Channel) (p : PresetIx) (d : Nat)
    (cue : Option (Handle × PortId)) : (s.takeLayout c p d cue).PlanSound := by
  unfold State.takeLayout
  dsimp only
  split
  · have waiting := (State.PlanSame.setWindow s c fun x =>
      { x.window with pendingLayout := some { preset := p, duration := d, cue := cue } }).sound sound
    split
    · exact waiting
    · exact addOutcome_plan waiting _ _ _ _ _
  · exact (State.PlanSame.setWindow s c _).sound sound

theorem request_plan {s : State} (sound : s.PlanSound) (c : Channel) (on : Bool) (d : Nat) :
    (s.request c on d).PlanSound :=
  (State.PlanSame.setWindow s c _).sound sound

theorem windowIn_plan {s : State} (sound : s.PlanSound) (c : Channel) (d : Nat) (p : Option PresetIx) :
    (s.windowIn c d p).PlanSound := by
  unfold State.windowIn
  split
  · exact request_plan sound c _ _
  · exact request_plan (takeLayout_plan sound c _ _ _) c _ _

theorem setLag_plan {s : State} (sound : s.PlanSound) (c : Channel) (n : Nat) : (s.setLag c n).PlanSound :=
  State.PlanSame.sound (.of_frames (by simp) (by simp) (by simp) (by simp)) sound

theorem deliver_plan {s : State} (sound : s.PlanSound) (c : Channel) (h : Handle) (k : Cue) :
    (s.deliver c h k).PlanSound := by
  unfold State.deliver
  split
  · exact windowIn_plan sound c _ _
  · exact request_plan sound c _ _
  · split
    · exact sound
    · exact takeLayout_plan sound c _ _ _
  · exact setLag_plan sound c _

/-! ## Cues dealt with one after another (R38 to R40, R31) -/

/-- Between two states the pool has lost cues, and gained none. -/
def State.Fewer (s t : State) : Prop := ∀ i, ∀ k ∈ t.cue i, k ∈ s.cue i

theorem State.Fewer.refl (s : State) : s.Fewer s := fun _ _ h => h

theorem State.Fewer.trans {s t u : State} (h : s.Fewer t) (g : t.Fewer u) : s.Fewer u :=
  fun i k hk => h i k (g i k hk)

theorem State.Fewer.ofChannel {s t : State} (h : s.Fewer t) {c : Channel} {i : SlotIx}
    (own : s.OfChannel c i) : t.OfChannel c i := fun k hk => own k (h i k hk)

theorem State.Fewer.retire (s : State) (c : Channel) (i : SlotIx) (k : Cue) (r : Result) :
    s.Fewer (s.retire c i k r) := by
  intro j k' hk
  rw [State.retire_cue] at hk
  split at hk
  · cases hk
  · exact hk

theorem State.deliver_cue (s : State) (c : Channel) (h : Handle) (k : Cue) (i : SlotIx) :
    (s.deliver c h k).cue i = s.cue i := State.cue_of_cues (State.deliver_cues ..) i

theorem fireCue_plan {s : State} (sound : s.PlanSound) {c : Channel} (r : Result) {i : SlotIx}
    (h : s.OfChannel c i) : (s.fireCue c r i).PlanSound := by
  unfold State.fireCue
  split
  · exact sound
  · exact deliver_plan (retire_plan sound h _ r) c _ _

theorem State.Fewer.fireCue (s : State) (c : Channel) (r : Result) (i : SlotIx) :
    s.Fewer (s.fireCue c r i) := by
  unfold State.fireCue
  split
  · exact .refl s
  · intro j k hk
    rw [State.deliver_cue] at hk
    exact State.Fewer.retire s c i _ r j k hk

theorem missCue_plan {s : State} (sound : s.PlanSound) {c : Channel} {i : SlotIx}
    (h : s.OfChannel c i) : (s.missCue c i).PlanSound := by
  unfold State.missCue
  split
  · exact sound
  · exact retire_plan sound h _ _

theorem State.Fewer.missCue (s : State) (c : Channel) (i : SlotIx) : s.Fewer (s.missCue c i) := by
  unfold State.missCue
  split
  · exact .refl s
  · exact .retire s c i _ _

theorem cancelCue_plan {s : State} (sound : s.PlanSound) {c : Channel} {i : SlotIx}
    (h : s.OfChannel c i) : (s.cancelCue c i).PlanSound := by
  unfold State.cancelCue
  split
  · exact sound
  · exact retire_plan sound h _ _

theorem State.Fewer.cancelCue (s : State) (c : Channel) (i : SlotIx) : s.Fewer (s.cancelCue c i) := by
  unfold State.cancelCue
  split
  · exact .refl s
  · exact .retire s c i _ _

/-- Cues of a channel dealt with one after another keep the plan, when dealing with one does. -/
theorem foldl_plan {c : Channel} {f : State → SlotIx → State}
    (keep : ∀ (s : State) i, s.PlanSound → s.OfChannel c i → (f s i).PlanSound)
    (fewer : ∀ (s : State) i, s.Fewer (f s i)) (l : List SlotIx) {s : State} (sound : s.PlanSound)
    (own : ∀ i ∈ l, s.OfChannel c i) : (l.foldl f s).PlanSound ∧ s.Fewer (l.foldl f s) := by
  induction l generalizing s with
  | nil => exact ⟨sound, .refl s⟩
  | cons i l ih =>
    obtain ⟨kept, less⟩ := ih (keep s i sound (own i (by simp)))
      fun j hj => (fewer s i).ofChannel (own j (by simp [hj]))
    exact ⟨kept, (fewer s i).trans less⟩

section
variable {s : State} (sound : s.PlanSound) (c : Channel)
include sound

theorem fireCues_plan (r : Result) {l : List SlotIx} (own : ∀ i ∈ l, s.OfChannel c i) :
    (l.foldl (fun u i => u.fireCue c r i) s).PlanSound
      ∧ s.Fewer (l.foldl (fun u i => u.fireCue c r i) s) :=
  foldl_plan (fun _ _ ht hi => fireCue_plan ht r hi) (fun t i => .fireCue t c r i) l sound own

theorem dealPassed_plan (x : Scan) {l : List SlotIx} (own : ∀ i ∈ l, s.OfChannel c i) :
    (s.dealPassed c x l).PlanSound ∧ s.Fewer (s.dealPassed c x l) := by
  unfold State.dealPassed
  split
  · exact fireCues_plan sound c _ own
  · exact foldl_plan (fun _ _ ht hi => missCue_plan ht hi) (fun t i => .missCue t c i) l sound own

theorem scanCues_plan (r : StepReport) : (s.scanCues c r).PlanSound := by
  have timed : ∀ i ∈ (s.chan c).scheduler.timed, s.OfChannel c i := fun i hi =>
    sound.cues.ofChannel_timed hi
  have late : ∀ i ∈ s.lateCues c, s.OfChannel c i := fun i hi => timed i (List.mem_filter.1 hi).1
  have passed : ∀ x, ∀ i ∈ s.passedCues c x, s.OfChannel c i := by
    intro x i hi
    unfold State.passedCues at hi
    split at hi
    · exact timed i (List.mem_filter.1 ((sortBy_perm _ _).mem_iff.1 hi)).1
    · cases hi
  have due : ∀ x, ∀ i ∈ s.dueCues c x, s.OfChannel c i := by
    intro x i hi
    unfold State.dueCues at hi
    split at hi
    · exact timed i (List.mem_filter.1 hi).1
    · cases hi
  obtain ⟨first, less⟩ := fireCues_plan sound c .firedLate late
  obtain ⟨second, less'⟩ := dealPassed_plan first c (s.scanOf c r)
    fun i hi => less.ofChannel (passed (s.scanOf c r) i hi)
  obtain ⟨third, -⟩ := fireCues_plan second c .fired
    fun i hi => (less.trans less').ofChannel (due (s.scanOf c r) i hi)
  unfold State.scanCues
  refine State.PlanSame.sound ?_ third
  exact .modChan _ c (fun _ => rfl) (fun _ => rfl) (fun _ => rfl) (fun _ => rfl) fun _ => rfl

theorem scheduleCues_plan (r : StepReport) : (s.scheduleCues c r).PlanSound := by
  unfold State.scheduleCues
  split
  · exact sound
  · exact scanCues_plan sound c r

theorem reportCues_plan : (s.reportCues c).PlanSound := by
  unfold State.reportCues
  split
  · exact sound
  · exact scheduleCues_plan sound c _

theorem fireEdge_plan (g : GpiIx) : (s.fireEdge g c).PlanSound := by
  unfold State.fireEdge
  split
  · exact sound
  · split
    · exact sound
    · rename_i i found
      exact fireCue_plan sound _ (sound.cues.ofChannel_contact (List.mem_of_find?_eq_some found))

end

theorem fireEdges_plan {s : State} (sound : s.PlanSound) (g : GpiIx) (edges : List Channel) :
    (s.fireEdges g edges).PlanSound := by
  unfold State.fireEdges
  split
  · exact List.foldlRecOn (motive := State.PlanSound) _ _ sound fun t ht d _ => fireEdge_plan ht d g
  · exact sound

theorem sampleGpi_plan {s : State} (sound : s.PlanSound) (g : GpiIx) (v : Contact)
    (edges : List Channel) : (s.sampleGpi g v edges).PlanSound := by
  have sampled : (s.setGpi g ((s.gpi g).sample v)).PlanSound :=
    State.PlanSame.sound (s := s) (.of_frames rfl rfl (fun _ => rfl) fun _ => rfl) sound
  have fired := fireEdges_plan sampled g edges
  unfold State.sampleGpi
  dsimp only
  split
  · exact sampled
  · exact State.PlanSame.sound (.of_frames (by simp) (by simp) (by simp) (by simp)) fired

/-! ## Cues placed and replaced (R25, R26, R29) -/

theorem nextGeneration_bounds {g : Nat} (h : g ≤ 255) : 1 ≤ nextGeneration g ∧ nextGeneration g ≤ 255 := by
  unfold nextGeneration
  split <;> omega

theorem State.freeSlot_none {s : State} {i : SlotIx} (h : s.freeSlot = some i) : s.cue i = none := by
  simpa using List.find?_some h

theorem Cue.isTime_time {k : Cue} {n : Nat} (h : k.trigger = .time n) : k.isTime = true := by
  simp [Cue.isTime, h]

theorem Cue.isTime_contact {k : Cue} {g : GpiIx} (h : k.trigger = .contact g) : k.isTime = false := by
  simp [Cue.isTime, h]

/-- What enlisting a cue does to the pool, the clocks, the timing and the rings: nothing (R22, R23). -/
theorem State.enlist_frame (s : State) (i : SlotIx) (k : Cue) (d : Channel) :
    ((s.enlist i k).chan d).scheduler.ring = (s.chan d).scheduler.ring
      ∧ ((s.enlist i k).chan d).scheduler.total = (s.chan d).scheduler.total := by
  unfold State.enlist
  split <;>
  · simp only [State.modScheduler, State.modChan_chan]
    split
    · rename_i same; subst same; exact ⟨rfl, rfl⟩
    · exact ⟨rfl, rfl⟩

theorem State.enlist_timed {i : SlotIx} {k : Cue} (s : State) (time : k.isTime = true) (d : Channel) :
    ((s.enlist i k).chan d).scheduler.timed
        = (if d = k.channel then insertTimed s.fireTimeAt i (s.chan d).scheduler.timed
          else (s.chan d).scheduler.timed)
      ∧ ((s.enlist i k).chan d).scheduler.contact = (s.chan d).scheduler.contact := by
  unfold State.enlist
  cases trigger : k.trigger with
  | contact g => simp [Cue.isTime_contact trigger] at time
  | time n =>
    simp only [State.modScheduler, State.modChan_chan]
    split
    · rename_i same; subst same; exact ⟨rfl, rfl⟩
    · exact ⟨rfl, rfl⟩

theorem State.enlist_contact {i : SlotIx} {k : Cue} (s : State) (kind : k.isTime = false) (d : Channel) :
    ((s.enlist i k).chan d).scheduler.timed = (s.chan d).scheduler.timed
      ∧ ((s.enlist i k).chan d).scheduler.contact
        = (if d = k.channel then (s.chan d).scheduler.contact ++ [i]
          else (s.chan d).scheduler.contact) := by
  unfold State.enlist
  cases trigger : k.trigger with
  | time n => simp [Cue.isTime_time trigger] at kind
  | contact g =>
    simp only [State.modScheduler, State.modChan_chan]
    split
    · rename_i same; subst same; exact ⟨rfl, rfl⟩
    · exact ⟨rfl, rfl⟩

/-- A cue that is on no list and whose slot was free is put in the slot and on its list. -/
theorem enlist_cues {slots : SlotIx → Option Cue} {t : State} {i : SlotIx} {k : Cue}
    (lists : ∀ d, Listed slots d (t.chan d).scheduler.timed (t.chan d).scheduler.contact)
    (same : ∀ j, j ≠ i → t.cue j = slots j) (free : slots i = none) (new : t.cue i = some k) (d : Channel) :
    Listed (t.enlist i k).cue d ((t.enlist i k).chan d).scheduler.timed
      ((t.enlist i k).chan d).scheduler.contact := by
  have cue : (t.enlist i k).cue = t.cue := State.cue_fun_of_cues (State.enlist_cues t i k)
  rw [cue]
  have other : d ≠ k.channel → Listed t.cue d (t.chan d).scheduler.timed (t.chan d).scheduler.contact :=
    fun hd => (lists d).other i same (by simp [free]) (by simpa [new] using Ne.symm hd)
  cases kind : k.isTime with
  | true =>
    obtain ⟨timed, contact⟩ := t.enlist_timed kind (i := i) d
    rw [timed, contact]
    split
    · rename_i hd
      exact (lists d).insert same new hd.symm kind free
    · exact other ‹_›
  | false =>
    obtain ⟨timed, contact⟩ := t.enlist_contact kind (i := i) d
    rw [timed, contact]
    split
    · rename_i hd
      exact (lists d).append same new hd.symm kind free
    · exact other ‹_›

theorem placeCue_plan {s : State} (sound : s.PlanSound) {i : SlotIx} {k : Cue} (free : s.cue i = none)
    (record : k.Sound (s.day k.channel)) : (s.placeCue i k).PlanSound := by
  obtain ⟨lists, generations⟩ := s.cuesSound_iff.1 sound.cues
  have slot : ∀ j, (s.placeCue i k).slot j = if j = i
      then { generation := nextGeneration (s.slot i).generation, cue := some k } else s.slot j := by
    intro j
    rw [State.placeCue, State.slot_of_cues (State.enlist_cues ..), State.setSlot_slot]
  have cue : ∀ j, (s.placeCue i k).cue j = if j = i then some k else s.cue j := by
    intro j
    rw [State.cue, slot]
    split <;> rfl
  have day : ∀ d, (s.placeCue i k).day d = s.day d := fun d =>
    State.day_of (by simp [State.placeCue]) (by simp [State.placeCue])
  refine ⟨(State.cuesSound_iff _).2 ⟨?_, fun j => ?_⟩, fun j k' hk => ?_,
    clocksSound_of_same sound.clocks day (by simp [State.placeCue]), fun d => ?_⟩
  · exact enlist_cues (slots := s.cue) lists (fun j hj => by rw [State.setSlot_cue, if_neg hj]) free
      (by rw [State.setSlot_cue, if_pos rfl])
  · rw [slot, cue]
    split
    · obtain ⟨low, high⟩ := nextGeneration_bounds (generations i).1
      exact ⟨high, fun _ => low⟩
    · exact generations j
  · rw [day]
    rw [cue] at hk
    split at hk
    · cases hk; exact record
    · exact sound.records j k' hk
  · obtain ⟨ring, total⟩ := State.enlist_frame
      (s.setSlot i { generation := nextGeneration (s.slot i).generation, cue := some k }) i k d
    unfold State.placeCue
    rw [ring, total]
    exact sound.rings d

end Sys2Proof.Machine
end

section
/-! PROOFS. The plan under the requests of the cue table (R25 to R33, R43). -/

namespace Sys2Proof.Machine

open Sys2Proof

/-! ## Records read and judged (R25 to R27, R29) -/

theorem State.readLabel_lt {s : State} {c : Channel} {l : LabelBytes} {n : Nat}
    (h : s.readLabel c l = some n) : n < s.day c := by
  unfold State.readLabel at h
  split at h
  · rename_i valid
    cases h
    exact frameNumber_lt valid
  · cases h

/-- A record of CUE_ADD or CUE_MODIFY is sound as read, and without a late mark (R25). -/
theorem readCue_sound {s : State} {p : PortId} {f : CueFields} {k : Cue} {clamped : Bool}
    (h : s.readCue p f = some (k, clamped)) : k.Sound (s.day k.channel) ∧ k.late = false := by
  unfold State.readCue at h
  split at h
  case h_2 => cases h
  case h_1 c contact action present _ _ _ _ =>
    dsimp only at h
    split at h
    case h_2 => cases h
    case h_1 trigger preset ht hq =>
      have time : ∀ n, trigger = .time n → n < s.day c := by
        rintro n rfl
        cases contact with
        | true => simp at ht
        | false => exact State.readLabel_lt (by simpa using ht)
      have fires : ∀ k : Cue, k.trigger = trigger → k.isTime = true → k.fireTime < s.day c := by
        intro k hk timed
        cases trigger with
        | time n => simpa [Cue.fireTime, hk] using time n rfl
        | contact g => simp [Cue.isTime_contact hk] at timed
      have needed : action = .layout → preset.isSome = true := by
        rintro rfl
        cases present with
        | false => cases hq
        | true =>
          obtain ⟨q, -, rfl⟩ := Option.map_eq_some_iff.1 hq
          rfl
      have unused : action = .windowOut ∨ action = .lag → preset = none := by
        rintro (rfl | rfl) <;> cases present <;> simp_all
      split at h
      · rename_i lag
        cases h
        exact ⟨⟨fires _ rfl, fun _ => rfl, Nat.zero_le _, fun _ => rfl, Nat.min_le_left _ _,
          fun other => absurd lag other, needed, unused⟩, rfl⟩
      · rename_i other
        cases h
        exact ⟨⟨fires _ rfl, fun _ => rfl, Nat.min_le_left _ _, fun lag => absurd lag other,
          Nat.zero_le _, fun _ => rfl, needed, unused⟩, rfl⟩

/-- A record keeps sound under another late mark, when a CONTACT cue gets none, and another origin. -/
theorem Cue.Sound.marked {k : Cue} {day : Nat} (h : k.Sound day) (p : PortId) {late : Bool}
    (contact : k.isTime = false → late = false) : ({ k with origin := p, late := late } : Cue).Sound day :=
  ⟨h.1, contact, h.2.2⟩

theorem judged_channel (s : State) (k : Cue) : (s.judged k).channel = k.channel := by
  unfold State.judged
  split <;> rfl

theorem judged_trigger (s : State) (k : Cue) : (s.judged k).trigger = k.trigger := by
  unfold State.judged
  split <;> simp_all

theorem judged_sound {s : State} {k : Cue} {day : Nat} (h : k.Sound day) : (s.judged k).Sound day := by
  unfold State.judged
  split
  · rename_i time
    exact h.marked k.origin fun contact => by simp [Cue.isTime_time time] at contact
  · exact h.marked k.origin fun _ => rfl

theorem modified_channel (s : State) (old new : Cue) : (s.modified old new).channel = new.channel := by
  unfold State.modified
  dsimp only
  split
  · rfl
  · rw [judged_channel]

theorem modified_trigger (s : State) (old new : Cue) : (s.modified old new).trigger = new.trigger := by
  unfold State.modified
  dsimp only
  split
  · rfl
  · rw [judged_trigger]

theorem modified_sound {s : State} {old new : Cue} {day : Nat} (h : new.Sound day)
    (mark : old.isTime = false → old.late = false) : (s.modified old new).Sound day := by
  unfold State.modified
  dsimp only
  split
  · rename_i same
    refine h.marked old.origin fun contact => mark ?_
    simpa [Cue.isTime, same] using contact
  · exact judged_sound (h.marked old.origin h.2.1)

/-! ## A cue replaced in its slot (R29) -/

theorem State.replaceCue_timing (s : State) (i : SlotIx) (old new : Cue) :
    (s.replaceCue i old new).timing = s.timing := by
  unfold State.replaceCue
  dsimp only
  repeat' split
  all_goals simp

theorem State.replaceCue_slot (s : State) (i j : SlotIx) (old new : Cue) :
    (s.replaceCue i old new).slot j = if j = i then { s.slot i with cue := some new } else s.slot j := by
  unfold State.replaceCue
  dsimp only
  split
  · rw [State.setSlot_slot]
  · split
    · rw [State.slot_of_cues (State.enlist_cues ..)]
      exact State.setSlot_slot ..
    · rw [State.setSlot_slot]

theorem State.replaceCue_cue (s : State) (i j : SlotIx) (old new : Cue) :
    (s.replaceCue i old new).cue j = if j = i then some new else s.cue j := by
  rw [State.cue, State.replaceCue_slot]
  split <;> rfl

/-- Of the channels a replaced cue changes the timed lists alone. -/
theorem State.replaceCue_chan (s : State) (i : SlotIx) (old new : Cue) (c : Channel) :
    ((s.replaceCue i old new).chan c).clock = (s.chan c).clock
      ∧ ((s.replaceCue i old new).chan c).scheduler.ring = (s.chan c).scheduler.ring
      ∧ ((s.replaceCue i old new).chan c).scheduler.total = (s.chan c).scheduler.total := by
  unfold State.replaceCue
  dsimp only
  split
  · exact ⟨rfl, rfl, rfl⟩
  · split
    · obtain ⟨ring, total⟩ := State.enlist_frame ((s.setSlot i { s.slot i with cue := some new }).modScheduler
        new.channel fun x => { x with timed := x.timed.filter (· ≠ i) }) i new c
      rw [ring, total, State.enlist_chan_clock, State.modScheduler, State.modChan_chan]
      split
      · rename_i same; subst same; exact ⟨rfl, rfl, rfl⟩
      · exact ⟨rfl, rfl, rfl⟩
    · exact ⟨rfl, rfl, rfl⟩

/-- A channel's lists after one of its TIME cues is taken off, the slot seen as free. -/
theorem Listed.unlist {slots : SlotIx → Option Cue} {c : Channel} {timed contact : List SlotIx}
    (h : Listed slots c timed contact) {i : SlotIx} {k : Cue} (live : slots i = some k)
    (time : k.isTime = true) :
    Listed (fun j => if j = i then none else slots j) c (timed.filter (· ≠ i)) contact := by
  have removed := h.remove (slots' := fun j => if j = i then none else slots j) i
    (fun j hj => if_neg hj) (if_pos rfl)
  obtain ⟨-, -, -, -, mem⟩ := h
  have absent : contact.filter (· ≠ i) = contact := by
    refine List.filter_eq_self.2 fun j hj => decide_eq_true ?_
    rintro rfl
    obtain ⟨k', hk', -, kind⟩ := (mem j).1 hj
    rw [live] at hk'
    cases hk'
    simp [time] at kind
  rwa [absent] at removed

theorem replaceCue_plan {s : State} (sound : s.PlanSound) {i : SlotIx} {old new : Cue}
    (live : s.cue i = some old) (channel : new.channel = old.channel) (kind : new.isTime = old.isTime)
    (record : new.Sound (s.day new.channel)) : (s.replaceCue i old new).PlanSound := by
  obtain ⟨lists, generations⟩ := s.cuesSound_iff.1 sound.cues
  have clock : ∀ d, ((s.replaceCue i old new).chan d).clock = (s.chan d).clock := fun d =>
    (s.replaceCue_chan i old new d).1
  have day : ∀ d, (s.replaceCue i old new).day d = s.day d := fun d =>
    State.day_of (by rw [State.replaceCue_timing]) (by rw [clock])
  have written : ∀ j, (s.setSlot i { s.slot i with cue := some new }).cue j
      = if j = i then some new else s.cue j := fun j => State.setSlot_cue ..
  have alike : new.fireTime = old.fireTime →
      ∀ d, Listed (s.setSlot i { s.slot i with cue := some new }).cue d (s.chan d).scheduler.timed
        (s.chan d).scheduler.contact := by
    intro time d
    refine (lists d).congr fun j => ?_
    rw [written]
    split
    · rename_i hj; subst hj; simp [live, channel, kind, time]
    · rfl
  refine ⟨(State.cuesSound_iff _).2 ⟨?_, fun j => ?_⟩, fun j k hk => ?_,
    clocksSound_of_same sound.clocks day clock, fun d => ?_⟩
  · unfold State.replaceCue
    dsimp only
    split
    · rename_i same
      exact alike (by simp [Cue.fireTime, same])
    · split
      · rename_i n time
        have isTime : old.isTime = true := by rw [← kind, Cue.isTime_time time]
        refine enlist_cues (slots := fun j => if j = i then none else s.cue j) (fun d => ?_)
          (fun j hj => ?_) (if_pos rfl) ?_
        · rw [State.modScheduler, State.modChan_chan]
          split
          · rename_i hd
            subst hd
            exact (lists _).unlist live isTime
          · rename_i hd
            refine (lists d).other i (fun j hj => if_neg hj) (fun k hk => ?_) (by simp)
            rw [live] at hk
            cases hk
            exact fun e => hd (e.symm.trans channel.symm)
        · exact (written j).trans (by simp [hj])
        · exact (written i).trans (if_pos rfl)
      · rename_i g contact
        refine alike ?_
        have other : old.isTime = false := by rw [← kind, Cue.isTime_contact contact]
        cases trigger : old.trigger with
        | time n => simp [Cue.isTime_time trigger] at other
        | contact g' => simp [Cue.fireTime, contact, trigger]
  · rw [State.replaceCue_slot, State.replaceCue_cue]
    split
    · exact ⟨(generations i).1, fun _ => (generations i).2 (by simp [live])⟩
    · exact generations j
  · rw [State.replaceCue_cue] at hk
    rw [day]
    split at hk
    · cases hk; exact record
    · exact sound.records j k hk
  · obtain ⟨-, ring, total⟩ := s.replaceCue_chan i old new d
    rw [ring, total]
    exact sound.rings d

/-! ## The requests (R25 to R32) -/

theorem State.resolve_cue {s : State} {h : HandleBytes} {i : SlotIx} {k : Cue}
    (found : s.resolve h = some (i, k)) : s.cue i = some k := by
  unfold State.resolve at found
  dsimp only at found
  split at found
  · cases found
  · obtain ⟨k', hk, same⟩ := Option.map_eq_some_iff.1 found
    cases same
    exact hk

theorem cueAdd_plan {s : State} (sound : s.PlanSound) (p : PortId) (f : CueFields) :
    (cueAdd p f s).1.PlanSound := by
  unfold cueAdd
  split
  · exact sound
  · rename_i k clamped read
    split
    · exact sound
    · rename_i i free
      obtain ⟨record, -⟩ := readCue_sound read
      exact placeCue_plan sound (State.freeSlot_none free)
        (by rw [judged_channel]; exact judged_sound record)

theorem Trigger.sameKind_isTime {old new : Cue} (h : old.trigger.sameKind new.trigger = true) :
    new.isTime = old.isTime := by
  unfold Cue.isTime
  cases ho : old.trigger <;> cases hn : new.trigger <;> simp [ho, hn, Trigger.sameKind] at h ⊢

theorem cueModify_plan {s : State} (sound : s.PlanSound) (p : PortId) (h : HandleBytes) (f : CueFields) :
    (cueModify p h f s).1.PlanSound := by
  unfold cueModify
  split
  · exact sound
  · rename_i i old found
    split
    · exact sound
    · split
      · exact sound
      · rename_i new clamped read
        split
        · exact sound
        · rename_i fits
          obtain ⟨channel, kind⟩ := not_or.1 fits
          obtain ⟨record, -⟩ := readCue_sound read
          have live := State.resolve_cue found
          have trigger := modified_trigger s old new
          refine replaceCue_plan sound live ?_ ?_ ?_
          · rw [modified_channel]
            exact not_not.1 channel
          · exact Trigger.sameKind_isTime (by rw [trigger]; simpa using kind)
          · rw [modified_channel]
            exact modified_sound record (sound.records i old live).2.1

theorem cueDelete_plan {s : State} (sound : s.PlanSound) (p : PortId) (h : HandleBytes) :
    (cueDelete p h s).1.PlanSound := by
  unfold cueDelete
  split
  · exact sound
  · rename_i i k found
    split
    · exact sound
    · refine retire_plan sound (fun k' hk' => ?_) k _
      rw [State.resolve_cue found] at hk'
      cases hk'
      rfl

theorem cueClear_plan {s : State} (sound : s.PlanSound) (p : PortId) (ch scope : Byte) :
    (cueClear p ch scope s).1.PlanSound := by
  unfold cueClear
  split
  · rename_i c everyOrigin _ _
    split
    · exact sound
    · refine (foldl_plan (fun _ _ ht hi => cancelCue_plan ht hi) (fun t i => .cancelCue t c i) _ sound
        fun i hi => ?_).1
      obtain timed | contact := List.mem_append.1 (List.mem_filter.1 hi).1
      · exact sound.cues.ofChannel_timed timed
      · exact sound.cues.ofChannel_contact contact
  · exact sound

theorem State.nextTimed_mem {s : State} {c : Channel} {i : SlotIx} (h : s.nextTimed c = some i) :
    i ∈ (s.chan c).scheduler.timed := by
  unfold State.nextTimed at h
  dsimp only at h
  split at h
  · rename_i j found
    cases h
    exact List.mem_of_find?_eq_some found
  · unfold leastBy at h
    exact (sortBy_perm _ _).mem_iff.1 (List.mem_of_head? h)

theorem cueSkipNext_plan {s : State} (sound : s.PlanSound) (ch : Byte) : (cueSkipNext ch s).1.PlanSound := by
  unfold cueSkipNext
  split
  · exact sound
  · split
    · exact sound
    · rename_i next
      split
      · exact sound
      · exact retire_plan sound (sound.cues.ofChannel_timed (State.nextTimed_mem next)) _ _

theorem cueHold_plan {s : State} (p : PortId) (mask action : Byte) : s.PlanSame (cueHold p mask action s).1 := by
  have set : ∀ (k : Scheduler) h, (k.setHold h).timed = k.timed ∧ (k.setHold h).contact = k.contact
      ∧ (k.setHold h).ring = k.ring ∧ (k.setHold h).total = k.total := by
    intro k h
    unfold Scheduler.setHold
    repeat' split
    all_goals exact ⟨rfl, rfl, rfl, rfl⟩
  unfold cueHold
  split
  · exact .refl s
  · rename_i m _
    split
    · exact .refl s
    · split
      · exact .refl s
      · dsimp only
        refine State.PlanSame.eachChannel (fun c t => ?_) s
        split
        · unfold State.modScheduler
          exact .modChan t c (fun _ => rfl) (fun x => (set x.scheduler _).1)
            (fun x => (set x.scheduler _).2.1) (fun x => (set x.scheduler _).2.2.1)
            fun x => (set x.scheduler _).2.2.2
        · exact .refl t

end Sys2Proof.Machine
end

section
/-! PROOFS. The plan under the clocks, the output frame start and the period start (R1, R13 to R17, R36, R76). -/

namespace Sys2Proof.Machine

open Sys2Proof

/-! ## A clock moved on -/

/-- A clock put in place of a channel's own keeps the plan, when it is sound and counts as the old one does. -/
theorem State.PlanSound.clock {s t : State} (sound : s.PlanSound) (c : Channel) (cues : t.cues = s.cues)
    (format : t.timing.format = s.timing.format)
    (timed : ∀ d, (t.chan d).scheduler.timed = (s.chan d).scheduler.timed)
    (contact : ∀ d, (t.chan d).scheduler.contact = (s.chan d).scheduler.contact)
    (ring : ∀ d, (t.chan d).scheduler.ring = (s.chan d).scheduler.ring)
    (total : ∀ d, (t.chan d).scheduler.total = (s.chan d).scheduler.total)
    (others : ∀ d, d ≠ c → (t.chan d).clock = (s.chan d).clock)
    (mode : (t.chan c).clock.dropMode = (s.chan c).clock.dropMode)
    (own : (t.chan c).clock.Sound (s.day c)) : t.PlanSound := by
  have day : ∀ d, t.day d = s.day d := by
    intro d
    by_cases hd : d = c
    · subst hd; exact State.day_of format mode
    · exact State.day_of format (congrArg CueClock.dropMode (others d hd))
  refine ⟨cuesSound_of_same sound.cues cues timed contact, recordsSound_of_same sound.records cues day,
    fun d => ?_, fun d => ?_⟩
  · rw [day]
    by_cases hd : d = c
    · subst hd; exact own
    · rw [others d hd]; exact sound.clocks d
  · rw [ring, total]; exact sound.rings d

/-- The clock of one channel changed, and nothing else of the plan. -/
theorem modClock_plan {s : State} (sound : s.PlanSound) (c : Channel) {f : ChannelState → ChannelState}
    (timed : ∀ x, (f x).scheduler.timed = x.scheduler.timed)
    (contact : ∀ x, (f x).scheduler.contact = x.scheduler.contact)
    (ring : ∀ x, (f x).scheduler.ring = x.scheduler.ring)
    (total : ∀ x, (f x).scheduler.total = x.scheduler.total)
    (mode : (f (s.chan c)).clock.dropMode = (s.chan c).clock.dropMode)
    (own : (f (s.chan c)).clock.Sound (s.day c)) : (s.modChan c f).PlanSound := by
  have at_ : ∀ {γ : Type} (g : ChannelState → γ), (∀ x, g (f x) = g x) →
      ∀ d, g ((s.modChan c f).chan d) = g (s.chan d) := by
    intro γ g h d
    rw [State.modChan_chan]
    split
    · rename_i same; subst same; exact h _
    · rfl
  refine sound.clock c rfl rfl (at_ (·.scheduler.timed) timed) (at_ (·.scheduler.contact) contact)
    (at_ (·.scheduler.ring) ring) (at_ (·.scheduler.total) total)
    (fun d hd => by rw [State.modChan_chan_ne _ _ hd]) ?_ ?_
  · rw [State.modChan_chan_same]; exact mode
  · rw [State.modChan_chan_same]; exact own

theorem reportClock_plan {s : State} (sound : s.PlanSound) (c : Channel) {new : CueClock} (kind : FrameKind)
    (mode : new.dropMode = (s.chan c).clock.dropMode) (own : new.Sound (s.day c)) :
    (s.reportClock c new kind).PlanSound := by
  have moved : (s.modChan c fun x => ((x.setClock new).setReport
      (some (stepReport s.format (s.chan c).clock new))).setScheduler x.scheduler.noteReport).PlanSound :=
    modClock_plan sound c (fun _ => rfl) (fun _ => rfl) (fun _ => rfl) (fun _ => rfl) mode own
  unfold State.reportClock
  dsimp only
  split
  · exact (State.PlanSame.postAll _ _).sound moved
  · exact moved

theorem updateClock_plan {s : State} (sound : s.PlanSound) (c : Channel) : (s.updateClock c).PlanSound := by
  unfold State.updateClock
  dsimp only
  split
  · refine State.PlanSame.sound ?_ sound
    exact .modChan s c (fun _ => rfl) (fun _ => rfl) (fun _ => rfl) (fun _ => rfl) fun _ => rfl
  · exact reportClock_plan sound c _ (CueClock.update_dropMode _ _ _ _) ((sound.clocks c).update _ _)

theorem reportSpans_plan {s : State} (sound : s.PlanSound) (c : Channel) : (s.reportSpans c).PlanSound :=
  State.PlanSame.sound (.of_frames (by simp) (by simp) (by simp) (by simp)) sound

theorem deliverReport_plan {s : State} (sound : s.PlanSound) (c : Channel) (order : ReportOrder) :
    (s.deliverReport c order).PlanSound := by
  cases order
  · exact reportSpans_plan (reportCues_plan sound c) c
  · exact reportCues_plan (reportSpans_plan sound c) c

/-! ## The output frame start and the period start -/

theorem frameTask_plan {s : State} (sound : s.PlanSound) (inputs : Bank 4 (List InputFrame))
    (k : FrameTask) : (s.frameTask inputs k).PlanSound := by
  cases k with
  | delay c =>
    refine updateClock_plan ?_ c
    exact State.PlanSame.sound (.of_frames (by simp) (by simp) (by simp) (by simp)) sound
  | cues c => exact reportCues_plan sound c
  | spans c => exact reportSpans_plan sound c

theorem State.PlanSame.setTiming (s : State) {t : Timing} (format : t.format = s.timing.format) :
    s.PlanSame (s.setTiming t) :=
  ⟨rfl, format, fun _ => rfl, fun _ => rfl, fun _ => rfl, fun _ => rfl, fun _ => rfl⟩

theorem Timing.relockStep_format (t : Timing) : t.relockStep.format = t.format := by
  unfold Timing.relockStep
  split <;> rfl

theorem Timing.free_format (t : Timing) : t.free.format = t.format := rfl

theorem Timing.judge_format (t : Timing) (now : Nat) : (t.judge now).format = t.format := by
  unfold Timing.judge Timing.countGood
  dsimp only
  repeat' split
  all_goals rfl

theorem State.PlanSame.relock (s : State) : s.PlanSame s.relock := by
  have stepped := State.PlanSame.setTiming s s.timing.relockStep_format
  unfold State.relock
  dsimp only
  split
  · exact stepped.trans (.postAll _ _)
  · exact stepped

theorem State.PlanSame.setReference (s : State) {t : Timing} (format : t.format = s.timing.format) :
    s.PlanSame (s.setReference t) := by
  have set := State.PlanSame.setTiming s format
  unfold State.setReference
  split
  · exact set
  · exact set.trans (.postAll _ _)

theorem periodTask_plan {s : State} (sound : s.PlanSound) (contacts : Bank 8 Contact) (picture : Bool)
    (k : PeriodTask) : (s.periodTask contacts picture k).PlanSound := by
  cases k with
  | synchronise c h =>
    exact State.PlanSame.sound (.of_frames (by simp [State.periodTask]) (by simp [State.periodTask])
      (by simp [State.periodTask]) (by simp [State.periodTask])) sound
  | contact g edges => exact sampleGpi_plan sound g _ edges
  | calibrate c =>
    exact State.PlanSame.sound (.of_frames (by simp [State.periodTask]) (by simp [State.periodTask])
      (by simp [State.periodTask]) (by simp [State.periodTask])) sound
  | window c =>
    exact State.PlanSame.sound (.of_frames (by simp [State.periodTask]) (by simp [State.periodTask])
      (by simp [State.periodTask]) (by simp [State.periodTask])) sound

end Sys2Proof.Machine
end

section
/-! PROOFS. CHANNEL_CONFIG: what the source, the drop mode and the other fields do to the clock, the cues and their
lists, and that the plan is kept (R12, R34, R67, R191). -/

namespace Sys2Proof.Machine

open Sys2Proof

/-! ## Cues converted (R34) -/

/-- A cue with its fire time converted, and no other field changed (R34). -/
def Cue.convert (k : Cue) (f : Format) (old new : DropMode) : Cue :=
  match k.trigger with
  | .contact _ => k
  | .time n => { k with trigger := .time (convertNumber f old new n) }

theorem Cue.convert_time {k : Cue} {n : Nat} (h : k.trigger = .time n) (f : Format) (old new : DropMode) :
    k.convert f old new = { k with trigger := .time (convertNumber f old new n) } := by
  simp only [Cue.convert, h]

theorem Cue.convert_contact {k : Cue} {g : GpiIx} (h : k.trigger = .contact g) (f : Format)
    (old new : DropMode) : k.convert f old new = k := by
  simp only [Cue.convert, h]

theorem Cue.convert_channel (k : Cue) (f : Format) (old new : DropMode) :
    (k.convert f old new).channel = k.channel := by
  unfold Cue.convert
  split <;> rfl

theorem Cue.convert_isTime (k : Cue) (f : Format) (old new : DropMode) :
    (k.convert f old new).isTime = k.isTime := by
  cases h : k.trigger with
  | contact g => rw [Cue.convert_contact h]
  | time n => rw [Cue.convert_time h, Cue.isTime_time rfl, Cue.isTime_time h]

theorem Cue.Sound.convert {k : Cue} {f : Format} {old : DropMode} (sound : k.Sound (dayLength f old))
    (new : DropMode) : (k.convert f old new).Sound (dayLength f new) := by
  obtain ⟨time, rest⟩ := sound
  cases h : k.trigger with
  | contact g =>
    rw [Cue.convert_contact h]
    exact ⟨fun isTime => by simp [Cue.isTime_contact h] at isTime, rest⟩
  | time n =>
    rw [Cue.convert_time h]
    have lt : n < dayLength f old := by simpa [Cue.fireTime, h] using time (Cue.isTime_time h)
    refine ⟨fun _ => convertNumber_lt lt, fun contact => ?_, rest.2⟩
    simp [Cue.isTime] at contact

/-- A slot with the fire time of its cue converted (R34). -/
def CueSlot.convert (x : CueSlot) (f : Format) (old new : DropMode) : CueSlot :=
  { x with cue := x.cue.map fun k => k.convert f old new }

theorem State.convertCue_slot (s : State) (old new : DropMode) (i j : SlotIx) :
    (s.convertCue old new i).slot j
      = if j = i then (s.slot i).convert s.format old new else s.slot j := by
  have same : ∀ x : CueSlot, x.cue.map (fun k => k.convert s.format old new) = x.cue →
      x.convert s.format old new = x := fun x h => by rw [CueSlot.convert, h]
  unfold State.convertCue
  split
  · rename_i none
    rw [same _ (by rw [show (s.slot i).cue = _ from none]; rfl)]
    split
    · rename_i h; rw [h]
    · rfl
  · rename_i k live
    split
    · rename_i g contact
      rw [same _ (by rw [show (s.slot i).cue = _ from live, Option.map_some, Cue.convert_contact contact])]
      split
      · rename_i h; rw [h]
      · rfl
    · rename_i n time
      rw [State.setSlot_slot, CueSlot.convert, show (s.slot i).cue = _ from live, Option.map_some,
        Cue.convert_time time]

/-- Cues of a list without repetition converted one after another: each slot of the list once. -/
theorem convertAll_slot (old new : DropMode) {l : List SlotIx} (nodup : l.Nodup) (s : State) (j : SlotIx) :
    (l.foldl (fun u i => u.convertCue old new i) s).slot j
      = if j ∈ l then (s.slot j).convert s.format old new else s.slot j := by
  induction l generalizing s with
  | nil => simp
  | cons i l ih =>
    obtain ⟨absent, nodup⟩ := List.nodup_cons.1 nodup
    have format : (s.convertCue old new i).format = s.format :=
      congrArg Timing.format (State.Inner.convertCue s old new i).1
    rw [List.foldl_cons, ih nodup, format, State.convertCue_slot]
    by_cases hj : j = i
    · subst hj; simp [absent]
    · simp [hj]

theorem convertAll_chan (old new : DropMode) (l : List SlotIx) (s : State) :
    (l.foldl (fun u i => u.convertCue old new i) s).channels = s.channels := by
  refine foldl_keeps _ State.channels (fun u i => ?_) l s
  unfold State.convertCue
  repeat' split
  all_goals rfl

theorem State.chan_of_channels {s t : State} (h : t.channels = s.channels) (d : Channel) :
    t.chan d = s.chan d := by
  simp only [State.chan, h]

section
variable (s : State) (c : Channel) (old new : DropMode)

theorem State.convertCues_slot (nodup : (s.chan c).scheduler.timed.Nodup) (j : SlotIx) :
    (s.convertCues c old new).slot j = if j ∈ (s.chan c).scheduler.timed
      then (s.slot j).convert s.format old new else s.slot j :=
  convertAll_slot old new nodup s j

/-- The scheduler of a channel whose cues are converted (R34). -/
def State.convertScheduler : Scheduler :=
  { (s.chan c).scheduler with
    timed := sortBy (s.convertCues c old new).fireTimeAt (s.chan c).scheduler.timed
    scan := if (s.chan c).clock.source = .embedded then none
      else (s.chan c).scheduler.scan.map (· % dayLength s.format new) }

theorem State.convertCues_chan (d : Channel) : (s.convertCues c old new).chan d
    = if d = c then (s.chan c).setScheduler (s.convertScheduler c old new) else s.chan d := by
  have kept := State.chan_of_channels (convertAll_chan old new (s.chan c).scheduler.timed s)
  unfold State.convertCues
  dsimp only
  rw [State.modScheduler, State.modChan_chan, kept]
  split
  · rename_i hd
    subst hd
    rfl
  · exact kept d

theorem State.changeDropMode_chan (mode : DropMode) (d : Channel) : (s.changeDropMode c mode).chan d
    = if d = c then (s.chan c).setClock
        ((s.chan c).clock.changeDropMode mode (dayLength s.format mode)) else s.chan d := by
  have set : ∀ k, (s.modChan c fun x => x.setClock k).chan d
      = if d = c then (s.chan c).setClock k else s.chan d := fun k => State.modChan_chan ..
  unfold State.changeDropMode
  dsimp only
  split
  · exact set _
  · exact (State.postAll_chan ..).trans (set _)

theorem State.changeDropMode_cues (mode : DropMode) : (s.changeDropMode c mode).cues = s.cues := by
  unfold State.changeDropMode
  dsimp only
  split <;> rfl

/-- The cues and the clock of a channel converted, before the spans are. -/
def State.convertPlan : State := (s.convertCues c old new).changeDropMode c new

theorem State.convertPlan_timing : (s.convertPlan c old new).timing = s.timing :=
  ((State.Inner.convertCues s c old new).trans (.changeDropMode _ c new)).1

theorem State.convertPlan_slot (nodup : (s.chan c).scheduler.timed.Nodup) (j : SlotIx) :
    (s.convertPlan c old new).slot j = if j ∈ (s.chan c).scheduler.timed
      then (s.slot j).convert s.format old new else s.slot j := by
  rw [← s.convertCues_slot c old new nodup]
  exact State.slot_of_cues (State.changeDropMode_cues ..) j

theorem State.convertPlan_chan (d : Channel) : (s.convertPlan c old new).chan d
    = if d = c then ((s.chan c).setScheduler (s.convertScheduler c old new)).setClock
        ((s.chan c).clock.changeDropMode new (dayLength s.format new)) else s.chan d := by
  have format : (s.convertCues c old new).format = s.format :=
    congrArg Timing.format (State.Inner.convertCues s c old new).1
  rw [State.convertPlan, State.changeDropMode_chan, State.convertCues_chan, State.convertCues_chan, format,
    if_pos rfl]
  split
  · rfl
  · rfl

/-- Where the timed list is in step with the pool, the cues converted are the channel's TIME cues. -/
theorem convertPlan_cue (sound : s.CuesSound) (j : SlotIx) : (s.convertPlan c old new).cue j
    = if j ∈ (s.chan c).scheduler.timed then (s.cue j).map fun k => k.convert s.format old new
      else s.cue j := by
  obtain ⟨lists, -⟩ := s.cuesSound_iff.1 sound
  rw [State.cue, State.convertPlan_slot s c old new (lists c).1]
  split <;> rfl

end

theorem CueClock.Sound.changeDropMode {k : CueClock} {day : Nat} (sound : k.Sound day) (mode : DropMode)
    {day' : Nat} (pos : 0 < day') : (k.changeDropMode mode day').Sound day' := by
  obtain ⟨-, -, -, valid⟩ := sound
  unfold CueClock.changeDropMode
  split
  · rename_i source
    exact ⟨pos, by simp, by simp, by simp [source]⟩
  · have reduced : ∀ x : Option Nat, ∀ v ∈ x.map (· % day'), v < day' := by
      intro x v hv
      obtain ⟨w, -, rfl⟩ := Option.map_eq_some_iff.1 hv
      exact Nat.mod_lt _ pos
    exact ⟨Nat.mod_lt _ pos, reduced _, reduced _, valid⟩

theorem CueClock.changeDropMode_dropMode (k : CueClock) (mode : DropMode) (day : Nat) :
    (k.changeDropMode mode day).dropMode = mode := by
  unfold CueClock.changeDropMode
  split <;> rfl

/-- A channel's lists depend on the slots of its own cues alone. -/
theorem Listed.own {slots slots' : SlotIx → Option Cue} {c : Channel} {timed contact : List SlotIx}
    (h : Listed slots c timed contact) (same : ∀ i, slots' i = slots i
      ∨ (∀ k ∈ slots i, k.channel ≠ c) ∧ ∀ k ∈ slots' i, k.channel ≠ c) :
    Listed slots' c timed contact := by
  obtain ⟨nodup, nodup', order, mem, mem'⟩ := h
  have live : ∀ j b, (∃ k ∈ slots' j, k.channel = c ∧ k.isTime = b)
      ↔ ∃ k ∈ slots j, k.channel = c ∧ k.isTime = b := by
    intro j b
    obtain same | ⟨before, after⟩ := same j
    · rw [same]
    · constructor
      · rintro ⟨k, hk, channel, -⟩; exact absurd channel (after k hk)
      · rintro ⟨k, hk, channel, -⟩; exact absurd channel (before k hk)
  have kept : ∀ i ∈ timed, slots' i = slots i := by
    intro i hi
    obtain same | ⟨before, -⟩ := same i
    · exact same
    · obtain ⟨k, hk, channel, -⟩ := (mem i).1 hi
      exact absurd channel (before k hk)
  refine ⟨nodup, nodup', order.imp_of_mem fun {a b} ha hb le => ?_,
    fun j => (mem j).trans (live j true).symm, fun j => (mem' j).trans (live j false).symm⟩
  rwa [kept a ha, kept b hb]

theorem convertPlan_listed {s : State} (sound : s.CuesSound) (c : Channel) (old new : DropMode) (d : Channel) :
    Listed (s.convertPlan c old new).cue d ((s.convertPlan c old new).chan d).scheduler.timed
      ((s.convertPlan c old new).chan d).scheduler.contact := by
  obtain ⟨lists, -⟩ := s.cuesSound_iff.1 sound
  have cue := convertPlan_cue s c old new sound
  rw [State.convertPlan_chan]
  split
  · rename_i hd
    subst hd
    have times : (s.convertCues d old new).fireTimeAt
        = fun j => (((s.convertPlan d old new).cue j).map Cue.fireTime).getD 0 := by
      funext j
      have := State.cue_of_cues (State.changeDropMode_cues (s.convertCues d old new) d new) j
      rw [State.convertPlan, this]
      rfl
    have sorted := (lists d).sort (slots' := (s.convertPlan d old new).cue) fun i => by
      rw [cue]
      split
      · simp [Function.comp_def, Cue.convert_channel, Cue.convert_isTime]
      · rfl
    rw [← times] at sorted
    exact sorted
  · rename_i hd
    refine (lists d).own fun j => ?_
    rw [cue]
    split
    · rename_i listed
      refine .inr ⟨fun k hk => ?_, fun k hk => ?_⟩
      · rw [sound.ofChannel_timed listed k hk]
        exact Ne.symm hd
      · obtain ⟨k', hk', rfl⟩ := Option.map_eq_some_iff.1 hk
        rw [Cue.convert_channel, sound.ofChannel_timed listed k' hk']
        exact Ne.symm hd
    · exact .inl rfl

theorem convertPlan_plan {s : State} (sound : s.PlanSound) (c : Channel) (new : DropMode) :
    (s.convertPlan c (s.dropMode c) new).PlanSound := by
  obtain ⟨lists, generations⟩ := s.cuesSound_iff.1 sound.cues
  have cue := convertPlan_cue s c (s.dropMode c) new sound.cues
  have chan := s.convertPlan_chan c (s.dropMode c) new
  have format : (s.convertPlan c (s.dropMode c) new).format = s.format :=
    congrArg Timing.format (State.convertPlan_timing ..)
  have own : (s.convertPlan c (s.dropMode c) new).day c = dayLength s.format new := by
    rw [State.day, format, State.dropMode, chan, if_pos rfl]
    exact congrArg (dayLength s.format) (CueClock.changeDropMode_dropMode _ _ _)
  have others : ∀ d, d ≠ c → (s.convertPlan c (s.dropMode c) new).day d = s.day d := by
    intro d hd
    rw [State.day, format, State.dropMode, chan, if_neg hd]
    rfl
  refine ⟨(State.cuesSound_iff _).2 ⟨convertPlan_listed sound.cues c _ new, fun i => ?_⟩,
    fun i k hk => ?_, fun d => ?_, fun d => ?_⟩
  · rw [cue, State.convertPlan_slot s c _ new (lists c).1]
    split
    · simpa [CueSlot.convert] using generations i
    · exact generations i
  · rw [cue] at hk
    split at hk
    · rename_i listed
      obtain ⟨k', hk', rfl⟩ := Option.map_eq_some_iff.1 hk
      have channel := sound.cues.ofChannel_timed listed k' hk'
      have record := sound.records i k' hk'
      rw [channel] at record
      rw [Cue.convert_channel, channel, own]
      exact record.convert new
    · rename_i unlisted
      by_cases channel : k.channel = c
      · have contact : k.isTime = false := by
          by_contra time
          exact unlisted (((lists c).2.2.2.1 i).2 ⟨k, hk, channel, by simpa using time⟩)
        exact ⟨fun time => by simp [contact] at time, (sound.records i k hk).2⟩
      · rw [others _ channel]
        exact sound.records i k hk
  · by_cases hd : d = c
    · subst hd
      rw [own, chan, if_pos rfl]
      exact (sound.clocks d).changeDropMode new (dayLength_pos _ _)
    · rw [others d hd, chan, if_neg hd]
      exact sound.clocks d
  · rw [chan]
    split
    · rename_i hd
      subst hd
      exact sound.rings d
    · exact sound.rings d

/-! ## The fields applied one after another (R191) -/

theorem State.PlanSame.convertSpans (s : State) (c : Channel) (old new : DropMode) :
    s.PlanSame (s.convertSpans c old new) := by
  have converted := State.PlanSame.setWindow s c fun x =>
    { x.window with spans := x.window.spans.map fun y => y.convert s.format old new }
  unfold State.convertSpans
  dsimp only
  split
  · exact converted
  · exact converted.trans (.of_frames (by simp) (by simp) (by simp) (by simp))

theorem changeSource_sound {k : CueClock} {day : Nat} (sound : k.Sound day) (pos : 0 < day) (source : Source) :
    (k.changeSource source).Sound day := by
  obtain ⟨value, last, -, -⟩ := sound
  have least : k.lastValid.getD 0 < day := by
    cases h : k.lastValid with
    | none => exact pos
    | some v => exact last v h
  cases source with
  | internal => exact ⟨least, by simpa [CueClock.changeSource] using least, by simp [CueClock.changeSource],
      fun _ => rfl⟩
  | embedded => exact ⟨value, last, by simp [CueClock.changeSource], by simp [CueClock.changeSource]⟩

theorem setSource_plan {s : State} (sound : s.PlanSound) (c : Channel) (source : Source) :
    (s.setSource c source).PlanSound := by
  unfold State.setSource
  split
  · exact sound
  · refine (State.PlanSame.postAll _ _).sound ?_
    refine modClock_plan sound c (fun _ => rfl) (fun _ => rfl) (fun _ => rfl) (fun _ => rfl) ?_ ?_
    · cases source <;> rfl
    · exact changeSource_sound (sound.clocks c) (dayLength_pos _ _) source

/-- Without a 29.97 frame/s format the drop mode has no part in the day length (R10). -/
theorem dayLength_mode {f : Format} (whole : fractional f = false) (m m' : DropMode) :
    dayLength f m = dayLength f m' := by
  simp [dayLength, dropFrame, whole]

theorem setDropMode_plan {s : State} (sound : s.PlanSound) (c : Channel) (mode : DropMode) :
    (s.setDropMode c mode).PlanSound := by
  unfold State.setDropMode
  dsimp only
  split
  · exact sound
  · split
    · exact (State.PlanSame.convertSpans _ c _ mode).sound (convertPlan_plan sound c mode)
    · rename_i whole
      have day : ∀ d, (s.modChan c fun x => x.setClock { x.clock with dropMode := mode }).day d = s.day d :=
        fun d => dayLength_mode (f := s.format) (by simpa using whole) _ _
      have at_ : ∀ {γ : Type} (g : ChannelState → γ),
          (∀ x : ChannelState, g (x.setClock { x.clock with dropMode := mode }) = g x) → ∀ d,
          g ((s.modChan c fun x => x.setClock { x.clock with dropMode := mode }).chan d) = g (s.chan d) := by
        intro γ g h d
        rw [State.modChan_chan]
        split
        · rename_i same; subst same; exact h _
        · rfl
      refine ⟨cuesSound_of_same sound.cues rfl (at_ (·.scheduler.timed) fun _ => rfl)
        (at_ (·.scheduler.contact) fun _ => rfl), recordsSound_of_same sound.records rfl day,
        fun d => ?_, fun d => ?_⟩
      · rw [day]
        rw [State.modChan_chan]
        split
        · rename_i hd; subst hd; exact sound.clocks d
        · exact sound.clocks d
      · rw [at_ (·.scheduler.ring) fun _ => rfl, at_ (·.scheduler.total) fun _ => rfl]
        exact sound.rings d

/-- A change of one channel that leaves the values of its clock, its lists and its ring keeps the plan. -/
theorem modChan_plan {s : State} (sound : s.PlanSound) (c : Channel) {f : ChannelState → ChannelState}
    (scheduler : ∀ x, ∃ n, (f x).scheduler = { x.scheduler with lateTolerance := n })
    (clock : ∀ x, ∃ n, (f x).clock = { x.clock with freewheelLimit := n }) : (s.modChan c f).PlanSound := by
  have own : ∀ {γ : Type} (g : Scheduler → γ), (∀ k n, g { k with lateTolerance := n } = g k) →
      ∀ x, g (f x).scheduler = g x.scheduler := by
    intro γ g h x
    obtain ⟨n, hn⟩ := scheduler x
    rw [hn]
    exact h _ n
  obtain ⟨n, hn⟩ := clock (s.chan c)
  refine modClock_plan sound c (own (·.timed) fun _ _ => rfl) (own (·.contact) fun _ _ => rfl)
    (own (·.ring) fun _ _ => rfl) (own (·.total) fun _ _ => rfl) ?_ ?_
  · rw [hn]
  · rw [hn]; exact sound.clocks c

theorem setPolicy_plan {s : State} (sound : s.PlanSound) (c : Channel) (x : LossPolicy) :
    (s.setPolicy c x).PlanSound := by
  have written := modChan_plan sound c (f := fun y => y.setSync { y.sync with policy := x })
    (fun y => ⟨y.scheduler.lateTolerance, rfl⟩) (fun y => ⟨y.clock.freewheelLimit, rfl⟩)
  unfold State.setPolicy
  exact State.PlanSame.sound (.of_frames (by simp) (by simp) (by simp) (by simp)) written

theorem configure_plan {s : State} (sound : s.PlanSound) (c : Channel) (k : Configuration) :
    (s.configure c k).PlanSound := by
  have moded := setDropMode_plan (setSource_plan sound c k.source) c k.dropMode
  unfold State.configure
  dsimp only
  refine modChan_plan (setPolicy_plan (modChan_plan moded c ?_ ?_) c _) c ?_ ?_
  · exact fun x => ⟨k.lateTolerance, rfl⟩
  · exact fun x => ⟨k.freewheelLimit, rfl⟩
  · exact fun x => ⟨x.scheduler.lateTolerance, rfl⟩
  · exact fun x => ⟨x.clock.freewheelLimit, rfl⟩

end Sys2Proof.Machine
end

section
/-! PROOFS. What the resets leave: of a channel after its own reset, of the pool, and of a channel whose stream is
reported again (R51, R119, R192 to R194). -/

namespace Sys2Proof.Machine

open Sys2Proof

/-! ## One channel reset (R192) -/

/-- A channel after its own reset, with its delay line and window record as given (R51, R135, R163, R192). -/
def ChannelState.channelReset (x : ChannelState) (w : Window) (d : DelayLine) : ChannelState :=
  { x with
    scheduler := x.scheduler.channelReset
    window := w
    sync := { x.sync with repeats := 0, drops := 0 }
    delay := d
    calibration := if x.calibration.running then x.calibration.finish .aborted else x.calibration }

theorem State.freeCues_slot (s : State) (c : Channel) (i : SlotIx) : (s.freeCues c).slot i
    = if (s.cue i).map (·.channel) = some c then { s.slot i with cue := none } else s.slot i := by
  simp only [State.freeCues, State.slot, State.cue, Bank.pick_map]
  rfl

theorem State.contactLevel_congr {s t : State} (gpis : t.gpis = s.gpis) (m : GpiMode) (c : Channel) :
    t.contactLevel m c = s.contactLevel m c := by
  simp only [State.contactLevel, State.gpi, gpis]
  rfl

theorem State.windowAfterReset_congr {s t : State} {c : Channel} (chan : t.chan c = s.chan c)
    (gpis : t.gpis = s.gpis) : t.windowAfterReset c = s.windowAfterReset c := by
  unfold State.windowAfterReset
  rw [State.contactLevel_congr gpis, State.contactLevel_congr gpis, chan]

section
variable (s : State) (c : Channel)

theorem State.abortRun_chan (d : Channel) : (s.abortRun c).chan d = if d = c
    then (s.chan c).setCalibration (if (s.chan c).calibration.running
      then (s.chan c).calibration.finish .aborted else (s.chan c).calibration) else s.chan d := by
  have same : (s.chan c).setCalibration (s.chan c).calibration = s.chan c := rfl
  unfold State.abortRun
  by_cases running : (s.chan c).calibration.running = true
  · rw [if_pos running, if_pos running, State.chan_of_channels (State.postDone_channels ..),
      State.modChan_chan]
  · rw [if_neg running, if_neg running, same]
    split
    · rename_i hd; rw [hd]
    · rfl

theorem State.abortRun_cues : (s.abortRun c).cues = s.cues := by
  unfold State.abortRun
  split
  · rw [State.postDone_cues, State.modChan_cues]
  · rfl

theorem State.resetChannelDelay_chan : ∃ e : DelayLine,
    e.slewInterval = (s.chan c).delay.slewInterval ∧ ∀ d, (s.resetChannelDelay c).chan d
      = if d = c then (s.chan c).setDelay e else s.chan d :=
  ⟨(s.chan c).delay.channelReset (s.chan c).calibration.latency (s.free + (s.chan c).delay.held), rfl,
    fun d => State.modChan_chan s c d fun x => x.setDelay
      ((s.chan c).delay.channelReset (s.chan c).calibration.latency (s.free + (s.chan c).delay.held))⟩

theorem State.resetChannelDelay_cues : (s.resetChannelDelay c).cues = s.cues := rfl

/-- The latches and the cues of a channel cleared, before its blocks are reset. -/
theorem State.cleared_chan (d : Channel) : ((s.clearLatches c).freeCues c).chan d = s.chan d := by
  have same : ∀ t : State, (t.freeCues c).chan d = t.chan d := fun _ => rfl
  rw [same, State.chan_of_channels (State.clearLatches_channels s c)]

theorem State.cleared_window :
    ((s.clearLatches c).freeCues c).windowAfterReset c = s.windowAfterReset c := by
  have same : ∀ t : State, (t.freeCues c).gpis = t.gpis := fun _ => rfl
  exact State.windowAfterReset_congr (s.cleared_chan c c)
    ((same _).trans (State.clearLatches_gpis s c))

/-- The scheduler, window and counts of a channel reset, before its delay line and calibration unit are. -/
def State.resetBlocks (t : State) (w : Window) : State :=
  t.modChan c fun x => ((x.setScheduler x.scheduler.channelReset).setWindow w).setSync
    { x.sync with repeats := 0, drops := 0 }

theorem State.resetOne_eq : s.resetOne c
    = (((State.resetBlocks c ((s.clearLatches c).freeCues c)
        (((s.clearLatches c).freeCues c).windowAfterReset c)).resetChannelDelay c).abortRun c) := rfl

theorem State.resetOne_chan : ∃ e : DelayLine,
    e.slewInterval = (s.chan c).delay.slewInterval ∧ ∀ d, (s.resetOne c).chan d
      = if d = c then (s.chan c).channelReset (s.windowAfterReset c) e else s.chan d := by
  have blocks : ∀ (t : State) w d, (t.resetBlocks c w).chan d = if d = c
      then ((((t.chan c).setScheduler (t.chan c).scheduler.channelReset).setWindow w).setSync
        { (t.chan c).sync with repeats := 0, drops := 0 }) else t.chan d :=
    fun t w d => State.modChan_chan ..
  obtain ⟨e, slew, delayed⟩ := (State.resetBlocks c ((s.clearLatches c).freeCues c)
    (((s.clearLatches c).freeCues c).windowAfterReset c)).resetChannelDelay_chan c
  refine ⟨e, ?_, fun d => ?_⟩
  · rw [slew, blocks, if_pos rfl, State.cleared_chan]
    rfl
  · rw [State.resetOne_eq, State.abortRun_chan, delayed, delayed, if_pos rfl, blocks, blocks, if_pos rfl,
      State.cleared_chan, State.cleared_chan, State.cleared_window]
    split
    · rfl
    · rfl

theorem State.resetOne_chan_ne {d : Channel} (h : d ≠ c) : (s.resetOne c).chan d = s.chan d := by
  obtain ⟨e, -, he⟩ := s.resetOne_chan c
  rw [he, if_neg h]

theorem State.resetOne_slot (i : SlotIx) : (s.resetOne c).slot i
    = if (s.cue i).map (·.channel) = some c then { s.slot i with cue := none } else s.slot i := by
  have blocks : ∀ (t : State) w, (t.resetBlocks c w).cues = t.cues := fun _ _ => rfl
  have cleared : (s.clearLatches c).cues = s.cues := State.clearLatches_cues s c
  rw [State.resetOne_eq, State.slot_of_cues (State.abortRun_cues ..),
    State.slot_of_cues (State.resetChannelDelay_cues ..), State.slot_of_cues (blocks ..), State.freeCues_slot,
    State.slot_of_cues cleared, State.cue_of_cues cleared]

theorem State.resetOne_cue (i : SlotIx) : (s.resetOne c).cue i
    = if (s.cue i).map (·.channel) = some c then none else s.cue i := by
  rw [State.cue, State.resetOne_slot]
  split <;> rfl

end

/-! ## One thing done to each channel -/

/-- What one thing done to each channel makes of a channel, when it touches its own channel alone: what it does there,
from a state that has gone through some of the others. -/
theorem eachChannel_chan {f : Channel → State → State} {R : State → State → Prop} (refl : ∀ s, R s s)
    (trans : ∀ s t u, R s t → R t u → R s u) (step : ∀ c s, R s (f c s))
    (others : ∀ c (s : State) d, d ≠ c → (f c s).chan d = s.chan d) (s : State) (c : Channel) :
    ∃ t, R s t ∧ t.chan c = s.chan c ∧ (s.eachChannel f).chan c = (f c t).chan c := by
  have walk : ∀ (l : List Channel), l.Nodup → ∀ s : State, (c ∉ l → R s (l.foldl (fun t d => f d t) s)
      ∧ (l.foldl (fun t d => f d t) s).chan c = s.chan c) ∧ (c ∈ l → ∃ t, R s t ∧ t.chan c = s.chan c
        ∧ (l.foldl (fun t d => f d t) s).chan c = (f c t).chan c) := by
    intro l
    induction l with
    | nil => exact fun _ s => ⟨fun _ => ⟨refl s, rfl⟩, fun h => by simp at h⟩
    | cons d l ih =>
      intro nodup s
      obtain ⟨fresh, nodup⟩ := List.nodup_cons.1 nodup
      obtain ⟨out, within⟩ := ih nodup (f d s)
      by_cases hd : c = d
      · subst hd
        exact ⟨fun h => by simp at h, fun _ => ⟨s, refl s, rfl, (out fresh).2⟩⟩
      · refine ⟨fun h => ?_, fun h => ?_⟩
        · obtain ⟨r, same⟩ := out fun hl => h (by simp [hl])
          exact ⟨trans _ _ _ (step d s) r, same.trans (others d s c hd)⟩
        · obtain ⟨t, r, same, result⟩ := within (by simpa [hd] using h)
          exact ⟨t, trans _ _ _ (step d s) r, same.trans (others d s c hd), result⟩
  have all : ∀ c : Channel, c ∈ Channel.all := by decide
  exact (walk Channel.all (by decide) s).2 (all c)

/-- Every channel reset leaves each as its own reset does (R193). -/
theorem State.resetAll_chan (s : State) (c : Channel) : ∃ e : DelayLine,
    e.slewInterval = (s.chan c).delay.slewInterval ∧ (s.eachChannel fun c u => u.resetOne c).chan c
      = (s.chan c).channelReset (s.windowAfterReset c) e := by
  obtain ⟨t, inner, same, result⟩ := eachChannel_chan (f := fun c u => u.resetOne c) (R := State.Inner)
    State.Inner.refl (fun _ _ _ => .trans) (fun c t => .resetOne t c)
    (fun c t d h => t.resetOne_chan_ne c h) s c
  obtain ⟨-, gpis, -, -⟩ := inner
  obtain ⟨e, slew, reset⟩ := t.resetOne_chan c
  exact ⟨e, by rw [slew, same], by rw [result, reset, if_pos rfl, same, State.windowAfterReset_congr same gpis]⟩

/-- Every channel reset frees every slot of the pool, and keeps the generations (R51). -/
theorem State.resetAll_slot (s : State) (i : SlotIx) :
    (s.eachChannel fun c u => u.resetOne c).slot i = { s.slot i with cue := none } := by
  have walk : ∀ (l : List Channel) (s : State), (l.foldl (fun t c => t.resetOne c) s).slot i
      = if ∃ c ∈ l, (s.cue i).map (·.channel) = some c then { s.slot i with cue := none }
        else s.slot i := by
    intro l
    induction l with
    | nil => simp
    | cons d l ih =>
      intro s
      rw [List.foldl_cons, ih, State.resetOne_cue, State.resetOne_slot]
      by_cases hd : (s.cue i).map (·.channel) = some d
      · have met : ∃ c ∈ d :: l, (s.cue i).map (·.channel) = some c := ⟨d, by simp, hd⟩
        rw [if_pos hd, if_pos hd, if_pos met]
        split <;> rfl
      · have later : (∃ c ∈ d :: l, (s.cue i).map (·.channel) = some c)
            ↔ ∃ c ∈ l, (s.cue i).map (·.channel) = some c := by
          simp only [List.mem_cons, or_and_right, exists_or, exists_eq_left]
          exact or_iff_right hd
        rw [if_neg hd, if_neg hd]
        exact if_congr later.symm rfl rfl
  refine (walk Channel.all s).trans ?_
  have all : ∀ c : Channel, c ∈ Channel.all := by decide
  split
  · rfl
  · rename_i free
    have none : s.cue i = none := by
      cases live : s.cue i with
      | none => rfl
      | some k => exact absurd ⟨k.channel, all _, by simp [live]⟩ free
    show s.slot i = { s.slot i with cue := Option.none }
    rw [← none]
    rfl

theorem State.formatted_slot (s : State) (f : Format) (i : SlotIx) :
    (s.formatted f).slot i = { s.slot i with cue := none } := by
  have put : ∀ t : State, (t.putFormat f).cues = t.cues := fun _ => rfl
  rw [State.formatted, State.slot_of_cues (put _), State.resetAll_slot]

theorem State.resetAll_format (s : State) : (s.eachChannel fun c u => u.resetOne c).format = s.format := by
  have inner : s.Inner (s.eachChannel fun c u => u.resetOne c) := .eachChannel (fun c t => .resetOne t c) s
  exact congrArg Timing.format inner.1

theorem State.formatted_channel (s : State) (f : Format) (c : Channel) : ∃ e : DelayLine,
    e.slewInterval = (s.chan c).delay.slewInterval ∧ (s.formatted f).chan c
      = ((s.chan c).channelReset (s.windowAfterReset c) e).formatSet s.format f := by
  obtain ⟨e, slew, reset⟩ := s.resetAll_chan c
  exact ⟨e, slew, by rw [State.formatted_chan, reset, State.resetAll_format]⟩

end Sys2Proof.Machine
end

section
/-! PROOFS. What every step keeps of the plan: the cue pool and its lists, the records, the clocks and the outcome
rings. -/

namespace Sys2Proof.Machine

open Sys2Proof

/-! ## The resets -/

theorem resetOne_plan {s : State} (sound : s.PlanSound) (c : Channel) : (s.resetOne c).PlanSound := by
  obtain ⟨lists, generations⟩ := s.cuesSound_iff.1 sound.cues
  obtain ⟨e, -, chan⟩ := s.resetOne_chan c
  have clock : ∀ d, ((s.resetOne c).chan d).clock = (s.chan d).clock := by
    intro d
    rw [chan]
    split
    · rename_i hd; subst hd; rfl
    · rfl
  have cue := s.resetOne_cue c
  have day : ∀ d, (s.resetOne c).day d = s.day d := fun d =>
    State.day_of (congrArg Timing.format (State.Inner.resetOne s c).1) (congrArg CueClock.dropMode (clock d))
  refine ⟨(State.cuesSound_iff _).2 ⟨fun d => ?_, fun i => ?_⟩, fun i k hk => ?_,
    clocksSound_of_same sound.clocks day clock, fun d => ?_⟩
  · rw [chan]
    split
    · rename_i hd
      subst hd
      refine Listed.empty fun i k hk => ?_
      rw [cue] at hk
      split at hk
      · cases hk
      · rename_i other
        intro channel
        rw [Option.mem_def] at hk
        exact other (by rw [hk, Option.map_some, channel])
    · rename_i hd
      refine (lists d).own fun i => ?_
      rw [cue]
      split
      · rename_i own
        refine .inr ⟨fun k hk => ?_, by simp⟩
        rw [Option.mem_def] at hk
        rw [hk] at own
        cases own
        exact Ne.symm hd
      · exact .inl rfl
  · rw [State.resetOne_slot, cue]
    split
    · exact ⟨(generations i).1, by simp⟩
    · exact generations i
  · rw [cue] at hk
    rw [day]
    split at hk
    · cases hk
    · exact sound.records i k hk
  · rw [chan]
    split
    · rename_i hd
      subst hd
      exact ⟨by simp [ChannelState.channelReset, Scheduler.channelReset, resetScheduler],
        by simp [ChannelState.channelReset, Scheduler.channelReset, resetScheduler]⟩
    · exact sound.rings d

/-- With no cue, no entry on a list and no record kept the plan is sound as the clocks are. -/
theorem State.PlanSound.empty {s : State} (cue : ∀ i, s.cue i = none)
    (generation : ∀ i, (s.slot i).generation ≤ 255)
    (scheduler : ∀ c, (s.chan c).scheduler.timed = [] ∧ (s.chan c).scheduler.contact = []
      ∧ (s.chan c).scheduler.ring = [] ∧ (s.chan c).scheduler.total = 0)
    (clocks : s.ClocksSound) : s.PlanSound := by
  refine ⟨(State.cuesSound_iff _).2 ⟨fun c => ?_, fun i => ?_⟩, fun i k hk => ?_, clocks, fun c => ?_⟩
  · obtain ⟨timed, contact, -, -⟩ := scheduler c
    rw [timed, contact]
    exact Listed.empty fun i k hk => by simp [cue] at hk
  · exact ⟨generation i, by simp [cue]⟩
  · simp [cue] at hk
  · obtain ⟨-, -, ring, total⟩ := scheduler c
    rw [ring, total]
    decide

theorem CueClock.formatSet_sound (k : CueClock) {day : Nat} (pos : 0 < day) : k.formatSet.Sound day := by
  unfold CueClock.formatSet
  split
  · rename_i source
    exact ⟨pos, by simp, by simp, by simp [source]⟩
  · exact ⟨pos, by simpa using pos, by simp, fun _ => rfl⟩

theorem resetClock_sound {day : Nat} (pos : 0 < day) : resetClock.Sound day :=
  ⟨pos, by simp [resetClock], by simp [resetClock], by simp [resetClock]⟩

theorem formatted_plan {s : State} (sound : s.PlanSound) (f : Format) : (s.formatted f).PlanSound := by
  obtain ⟨-, generations⟩ := s.cuesSound_iff.1 sound.cues
  have slot := s.formatted_slot f
  refine .empty (fun i => ?_) (fun i => ?_) (fun c => ?_) fun c => ?_
  · exact congrArg CueSlot.cue (slot i)
  · rw [slot]; exact (generations i).1
  · obtain ⟨e, -, chan⟩ := s.formatted_channel f c
    rw [chan]
    exact ⟨rfl, rfl, rfl, rfl⟩
  · obtain ⟨e, -, chan⟩ := s.formatted_channel f c
    rw [chan]
    exact CueClock.formatSet_sound _ (dayLength_pos _ _)

theorem State.PlanSame.resumeSignals (s : State) (present : Channel → Bool) :
    s.PlanSame (s.resumeSignals present) := by
  refine .eachChannel (fun c t => ?_) s
  split
  · exact .of_frames (by simp) (by simp) (by simp) (by simp)
  · exact .refl t

theorem setFormat_plan {s : State} (sound : s.PlanSound) (f : Format) : (s.setFormat f).PlanSound := by
  have posted : (s.formatted f).PlanSame
      (((s.formatted f).postClockChanges s (s.formatted f)).postAll .referenceChange) := by
    refine .trans (t := (s.formatted f).postClockChanges s (s.formatted f)) ?_ (.postAll _ _)
    refine .eachChannel (fun c v => ?_) _
    split
    · exact .refl v
    · exact .postAll v _
  rw [State.setFormat_eq]
  exact (State.PlanSame.resumeSignals _ _).sound (posted.sound (formatted_plan sound f))

/-- A state whose channels are as a reset leaves them, apart from the streams, and whose pool is empty. -/
theorem planSound_reset {s : State} (cue : ∀ i, s.cue i = none)
    (generation : ∀ i, (s.slot i).generation ≤ 255)
    (clock : ∀ c, (s.chan c).clock = resetClock)
    (scheduler : ∀ c, (s.chan c).scheduler = resetScheduler 10) : s.PlanSound := by
  refine .empty cue generation (fun c => ?_) fun c => ?_
  · rw [scheduler]; exact ⟨rfl, rfl, rfl, rfl⟩
  · rw [clock]; exact resetClock_sound (dayLength_pos _ _)

theorem resetDevice_plan {s : State} (sound : s.PlanSound) : s.resetDevice.PlanSound := by
  obtain ⟨-, generations⟩ := s.cuesSound_iff.1 sound.cues
  unfold State.resetDevice
  refine (State.PlanSame.resumeSignals _ _).sound (planSound_reset (fun i => ?_) (fun i => ?_) (fun c => ?_)
    fun c => ?_)
  · simp [State.cue, State.slot, CueSlot.freed]
  · simpa [State.slot, CueSlot.freed] using (generations i).1
  · simp [State.chan, ChannelState.deviceReset, resetChannel]
  · simp [State.chan, ChannelState.deviceReset, resetChannel]

theorem State.powerOn_slot (straps : Straps) (i : SlotIx) :
    (State.powerOn straps).slot i = { generation := 0, cue := none } := by
  simp [State.powerOn, State.slot]

theorem powerOn_planSound (straps : Straps) : (State.powerOn straps).PlanSound := by
  refine planSound_reset (fun i => ?_) (fun i => ?_) (fun c => ?_) fun c => ?_
  · rw [State.cue, State.powerOn_slot]
  · rw [State.powerOn_slot]; decide
  · rw [State.powerOn_chan]; rfl
  · rw [State.powerOn_chan]; rfl

theorem powerOn_plan (s : State) (straps : Straps) :
    (((s.keepSignals (State.powerOn straps)).setPending s.pending).resumeSignals
      fun c => (s.chan c).sync.signal).PlanSound := by
  have kept : (State.powerOn straps).PlanSame (s.keepSignals (State.powerOn straps)) :=
    .of_frames rfl rfl (fun c => by rw [State.keepSignals_chan]; rfl)
      fun c => by rw [State.keepSignals_chan]; rfl
  have queued : ∀ t : State, t.PlanSame (t.setPending s.pending) := fun t =>
    .of_frames rfl rfl (fun _ => rfl) fun _ => rfl
  exact (State.PlanSame.resumeSignals _ _).sound
    ((queued _).sound (kept.sound (powerOn_planSound straps)))

/-! ## The requests -/

theorem clockPreset_plan {s : State} (sound : s.PlanSound) (ch : Byte) (label : LabelBytes) :
    (clockPreset ch label s).1.PlanSound := by
  unfold clockPreset
  split
  · exact sound
  · rename_i c _
    split
    · exact sound
    · rename_i n read
      split
      · exact sound
      · obtain ⟨value, last, -, valid⟩ := sound.clocks c
        exact modClock_plan sound c (f := fun x => x.setClock { x.clock with pendingPreset := some n })
          (fun _ => rfl) (fun _ => rfl) (fun _ => rfl) (fun _ => rfl) rfl
          ⟨value, last, by simpa using State.readLabel_lt read, valid⟩

theorem suppress_plan {s : State} (sound : s.PlanSound) (p : PortId) (mask action : Byte) :
    (suppress p mask action s).1.PlanSound := by
  have done : ∀ m : Bank 4 Bool, s.PlanSame (s.eachChannel fun c t =>
      if m.pick c then t.suppressChannel p action.toNat c else t) := by
    refine fun m => .eachChannel (fun c t => ?_) s
    split
    · exact .of_frames (by simp) (by simp) (by simp) (by simp)
    · exact .refl t
  unfold Machine.suppress
  split
  · exact sound
  · split
    · exact sound
    · split
      · exact sound
      · exact (done _).sound sound

theorem windowSet_plan {s : State} (sound : s.PlanSound) (ch direction : Byte) (duration : Half)
    (flag preset : Byte) : (windowSet ch direction duration flag preset s).1.PlanSound := by
  unfold windowSet
  split
  · dsimp only
    split
    · split
      · exact sound
      · split
        · exact sound
        · dsimp only; exact windowIn_plan sound _ _ _
    · split
      · exact State.PlanSame.sound (.of_frames (by simp) (by simp) (by simp) (by simp)) sound
      · dsimp only; exact windowIn_plan sound _ _ _
  · exact sound

theorem layoutSelect_plan {s : State} (sound : s.PlanSound) (ch preset : Byte) (duration : Half) :
    (layoutSelect ch preset duration s).1.PlanSound := by
  unfold layoutSelect
  split
  · exact takeLayout_plan sound _ _ _ _
  · exact sound

/-- The requests that leave the plan alone. -/
theorem requestOwner_planSame (s : State) (p : PortId) {r : Request}
    (other : match r with
      | .cueAdd _ | .cueModify _ _ | .cueDelete _ | .cueSkipNext _ | .cueClear _ _ | .cueHold _ _
      | .suppress _ _ | .clockPreset _ _ | .channelConfig _ _ | .channelReset _ | .formatSet _
      | .windowSet _ _ _ _ _ | .layoutSelect _ _ _ => False
      | _ => True) : s.PlanSame (requestOwner p r s).1 := by
  cases r
  case cueAdd | cueModify | cueDelete | cueSkipNext | cueClear | cueHold | suppress | clockPreset
    | channelConfig | channelReset | formatSet | windowSet | layoutSelect => exact other.elim
  all_goals
    simp only [requestOwner, statusRead, attentionRead, attentionMask, syncStatsRead, cueListRead,
      outcomeRead, presetWrite, presetRead, spanSet, spanRead, lagSet, boothLatencySet, calibrate,
      gpiBind, tallySet, configRead]
    repeat' split
    all_goals refine .of_frames (by simp) (by simp) (fun c => ?_) fun c => ?_
    all_goals simp [State.modChan_chan]
    all_goals split
    all_goals simp_all

theorem requestOwner_plan {s : State} (sound : s.PlanSound) (p : PortId) (r : Request) :
    (requestOwner p r s).1.PlanSound := by
  cases r
  case cueAdd f => exact cueAdd_plan sound p f
  case cueModify h f => exact cueModify_plan sound p h f
  case cueDelete h => exact cueDelete_plan sound p h
  case cueSkipNext ch => exact cueSkipNext_plan sound ch
  case cueClear ch scope => exact cueClear_plan sound p ch scope
  case cueHold mask action => exact (cueHold_plan p mask action).sound sound
  case suppress mask action => exact suppress_plan sound p mask action
  case clockPreset ch label => exact clockPreset_plan sound ch label
  case channelConfig ch f =>
    obtain same | ⟨c, k, -, -, stored⟩ := channelConfig_cases ch f s
    · simp only [requestOwner]; rwa [same]
    · simp only [requestOwner]; rw [stored]; exact configure_plan sound c k
  case channelReset ch =>
    obtain same | ⟨c, reset⟩ := channelReset_cases ch s
    · simp only [requestOwner]; rwa [same]
    · simp only [requestOwner]; rw [reset]; exact resetOne_plan sound c
  case formatSet f =>
    obtain same | ⟨f', set⟩ := formatSet_cases f s
    · simp only [requestOwner]; rwa [same]
    · simp only [requestOwner]; rw [set]; exact setFormat_plan sound f'
  case windowSet ch direction duration flag preset => exact windowSet_plan sound ch direction duration flag preset
  case layoutSelect ch preset duration => exact layoutSelect_plan sound ch preset duration
  all_goals exact (requestOwner_planSame s p (by simp)).sound sound

/-! ## The step -/

theorem pictureStart_planSame (s : State) (c : Channel) (now : Nat) (fresh : Bool) : s.PlanSame
    ((if fresh then
      (s.modChan c fun x => x.setSync x.sync.discard).setLock c .acquiring .windowFirst
      else s.modChan c fun x => x.setSync x.sync.discard).modChan c
        fun x => x.setSync (x.sync.measureStart s.format now fresh).beginWrite) := by
  have synced : ∀ (t : State) (f : ChannelState → Synchroniser),
      t.PlanSame (t.modChan c fun x => x.setSync (f x)) := fun t f =>
    .modChan t c (fun _ => rfl) (fun _ => rfl) (fun _ => rfl) (fun _ => rfl) fun _ => rfl
  have locked : ∀ t : State, t.PlanSame (t.setLock c .acquiring .windowFirst) := fun t =>
    .of_frames (by simp) (by simp) (by simp) (by simp)
  refine .trans ?_ (synced _ fun x => (x.sync.measureStart s.format now fresh).beginWrite)
  split
  · exact (synced s _).trans (locked _)
  · exact synced s _

theorem State.Event.planSound {s t : State} (event : s.Event t) (sound : s.PlanSound) : t.PlanSound := by
  have timed : ∀ k : Timing, k.format = s.timing.format → (s.setTiming k).PlanSound := fun k h =>
    State.PlanSame.sound (.setTiming s h) sound
  have synced : ∀ c (f : ChannelState → Synchroniser), s.PlanSame (s.modChan c fun x => x.setSync (f x)) :=
    fun c f => .modChan s c (fun _ => rfl) (fun _ => rfl) (fun _ => rfl) (fun _ => rfl) fun _ => rfl
  cases event
  case stay => exact sound
  case powerOn straps => exact powerOn_plan s straps
  case judge now => exact (State.PlanSame.setReference s (s.timing.judge_format now)).sound sound
  case timeout locked => exact (State.PlanSame.setReference s s.timing.free_format).sound sound
  case frame now inputs order =>
    have done : ((frameOrder order).foldl (State.frameTask inputs) s.relock).PlanSound :=
      List.foldlRecOn (motive := State.PlanSound) _ _ ((State.PlanSame.relock s).sound sound)
        fun u h k _ => frameTask_plan h inputs k
    have began : ∀ u : State, u.PlanSame (u.setTiming (u.timing.begin now)) := fun u => .setTiming u rfl
    exact (began _).sound done
  case relockEnd => exact (State.PlanSame.relock s).sound sound
  case expire c source =>
    have expired := CueClock.Sound.expire (sound.clocks c) source
    exact reportClock_plan sound c (new := (s.chan c).clock.expire) _ rfl expired
  case applyPreset c order n pending =>
    have preset := CueClock.Sound.preset (sound.clocks c) pending
    exact deliverReport_plan (reportClock_plan sound c (new := (s.chan c).clock.preset n) _ rfl preset) c order
  case blank => exact timed _ rfl
  case period contacts order =>
    have begun := timed s.timing.nextPeriod rfl
    exact List.foldlRecOn (motive := State.PlanSound) _ _
      begun fun u h k _ => periodTask_plan h contacts _ k
  case advanceRamp c => exact (State.PlanSame.setWindow s c _).sound sound
  case advanceMove c => exact (State.PlanSame.setWindow s c _).sound sound
  case takePending c => exact (State.PlanSame.setWindow s c _).sound sound
  case sampleGpi g v edges => exact sampleGpi_plan sound g v edges
  case pictureStart c now fresh => exact (pictureStart_planSame s c now fresh).sound sound
  case request p r => exact requestOwner_plan sound p r
  case resetDevice => exact resetDevice_plan sound
  case signalDown c => exact (synced c _).sound sound
  case signalAbsent c =>
    have locked : ∀ u : State, u.PlanSame (u.setLock c .absent .windowFirst) := fun u =>
      .of_frames (by simp) (by simp) (by simp) (by simp)
    exact (locked _).sound ((synced c _).sound sound)
  all_goals exact State.PlanSame.sound (s := s) (.of_frames (by simp) (by simp) (by simp) (by simp)) sound

/-- Settles O58: the ports' own acts leave the plan alone, and every event keeps it. -/
theorem planKept : Obligations.PlanKept := by
  intro s t cues records clocks rings h
  have kept : t.PlanSound := by
    refine step_keeps (P := State.PlanSound) ?_ ?_ (fun _ _ event => event.planSound) h
      ⟨cues, records, clocks, rings⟩
    · exact fun s q sound =>
        State.PlanSame.sound (s := s) (.of_frames rfl rfl (fun _ => rfl) fun _ => rfl) sound
    · intro a b act sound
      rw [act.same]
      exact State.PlanSame.sound (s := a) (.of_frames rfl rfl (fun _ => rfl) fun _ => rfl) sound
  exact ⟨kept.cues, kept.records, kept.clocks, kept.rings⟩

end Sys2Proof.Machine
end

section
/-! PROOFS. The invariants hold after power-on reset (R7, R19, R51, R79, R91, R135, R152, R167, R178, R195). -/

namespace Sys2Proof.Machine

open Sys2Proof

section
variable (straps : Straps)

theorem State.powerOn_gpi (g : GpiIx) : (State.powerOn straps).gpi g = resetGpi := by
  simp [State.powerOn, State.gpi]

theorem State.powerOn_tally (k : TallyIx) : (State.powerOn straps).tally k = resetTally := by
  simp [State.powerOn, State.tally]

/-- An input that is bound to nothing raises no level. -/
theorem contactLevel_unbound {s : State} (unbound : ∀ g, (s.gpi g).mode = .none) {m : GpiMode}
    (h : m ≠ .none) (c : Channel) : s.contactLevel m c = false := by
  simp only [State.contactLevel, unbound, List.any_eq_false]
  intro g _
  simp [Ne.symm h]

theorem State.powerOn_contactLevel {m : GpiMode} (h : m ≠ .none) (c : Channel) :
    (State.powerOn straps).contactLevel m c = false :=
  contactLevel_unbound (fun g => by rw [State.powerOn_gpi]; rfl) h c

theorem powerOn_poolSound : (State.powerOn straps).PoolSound := by
  have delay : ∀ c, ((State.powerOn straps).chan c).delay = resetDelay 25 := fun c => by
    rw [State.powerOn_chan]; rfl
  refine ⟨?_, fun c => ?_⟩
  · simp only [delay]
    rfl
  · rw [delay]
    decide

theorem resetWindow_sound (x : Preset) (fade : Nat) : (resetWindow x fade).Sound := by
  refine ⟨⟨fun _ => rfl, ?_, ?_, ?_⟩, ?_, fun _ => ⟨rfl, rfl⟩, ?_⟩ <;>
    simp [resetWindow, Window.effectiveOn]

theorem powerOn_windowsSound : (State.powerOn straps).WindowsSound := fun c => by
  rw [State.powerOn_chan]
  exact resetWindow_sound _ 12

theorem powerOn_levelsFollowed : (State.powerOn straps).LevelsFollowed := fun c => by
  rw [State.powerOn_contactLevel straps (by simp), State.powerOn_contactLevel straps (by simp),
    State.powerOn_chan]
  exact ⟨rfl, rfl, rfl, rfl, rfl⟩

theorem defaultLayout_fitted (f : Format) : (defaultLayout f).Fitted f := by
  cases f <;> decide

theorem powerOn_layoutsFitted : (State.powerOn straps).LayoutsFitted := fun c => by
  have fitted := defaultLayout_fitted (formatOfStrap straps.fmt)
  have format : (State.powerOn straps).format = formatOfStrap straps.fmt := rfl
  rw [State.powerOn_chan, format]
  refine ⟨fun i => ?_, fitted, by simp [resetChannel, resetWindow]⟩
  simpa [resetChannel, defaultPresets, defaultPreset] using fitted

theorem powerOn_synchronisersSound : (State.powerOn straps).SynchronisersSound := fun c => by
  rw [State.powerOn_chan]
  exact ⟨.reset 10 .withdraw false, rfl⟩

theorem powerOn_contactsSound : (State.powerOn straps).ContactsSound :=
  ⟨fun g => by rw [State.powerOn_gpi]; exact .reset, fun k => by rw [State.powerOn_tally]; exact .reset⟩

end

/-- Settles O60: block by block, from the reset values. -/
theorem powerOnSound : Obligations.PowerOnSound := by
  intro straps
  have plan := powerOn_planSound straps
  exact ⟨powerOn_poolSound straps, powerOn_windowsSound straps, powerOn_levelsFollowed straps,
    powerOn_layoutsFitted straps, plan.cues, plan.records, plan.clocks, plan.rings,
    powerOn_portsSound straps, powerOn_synchronisersSound straps, powerOn_contactsSound straps,
    Timing.Sound.reset _ _⟩

end Sys2Proof.Machine
end

section
/-! PROOFS. What is posted to the ports (R187), and the reference and its state table (R2, R3, R6). -/

namespace Sys2Proof.Machine

open Sys2Proof

/-! ## Postings (R187) -/

theorem Port.enables_of_unlatched {x y : Port} (h : x.unlatched = y.unlatched) (l : Latch) :
    x.enables l = y.enables l := by
  simp only [Port.enables, Port.mask_of_unlatched h]

theorem Port.Posted.refl (x : Port) : x.Posted x fun _ => False :=
  ⟨rfl, fun l => by simp⟩

theorem Port.Posted.unlatched {x y : Port} {posted : Latch → Prop} (h : x.Posted y posted) :
    y.unlatched = x.unlatched :=
  (Port.unlatched_iff y x).2 h.1

theorem Port.Posted.trans {x y z : Port} {a b : Latch → Prop} (h : x.Posted y a) (g : y.Posted z b) :
    x.Posted z fun l => a l ∨ b l := by
  refine ⟨(Port.unlatched_iff z x).1 (g.unlatched.trans h.unlatched), fun l => ?_⟩
  rw [g.2, h.2, Port.enables_of_unlatched h.unlatched, or_assoc, ← or_and_right]

theorem Port.Posted.congr {x y : Port} {a b : Latch → Prop} (h : x.Posted y a) (same : ∀ l, a l ↔ b l) :
    x.Posted y b :=
  ⟨h.1, fun l => by rw [h.2, same]⟩

theorem Port.Posted.latch {x : Port} {l : Latch} (h : x.enables l = true) :
    x.Posted (x.latch l true) fun k => k = l := by
  refine ⟨rfl, fun k => ?_⟩
  rw [Port.latch_holds]
  by_cases hk : k = l
  · simp [hk, h]
  · simp [hk]

theorem Port.Posted.masked {x : Port} {l : Latch} (h : ¬ x.enables l = true) : x.Posted x fun k => k = l := by
  refine ⟨rfl, fun k => ?_⟩
  by_cases hk : k = l
  · simp [hk, h]
  · simp [hk]

/-- Of equal ports nothing was posted. -/
theorem State.Posted.of_port {s t : State} (h : ∀ q, t.port q = s.port q) : s.Posted t fun _ => False :=
  fun q => by rw [h]; exact .refl _

theorem State.Posted.of_ports {s t : State} (h : t.ports = s.ports) : s.Posted t fun _ => False :=
  .of_port fun q => by simp only [State.port, h]

theorem State.Posted.trans {s t u : State} {a b : Latch → Prop} (h : s.Posted t a) (g : t.Posted u b) :
    s.Posted u fun l => a l ∨ b l :=
  fun q => (h q).trans (g q)

theorem State.Posted.congr {s t : State} {a b : Latch → Prop} (h : s.Posted t a) (same : ∀ l, a l ↔ b l) :
    s.Posted t b :=
  fun q => (h q).congr same

theorem State.Posted.postAll (s : State) (l : Latch) : s.Posted (s.postAll l) fun k => k = l := by
  intro q
  rw [State.postAll_port]
  split
  · rename_i enabled; exact .latch enabled
  · rename_i masked; exact .masked masked

/-- What is posted after the ports were left alone is posted. -/
theorem State.Posted.after {s t u : State} {a : Latch → Prop} (same : t.ports = s.ports)
    (h : t.Posted u a) : s.Posted u a :=
  ((State.Posted.of_ports same).trans h).congr fun _ => by simp

/-- What is posted before the ports are left alone is posted. -/
theorem State.Posted.before {s t u : State} {a : Latch → Prop} (h : s.Posted t a)
    (same : u.ports = t.ports) : s.Posted u a :=
  (h.trans (.of_ports same)).congr fun _ => by simp

/-- A posting that depends on a condition. -/
theorem State.Posted.postIf {p : Prop} [Decidable p] (s : State) (l : Latch) :
    s.Posted (if p then s.postAll l else s) fun k => k = l ∧ p := by
  split
  · rename_i h; exact (State.Posted.postAll s l).congr fun _ => by simp [h]
  · rename_i h; exact (State.Posted.of_ports rfl).congr fun _ => by simp [h]

theorem State.postAll_frame (s : State) (l : Latch) : s.postAll l = { s with ports := (s.postAll l).ports } :=
  rfl

/-! ## The reference (R2, R3, R6) -/

theorem within_iff (nominal tolerance x : Nat) : within nominal tolerance x = true
    ↔ nominal ≤ x + tolerance ∧ x ≤ nominal + tolerance := by
  simp [within]

/-- Whether the interval that a reference frame start ends is good (R2). -/
def Timing.GoodAt (k : Timing) (now : Nat) : Prop :=
  ∃ last, k.lastReference = some last ∧ frameInterval k.format ≤ (now - last) + referenceTolerance k.format
    ∧ now - last ≤ frameInterval k.format + referenceTolerance k.format

theorem Timing.goodAt_iff (k : Timing) (now : Nat) : k.GoodAt now ↔ (k.lastReference.map fun last =>
    within (frameInterval k.format) (referenceTolerance k.format) (now - last)).getD false = true := by
  cases h : k.lastReference with
  | none => simp [Timing.GoodAt, h]
  | some last => simp [Timing.GoodAt, h, within_iff]

section
variable {k : Timing} {now : Nat}

theorem Timing.judge_locked_good (locked : k.reference = .locked) (good : k.GoodAt now) :
    k.judge now = { k with lastReference := some now } := by
  unfold Timing.judge
  dsimp only
  rw [(k.goodAt_iff now).1 good, locked]

theorem Timing.judge_locked_bad (locked : k.reference = .locked) (bad : ¬ k.GoodAt now) :
    k.judge now = { k with
      lastReference := some now, reference := .free, goodIntervals := 0, extending := false } := by
  rw [k.goodAt_iff now, Bool.not_eq_true] at bad
  unfold Timing.judge
  dsimp only
  rw [bad, locked]
  rfl

theorem Timing.judge_free_good (free : k.reference = .free) (good : k.GoodAt now) :
    k.judge now = Timing.countGood { k with lastReference := some now } := by
  unfold Timing.judge
  dsimp only
  rw [(k.goodAt_iff now).1 good, free]

theorem Timing.judge_free_bad (free : k.reference = .free) (bad : ¬ k.GoodAt now) :
    k.judge now = { k with lastReference := some now, goodIntervals := 0 } := by
  rw [k.goodAt_iff now, Bool.not_eq_true] at bad
  unfold Timing.judge
  dsimp only
  rw [bad, free]

end

theorem State.setReference_frame (s : State) (t : Timing) :
    s.setReference t = { s with timing := t, ports := (s.setReference t).ports } := by
  unfold State.setReference
  split
  · rfl
  · exact State.postAll_frame (s.setTiming t) _

theorem State.setReference_posted (s : State) (t : Timing) : s.Posted (s.setReference t)
    fun l => l = .referenceChange ∧ t.reference ≠ s.timing.reference := by
  unfold State.setReference
  split
  · rename_i same
    exact (State.Posted.of_ports rfl).congr fun _ => by simp [same]
  · rename_i other
    exact (State.Posted.after (t := s.setTiming t) rfl (.postAll _ _)).congr fun _ => by simp [other]

theorem referenceFrameStart_table (s : State) (now : Nat) :
    let k := s.timing
    ∃ t, exec (.referenceFrameStart now) s = .next t
      ∧ t = { s with timing := t.timing, ports := t.ports }
      ∧ s.Posted t (fun l => l = .referenceChange ∧ t.timing.reference ≠ k.reference)
      ∧ (k.reference = .locked → k.GoodAt now → t.timing = { k with lastReference := some now })
      ∧ (k.reference = .locked → ¬ k.GoodAt now → t.timing = { k with
          lastReference := some now, reference := .free, goodIntervals := 0, extending := false })
      ∧ (k.reference = .free → k.GoodAt now → k.goodIntervals = 0 → t.timing = { k with
          lastReference := some now, goodIntervals := 1 })
      ∧ (k.reference = .free → k.GoodAt now → 1 ≤ k.goodIntervals → t.timing = { k with
          lastReference := some now, reference := .locked, goodIntervals := k.goodIntervals + 1
          extending := true })
      ∧ (k.reference = .free → ¬ k.GoodAt now → t.timing = { k with
          lastReference := some now, goodIntervals := 0 }) := by
  intro k
  have timing := s.setReference_timing (k.judge now)
  refine ⟨s.setReference (k.judge now), rfl, ?_, ?_, ?_, ?_, ?_, ?_, ?_⟩
  · rw [timing]
    exact s.setReference_frame _
  · rw [timing]
    exact s.setReference_posted _
  all_goals rw [timing]
  · exact Timing.judge_locked_good
  · exact Timing.judge_locked_bad
  · intro free good zero
    rw [Timing.judge_free_good free good, Timing.countGood, if_neg (by simp [zero])]
    simp [zero]
  · intro free good one
    rw [Timing.judge_free_good free good, Timing.countGood, if_pos (by simpa using one)]
  · exact Timing.judge_free_bad

theorem Timing.placement_table (k : Timing) :
    (k.reference = .locked → k.extending = false ∨ k.lastFrameStart = none → k.placement = .atReference)
    ∧ (∀ last, k.reference = .locked → k.extending = true → k.lastFrameStart = some last →
      k.placement = .atReferenceFrom (last + frameInterval k.format))
    ∧ (∀ last, k.reference = .free → k.lastFrameStart = some last →
      k.placement = .atReading (last + (if fractional k.format then 900900 else 1080000)))
    ∧ (k.reference = .free → k.lastFrameStart = none → k.placement = .atOnce) := by
  refine ⟨fun locked free => ?_, fun last locked extending start => ?_, fun last free start => ?_,
    fun free start => ?_⟩
  · cases start : k.lastFrameStart with
    | none => simp [Timing.placement, locked, start]
    | some last => simp_all [Timing.placement]
  · simp [Timing.placement, locked, extending, start]
  · simp only [Timing.placement, free, start]
    rfl
  · simp [Timing.placement, free, start]

/-- Settles O6: the table of R2 row by row, the timeout in both states, and the placements of R3. -/
theorem referenceStateTable : Obligations.ReferenceStateTable := by
  refine ⟨referenceFrameStart_table, fun s locked => ?_, fun s free => ?_, Timing.placement_table⟩
  · refine ⟨s.setReference s.timing.free, ?_, s.setReference_frame _, ?_⟩
    · simp only [exec, execReferenceTimeout, locked, if_true]
    · refine (s.setReference_posted _).congr fun l => ?_
      simp [Timing.free, locked]
  · simp [exec, execReferenceTimeout, free]

end Sys2Proof.Machine
end

section
/-! PROOFS. The output frame start: the order of its parts, and a relock frame (R3, R4, R76, R137 to R139). -/

namespace Sys2Proof.Machine

open Sys2Proof

/-! ## Parts taken in an order -/

/-- A property of what has been taken and of the state reached, kept by every next part, holds at the end. -/
theorem foldl_walk {α β : Type} {f : β → α → β} {P : List α → β → Prop} (l : List α) {b : β} (start : P [] b)
    (step : ∀ done x rest, l = done ++ x :: rest → ∀ u, P done u → P (done ++ [x]) (f u x)) :
    P l (l.foldl f b) := by
  have walk : ∀ rest done, l = done ++ rest → ∀ u, P done u → P l (rest.foldl f u) := by
    intro rest
    induction rest with
    | nil =>
      intro done h u hu
      rw [List.append_nil] at h
      rw [h]
      exact hu
    | cons x rest ih =>
      intro done h u hu
      exact ih (done ++ [x]) (by simp [h]) _ (step done x rest h u hu)
  exact walk l [] rfl b start

/-- Of two entries of a list without repetition the first has been met when the second is reached. -/
theorem mem_of_sublist_pair {α : Type} {a b : α} {done rest : List α} (nodup : (done ++ b :: rest).Nodup)
    (h : [a, b].Sublist (done ++ b :: rest)) : a ∈ done := by
  obtain ⟨-, tail, -⟩ := List.nodup_append.1 nodup
  obtain ⟨absent, -⟩ := List.nodup_cons.1 tail
  obtain ⟨front, back, split, hf, hb⟩ := List.sublist_append_iff.1 h
  cases front with
  | nil =>
    rw [List.nil_append] at split
    subst split
    cases hb with
    | cons _ sub => exact absurd (sub.subset (by simp)) absent
    | cons_cons _ sub => exact absurd (sub.subset (by simp)) absent
  | cons x front =>
    rw [List.cons_append, List.cons.injEq] at split
    rw [split.1]
    exact hf.subset (by simp)

theorem frameOrder_nodup (order : List FrameTask) : (frameOrder order).Nodup :=
  (frameOrder_perm order).nodup_iff.2 (by decide)

theorem mem_frameOrder (order : List FrameTask) (x : FrameTask) : x ∈ frameOrder order := by
  refine (frameOrder_perm order).mem_iff.2 ?_
  cases x <;> rename_i c <;> revert c <;> decide

section
variable {order : List FrameTask} {done rest : List FrameTask}

/-- No part of an output frame start has been taken when its turn comes. -/
theorem frameOrder_fresh {x : FrameTask} (h : frameOrder order = done ++ x :: rest) : x ∉ done := by
  have nodup := frameOrder_nodup order
  rw [h] at nodup
  intro mem
  exact (List.nodup_append.1 nodup).2.2 x mem x (by simp) rfl

theorem frameOrder_cues {c : Channel} (h : frameOrder order = done ++ .cues c :: rest) :
    FrameTask.delay c ∈ done := by
  have nodup := frameOrder_nodup order
  have first := (frameOrder_delay_first order c).1
  rw [h] at nodup first
  exact mem_of_sublist_pair nodup first

theorem frameOrder_spans {c : Channel} (h : frameOrder order = done ++ .spans c :: rest) :
    FrameTask.delay c ∈ done := by
  have nodup := frameOrder_nodup order
  have first := (frameOrder_delay_first order c).2
  rw [h] at nodup first
  exact mem_of_sublist_pair nodup first

end

/-! ## Changes of one channel, one after another -/

theorem State.modChan_modChan (s : State) (c : Channel) (f g : ChannelState → ChannelState) :
    (s.modChan c f).modChan c g = s.modChan c fun x => g (f x) := by
  have channels : ∀ x y, (s.channels.put c x).put c y = s.channels.put c y := fun x y => by
    simp [Bank.put]
  simp only [State.modChan, State.setChan, State.chan, Bank.pick_put_same, channels]

theorem State.inputFrame_congr {s t : State} (format : t.timing.format = s.timing.format)
    (progress : t.timing.frameInProgress = s.timing.frameInProgress) (arrived : List InputFrame) :
    t.inputFrame arrived = s.inputFrame arrived := by
  simp only [State.inputFrame, State.format, format, progress]
  rfl

/-! ## A relock frame (R4) -/

/-- A delay line in a relock frame: the input frame written and the delayed frame read, no slew (R138, R139,
R145). -/
def DelayLine.relockFrame (d : DelayLine) (frame : ProgrammeFrame) : DelayLine :=
  DelayLine.read { d.write frame with kind := .ordinary }

theorem State.frameTask_delay_relock {s : State} (relocking : s.timing.relocking = true)
    (inputs : Bank 4 (List InputFrame)) (c : Channel) : s.frameTask inputs (.delay c)
    = s.modChan c fun x =>
        (x.setReport none).setDelay (x.delay.relockFrame (s.inputFrame (inputs.pick c))) := by
  have delayed : s.delayFrame c (inputs.pick c)
      = s.modChan c fun x => x.setDelay (x.delay.relockFrame (s.inputFrame (inputs.pick c))) := by
    unfold State.delayFrame
    dsimp only
    rw [State.modChan_timing, if_pos relocking, State.modChan_modChan, State.modChan_modChan]
    rfl
  have still : ∀ f, (s.modChan c f).timing.relocking = true := fun _ => relocking
  simp only [State.frameTask, delayed, State.updateClock, still, if_true, State.modChan_modChan]
  rfl

theorem State.reportCues_none {s : State} {c : Channel} (h : (s.chan c).report = none) :
    s.reportCues c = s := by
  simp only [State.reportCues, h]

theorem State.reportSpans_none {s : State} {c : Channel} (h : (s.chan c).report = none) :
    s.reportSpans c = s := by
  simp only [State.reportSpans, h]

theorem Timing.relockStep_relock {t : Timing} (h : 0 < t.relockCount) :
    t.relockStep = { t with relocking := true, relockCount := t.relockCount - 1 } := by
  simp [Timing.relockStep, h]

theorem Timing.relockStep_ordinary {t : Timing} (h : t.relockCount = 0) :
    t.relockStep = { t with relocking := false } := by
  simp [Timing.relockStep, h]

/-- The channels in a relock frame whose parts in `done` have been taken. -/
def State.RelockDone (s : State) (inputs : Bank 4 (List InputFrame)) (done : List FrameTask) (u : State) : Prop :=
  u = { s with timing := s.timing.relockStep, channels := u.channels }
    ∧ ∀ c, u.chan c = if FrameTask.delay c ∈ done
      then ((s.chan c).setReport none).setDelay
        ((s.chan c).delay.relockFrame (s.inputFrame (inputs.pick c)))
      else s.chan c

theorem relockDone_step {s : State} (count : 0 < s.timing.relockCount) {inputs : Bank 4 (List InputFrame)}
    {order done rest : List FrameTask} {x : FrameTask} (h : frameOrder order = done ++ x :: rest) {u : State}
    (reached : s.RelockDone inputs done u) : s.RelockDone inputs (done ++ [x]) (u.frameTask inputs x) := by
  obtain ⟨frame, chan⟩ := reached
  have timing : u.timing = s.timing.relockStep := by rw [frame]
  have silent : ∀ c, FrameTask.delay c ∈ done → (u.chan c).report = none := fun c mem => by
    rw [chan, if_pos mem]
    rfl
  have other : ∀ {y : FrameTask}, (∀ c, FrameTask.delay c ≠ y) → s.RelockDone inputs (done ++ [y]) u :=
    fun hy => ⟨frame, fun c => by rw [chan]; simp [hy c]⟩
  cases x with
  | cues c =>
    rw [State.frameTask, State.reportCues_none (silent c (frameOrder_cues h))]
    exact other (by simp)
  | spans c =>
    rw [State.frameTask, State.reportSpans_none (silent c (frameOrder_spans h))]
    exact other (by simp)
  | delay c =>
    have relocking : u.timing.relocking = true := by rw [timing, Timing.relockStep_relock count]
    have input : u.inputFrame (inputs.pick c) = s.inputFrame (inputs.pick c) := by
      refine State.inputFrame_congr ?_ ?_ _ <;> rw [timing, Timing.relockStep_relock count]
    rw [State.frameTask_delay_relock relocking, input]
    refine ⟨?_, fun d => ?_⟩
    · rw [frame]
      rfl
    · rw [State.modChan_chan]
      by_cases hd : d = c
      · subst hd
        rw [if_pos rfl, if_pos (by simp), chan, if_neg (frameOrder_fresh h)]
      · rw [if_neg hd, chan]
        simp [hd]

theorem relockFrame_result (s : State) (now : Nat) (inputs : Bank 4 (List InputFrame)) (order : List FrameTask)
    (count : 0 < s.timing.relockCount) :
    ∃ t, exec (.outputFrameStart now inputs order) s = .next t
      ∧ t = { s with timing := t.timing, channels := t.channels }
      ∧ t.timing.relockCount = s.timing.relockCount - 1 ∧ t.timing.relocking = true
      ∧ t.timing.lastFrameStart = some now ∧ t.timing.frameInProgress = true
      ∧ t.timing.extending = false ∧ t.timing.firstPeriodDue = true
      ∧ t.timing.blanking = s.timing.blanking ∧ t.timing.relockPeriod = s.timing.relockPeriod
      ∧ t.timing.format = s.timing.format ∧ t.timing.reference = s.timing.reference
      ∧ ∀ c, t.chan c = ((s.chan c).setReport none).setDelay (t.chan c).delay
          ∧ (t.chan c).delay = { (s.chan c).delay with
              ring := (some (s.inputFrame (inputs.pick c)) :: (s.chan c).delay.ring).take
                (s.chan c).delay.held
              kind := .ordinary
              delayed := (t.chan c).delay.frameAt (s.chan c).delay.actual } := by
  have relock : s.relock = s.setTiming s.timing.relockStep := by
    have ends : s.timing.relockEnds = false := by
      simp only [Timing.relockEnds, Bool.and_eq_false_iff, decide_eq_false_iff_not]
      exact .inr (by omega)
    simp only [State.relock, ends]
    rfl
  have start : s.RelockDone inputs [] s.relock := by
    rw [relock]
    exact ⟨rfl, fun c => by simp⟩
  obtain ⟨frame, chan⟩ := foldl_walk (f := State.frameTask inputs) (P := s.RelockDone inputs)
    (frameOrder order) start fun done x rest h u hu => relockDone_step count h hu
  let u := (frameOrder order).foldl (State.frameTask inputs) s.relock
  have timing : (u.setTiming (u.timing.begin now)).timing = (s.timing.relockStep).begin now := by
    show u.timing.begin now = _
    rw [show u.timing = s.timing.relockStep by rw [show u = _ from frame]]
  have final : ∀ c, (u.setTiming (u.timing.begin now)).chan c = ((s.chan c).setReport none).setDelay
      ((s.chan c).delay.relockFrame (s.inputFrame (inputs.pick c))) := fun c => by
    rw [State.setTiming_chan]
    exact (chan c).trans (if_pos (mem_frameOrder order _))
  refine ⟨u.setTiming (u.timing.begin now), rfl, ?_, ?_⟩
  · rw [show u = _ from frame]
    rfl
  · rw [timing, Timing.relockStep_relock count]
    refine ⟨rfl, rfl, rfl, rfl, rfl, rfl, rfl, rfl, rfl, rfl, fun c => ?_⟩
    rw [final]
    exact ⟨rfl, rfl⟩

/-- Settles O7: the relock frame by induction on the parts taken, RELOCK_END from its definition. -/
theorem relockFrames : Obligations.RelockFrames := by
  refine ⟨relockFrame_result, fun s relocking zero => ?_, fun s other => ?_⟩
  · have ends : s.timing.relockEnds = true := by simp [Timing.relockEnds, relocking, zero]
    have relock : s.relock = (s.setTiming { s.timing with relocking := false }).postAll .referenceChange := by
      simp only [State.relock, ends, if_true, Timing.relockStep_ordinary zero]
    refine ⟨s.relock, ?_, ?_, ?_⟩
    · simp only [exec, execRelockEnd, ends, if_true]
    · rw [relock]
      exact State.postAll_frame _ _
    · rw [relock]
      exact State.Posted.after (t := s.setTiming _) rfl (.postAll _ _)
  · have stays : s.timing.relockEnds = false := by
      simp only [Timing.relockEnds, Bool.and_eq_false_iff, decide_eq_false_iff_not]
      exact other.imp id fun h => by omega
    simp [exec, execRelockEnd, stays]

end Sys2Proof.Machine
end

section
/-! PROOFS. The two clock events and CLOCK_PRESET (R14 to R18), and what the taking of a report leaves alone. -/

namespace Sys2Proof.Machine

open Sys2Proof

/-! ## What the taking of a report leaves alone (R18, R139) -/

/-- Between two states no CLOCK_CHANGE latch differs, and no delay line in what it last read and its actual delay. -/
structure State.ReadSame (s t : State) : Prop where
  delayed : ∀ c, (t.chan c).delay.delayed = (s.chan c).delay.delayed
  kind : ∀ c, (t.chan c).delay.kind = (s.chan c).delay.kind
  actual : ∀ c, (t.chan c).delay.actual = (s.chan c).delay.actual
  latch : ∀ q c, (t.port q).holds (.channel .clockChange c) = (s.port q).holds (.channel .clockChange c)

theorem State.ReadSame.refl (s : State) : s.ReadSame s :=
  ⟨fun _ => rfl, fun _ => rfl, fun _ => rfl, fun _ _ => rfl⟩

theorem State.ReadSame.trans {s t u : State} (h : s.ReadSame t) (g : t.ReadSame u) : s.ReadSame u :=
  ⟨fun c => (g.delayed c).trans (h.delayed c), fun c => (g.kind c).trans (h.kind c),
    fun c => (g.actual c).trans (h.actual c), fun q c => (g.latch q c).trans (h.latch q c)⟩

theorem State.ReadSame.foldl {α : Type} {f : State → α → State} (h : ∀ (s : State) a, s.ReadSame (f s a))
    (l : List α) (s : State) : s.ReadSame (l.foldl f s) := by
  induction l generalizing s with
  | nil => exact .refl s
  | cons a l ih => exact (h s a).trans (ih _)

theorem State.ReadSame.modChan (s : State) (c : Channel) {f : ChannelState → ChannelState}
    (delayed : (f (s.chan c)).delay.delayed = (s.chan c).delay.delayed)
    (kind : (f (s.chan c)).delay.kind = (s.chan c).delay.kind)
    (actual : (f (s.chan c)).delay.actual = (s.chan c).delay.actual) : s.ReadSame (s.modChan c f) := by
  have at_ : ∀ {γ : Type} (g : ChannelState → γ), g (f (s.chan c)) = g (s.chan c) →
      ∀ d, g ((s.modChan c f).chan d) = g (s.chan d) := by
    intro γ g h d
    rw [State.modChan_chan]
    split
    · rename_i same; subst same; exact h
    · rfl
  exact ⟨at_ (·.delay.delayed) delayed, at_ (·.delay.kind) kind, at_ (·.delay.actual) actual,
    fun _ _ => rfl⟩

theorem State.ReadSame.setWindow (s : State) (c : Channel) (f : ChannelState → Window) :
    s.ReadSame (s.modChan c fun x => x.setWindow (f x)) := .modChan s c rfl rfl rfl

theorem State.ReadSame.setScheduler (s : State) (c : Channel) (f : ChannelState → Scheduler) :
    s.ReadSame (s.modChan c fun x => x.setScheduler (f x)) := .modChan s c rfl rfl rfl

theorem State.ReadSame.post (s : State) (p : PortId) {l : Latch} (h : ∀ c, l ≠ .channel .clockChange c) :
    s.ReadSame (s.post p l) := by
  refine ⟨fun c => by simp, fun c => by simp, fun c => by simp, fun q c => ?_⟩
  rw [State.post_port]
  split
  · rw [Port.latch_holds, if_neg (h c).symm]
  · rfl

theorem State.ReadSame.postAll (s : State) {l : Latch} (h : ∀ c, l ≠ .channel .clockChange c) :
    s.ReadSame (s.postAll l) := by
  refine ⟨fun c => by simp, fun c => by simp, fun c => by simp, fun q c => ?_⟩
  rw [State.postAll_port]
  split
  · rw [Port.latch_holds, if_neg (h c).symm]
  · rfl

section
variable (s : State) (c : Channel)

theorem State.ReadSame.addOutcome (h : Handle) (a : Action) (o : PortId) (r : Result) :
    s.ReadSame (s.addOutcome c h a o r) := by
  unfold State.addOutcome
  dsimp only
  exact .trans (.setScheduler s c _) (.post _ o (by simp))

theorem State.ReadSame.setSlot (i : SlotIx) (x : CueSlot) : s.ReadSame (s.setSlot i x) :=
  ⟨fun _ => rfl, fun _ => rfl, fun _ => rfl, fun _ _ => rfl⟩

theorem State.ReadSame.removeCue (i : SlotIx) : s.ReadSame (s.removeCue c i) := by
  unfold State.removeCue State.modScheduler
  exact .trans (.setScheduler s c _) (.setSlot _ i _)

theorem State.ReadSame.retire (i : SlotIx) (k : Cue) (r : Result) : s.ReadSame (s.retire c i k r) := by
  unfold State.retire
  exact .trans (.removeCue s c i) (.addOutcome ..)

theorem State.ReadSame.setMember (m : Member) (b : Bool) : s.ReadSame (s.setMember c m b) := by
  unfold State.setMember
  split
  · exact .refl s
  · exact .trans (.setWindow s c _) (.postAll _ (by simp))

theorem State.ReadSame.takeLayout (p : PresetIx) (d : Nat) (cue : Option (Handle × PortId)) :
    s.ReadSame (s.takeLayout c p d cue) := by
  unfold State.takeLayout
  dsimp only
  split
  · split
    · exact .setWindow s c _
    · exact .trans (.setWindow s c _) (.addOutcome ..)
  · exact .setWindow s c _

theorem State.ReadSame.request (on : Bool) (d : Nat) : s.ReadSame (s.request c on d) := .setWindow s c _

theorem State.ReadSame.windowIn (d : Nat) (p : Option PresetIx) : s.ReadSame (s.windowIn c d p) := by
  unfold State.windowIn
  split
  · exact .request s c _ _
  · exact .trans (.takeLayout s c _ _ _) (.request _ c _ _)

theorem State.ReadSame.setFree (n : Nat) : s.ReadSame (s.setFree n) :=
  ⟨fun _ => rfl, fun _ => rfl, fun _ => rfl, fun _ _ => rfl⟩

theorem State.ReadSame.targetEvent : s.ReadSame (s.targetEvent c) := by
  have moved : s.ReadSame (s.modChan c fun y =>
      y.setDelay ((s.chan c).delay.retarget (s.chan c).calibration.latency s.free)) :=
    .modChan s c rfl rfl rfl
  unfold State.targetEvent
  dsimp only
  split
  · exact .trans (moved.trans (.setFree _ _)) (.postAll _ (by simp))
  · exact moved.trans (.setFree _ _)

theorem State.ReadSame.setLag (n : Nat) : s.ReadSame (s.setLag c n) := by
  have set : s.ReadSame (s.modChan c fun x => x.setDelay { x.delay with lag := n }) :=
    .modChan s c rfl rfl rfl
  unfold State.setLag
  exact set.trans (.targetEvent _ c)

theorem State.ReadSame.deliver (h : Handle) (k : Cue) : s.ReadSame (s.deliver c h k) := by
  unfold State.deliver
  split
  · exact .windowIn s c _ _
  · exact .request s c _ _
  · split
    · exact .refl s
    · exact .takeLayout s c _ _ _
  · exact .setLag s c _

theorem State.ReadSame.fireCue (r : Result) (i : SlotIx) : s.ReadSame (s.fireCue c r i) := by
  unfold State.fireCue
  split
  · exact .refl s
  · exact .trans (.retire s c i _ r) (.deliver _ c _ _)

theorem State.ReadSame.missCue (i : SlotIx) : s.ReadSame (s.missCue c i) := by
  unfold State.missCue
  split
  · exact .refl s
  · exact .retire s c i _ _

theorem State.ReadSame.dealPassed (x : Scan) (l : List SlotIx) : s.ReadSame (s.dealPassed c x l) := by
  unfold State.dealPassed
  split
  · exact .foldl (fun t i => .fireCue t c _ i) l s
  · exact .foldl (fun t i => .missCue t c i) l s

theorem State.ReadSame.scanCues (r : StepReport) : s.ReadSame (s.scanCues c r) := by
  unfold State.scanCues
  have fired : ∀ (t : State) (r : Result) (l : List SlotIx),
      t.ReadSame (l.foldl (fun u i => u.fireCue c r i) t) :=
    fun t r l => .foldl (fun u i => .fireCue u c r i) l t
  have dealt := (fired s .firedLate (s.lateCues c)).trans
    (.dealPassed _ c (s.scanOf c r) (s.passedCues c (s.scanOf c r)))
  refine .trans (dealt.trans (fired _ .fired (s.dueCues c (s.scanOf c r)))) ?_
  exact .setScheduler _ c _

theorem State.ReadSame.reportCues : s.ReadSame (s.reportCues c) := by
  unfold State.reportCues
  split
  · exact .refl s
  · unfold State.scheduleCues
    split
    · exact .refl s
    · exact .scanCues s c _

theorem State.ReadSame.setSpanResult (b : Bool) : s.ReadSame (s.setSpanResult c b) := by
  unfold State.setSpanResult
  exact .trans (.setWindow s c _) (.setMember _ c _ _)

theorem State.ReadSame.reportSpans : s.ReadSame (s.reportSpans c) := by
  unfold State.reportSpans
  split
  · exact .refl s
  · unfold State.matchSpans
    split
    · exact .refl s
    · exact .setSpanResult s c _

theorem State.ReadSame.deliverReport (order : ReportOrder) : s.ReadSame (s.deliverReport c order) := by
  cases order
  · exact .trans (.reportCues s c) (.reportSpans _ c)
  · exact .trans (.reportSpans s c) (.reportCues _ c)

end

/-! ## A clock reported (R17, R18, R44) -/

section
variable (s : State) (c : Channel) (new : CueClock) (kind : FrameKind)

theorem State.reportClock_chan : (s.reportClock c new kind).chan c
    = ((((s.chan c).setClock new).setReport (some (stepReport s.format (s.chan c).clock new))).setScheduler
        (s.chan c).scheduler.noteReport) := by
  have moved : ∀ f, (s.modChan c f).chan c = f (s.chan c) := fun f => State.modChan_chan_same ..
  unfold State.reportClock
  dsimp only
  split
  · rw [State.postAll_chan, moved]
  · rw [moved]

theorem State.reportClock_posted : s.Posted (s.reportClock c new kind) fun l => l = .channel .clockChange c
    ∧ clockChanged (s.chan c).clock new (stepReport s.format (s.chan c).clock new) kind = true := by
  unfold State.reportClock
  exact State.Posted.after (t := s.modChan c _) rfl (.postIf _ _)

end

theorem PortSet.isEmpty_iff (h : PortSet) : h.isEmpty = true ↔ h = PortSet.empty := by
  cases h with
  | mk a b c => cases a <;> cases b <;> cases c <;> decide

theorem clockChanged_status {old new : CueClock} (h : old.status ≠ new.status) (r : StepReport)
    (kind : FrameKind) : clockChanged old new r kind = true := by
  simp [clockChanged, h]

theorem freewheelExpired_result (s : State) (c : Channel) (ordinary : s.timing.relocking = false)
    (source : (s.chan c).clock.source = .embedded) (status : (s.chan c).clock.status = .freewheel)
    (spent : (s.chan c).clock.freewheelLimit ≤ (s.chan c).clock.freewheelCount) :
    ∃ t, exec (.freewheelExpired c) s = .next t
       ∧ t = { s with channels := t.channels, ports := t.ports }
       ∧ (∀ d, d ≠ c → t.chan d = s.chan d)
       ∧ t.chan c = (((s.chan c).setClock { (s.chan c).clock with status := .invalid }).setReport
           (t.chan c).report).setScheduler { (s.chan c).scheduler with
             reported := (s.chan c).scheduler.reported
               || decide ((s.chan c).scheduler.hold ≠ PortSet.empty) }
       ∧ ((t.chan c).report.map (·.status)) = some .invalid
       ∧ s.Posted t (fun l => l = .channel .clockChange c) := by
  have due : s.freewheelSpent c = true := by
    simp [State.freewheelSpent, ordinary, source, status, spent]
  have noted : (s.chan c).scheduler.noteReport = { (s.chan c).scheduler with
      reported := (s.chan c).scheduler.reported || decide ((s.chan c).scheduler.hold ≠ PortSet.empty) } := by
    have held : (!(s.chan c).scheduler.hold.isEmpty) = decide ((s.chan c).scheduler.hold ≠ PortSet.empty) := by
      rw [Bool.eq_iff_iff, Bool.not_eq_true', ← Bool.not_eq_true, PortSet.isEmpty_iff, decide_eq_true_iff]
    rw [Scheduler.noteReport, held]
  have chan := s.reportClock_chan c (s.chan c).clock.expire (s.chan c).delay.kind
  refine ⟨s.reportClock c (s.chan c).clock.expire (s.chan c).delay.kind, ?_, ?_, ?_, ?_, ?_, ?_⟩
  · simp only [exec, execFreewheelExpired, due, if_true]
  · unfold State.reportClock
    dsimp only
    split <;> rfl
  · exact fun d hd => State.reportClock_chan_ne _ _ _ _ hd
  · rw [chan, noted]
    rfl
  · rw [chan]
    simp [stepReport, CueClock.expire]
  · refine (s.reportClock_posted c _ _).congr fun l => ?_
    have changed := clockChanged_status (old := (s.chan c).clock) (new := (s.chan c).clock.expire)
      (by simp [status, CueClock.expire])
    simp [changed]

/-! ## Requests answered (R183, R185) -/

theorem State.room_of_bare {s u : State} {p : PortId} {tag : Byte} (same : (u.port p).bare = (s.port p).bare)
    (room : s.Room p tag) : u.Room p tag := by
  have queue : (u.port p).queue = (s.port p).queue := (congrArg Port.queue same : _)
  unfold State.Room
  rw [queue]
  exact room

theorem State.queueReply_replied {u : State} {p : PortId} {tag : Byte} (room : u.Room p tag) (code : Byte)
    (a : Answer) : u.queueReply p (replyTo code tag a) = u.replied p tag code a.code a.payload := by
  rw [State.queueReply_of_room u p tag code a room]
  rfl

section
variable {s u : State} {p : PortId} {tag code : Byte} {r : Request} {i : Instr}
  (command : requestCommand p tag r = i) (number : requestCode r = code) (other : r ≠ .deviceReset)
  (room : s.Room p tag)
include command number other room

/-- A request with room for its reply, from the supervisor where it needs to be, is answered by its owner. -/
theorem exec_replied {completion : Completion} {payload : List Byte}
    (allowed : supervised r = true → (s.port p).supervisor = true)
    (owner : requestOwner p r s = (u, { code := completion, payload := payload })) :
    exec i s = .next (u.replied p tag code completion payload) := by
  subst command number
  have bare : (u.port p).bare = (s.port p).bare := by
    have same := State.PortsSame.requestOwner s p r p
    rwa [owner] at same
  have served : s.serve p tag (requestCode r) (requestOwner p r)
      = u.replied p tag (requestCode r) completion payload := by
    rw [State.serve_of_room s p tag _ _ room, owner]
    exact State.queueReply_replied (State.room_of_bare bare room) _ _
  rw [exec_request other]
  split
  · rename_i needs
    rw [State.serveSupervisor, if_pos (allowed needs), served]
  · rw [served]

/-- A supervisor's request off the supervisor's port is refused (R184). -/
theorem exec_notSupervisor (needs : supervised r = true) (plain : (s.port p).supervisor = false) :
    exec i s = .next (s.replied p tag code .notSupervisor []) := by
  subst command number
  rw [exec_request other, if_pos needs, State.serveSupervisor, if_neg (by simp [plain]),
    State.queueReply_replied room]
  rfl

end

theorem readChannel_none {b : Byte} (h : 4 ≤ b.toNat) : readChannel b = none := by
  simp only [readChannel, dif_neg (show ¬ b.toNat < 4 by omega)]

theorem readChannel_some {b : Byte} {c : Channel} (h : b.toNat = c.val) : readChannel b = some c := by
  have lt := c.isLt
  simp only [readChannel, dif_pos (show b.toNat < 4 by omega), Option.some.injEq]
  exact Fin.ext h

/-! ## CLOCK_PRESET (R15, R16) -/

theorem State.readLabel_of_valid {s : State} {c : Channel} {l : LabelBytes}
    (valid : labelValid s.timing.format (s.chan c).clock.dropMode (labelOfBytes l) = true) :
    s.readLabel c l = some (frameNumber s.timing.format (s.chan c).clock.dropMode (labelOfBytes l)) :=
  if_pos valid

theorem State.readLabel_of_not_valid {s : State} {c : Channel} {l : LabelBytes}
    (h : labelValid s.timing.format (s.chan c).clock.dropMode (labelOfBytes l) = false) :
    s.readLabel c l = none :=
  if_neg (by rw [State.format, State.dropMode, h]; simp)

theorem clockPreset_cases (s : State) (p : PortId) (tag ch : Byte) (label : LabelBytes)
    (room : s.Room p tag) :
     (4 ≤ ch.toNat →
       exec (.clockPreset p tag ch label) s = .next (s.replied p tag 0x33 .badParam []))
     ∧ ∀ c : Channel, ch.toNat = c.val →
       let l := labelOfBytes label
       (labelValid s.timing.format (s.chan c).clock.dropMode l = false →
         exec (.clockPreset p tag ch label) s = .next (s.replied p tag 0x33 .badParam []))
       ∧ (labelValid s.timing.format (s.chan c).clock.dropMode l = true →
           (s.chan c).clock.source = .embedded →
         exec (.clockPreset p tag ch label) s = .next (s.replied p tag 0x33 .notReady []))
       ∧ (labelValid s.timing.format (s.chan c).clock.dropMode l = true →
           (s.chan c).clock.source = .internal →
         exec (.clockPreset p tag ch label) s = .next ((s.setChan c ((s.chan c).setClock
           { (s.chan c).clock with
             pendingPreset := some (frameNumber s.timing.format (s.chan c).clock.dropMode l) }
           )).replied p tag 0x33 .ok [])) := by
  have run : ∀ {u : State} {completion : Completion}, clockPreset ch label s = (u, ⟨completion, []⟩) →
      exec (.clockPreset p tag ch label) s = .next (u.replied p tag 0x33 completion []) := by
    intro u completion owner
    have command : requestCommand p tag (.clockPreset ch label) = .clockPreset p tag ch label := rfl
    have number : requestCode (.clockPreset ch label) = 0x33 := rfl
    have free : supervised (.clockPreset ch label) = true → (s.port p).supervisor = true :=
      fun needs => absurd needs Bool.false_ne_true
    exact exec_replied command number (by simp) room free owner
  refine ⟨fun high => run ?_, fun c hc => ⟨fun wrong => run ?_, fun valid source => run ?_,
    fun valid source => run ?_⟩⟩
  · simp only [clockPreset, readChannel_none high, refuse]
  · simp only [clockPreset, readChannel_some hc, State.readLabel_of_not_valid wrong, refuse]
  · simp only [clockPreset, readChannel_some hc, State.readLabel_of_valid valid, source, if_true, refuse]
  · simp only [clockPreset, readChannel_some hc, State.readLabel_of_valid valid]
    rw [if_neg (by rw [source]; simp)]
    rfl

theorem clockPresetApplied_result (s : State) (c : Channel) (order : ReportOrder) (n : Nat)
    (source : (s.chan c).clock.source = .internal) (pending : (s.chan c).clock.pendingPreset = some n)
    (ordinary : s.timing.relocking = false) :
     ∃ t, exec (.clockPresetApplied c order) s = .next t
       ∧ (t.chan c).clock = { (s.chan c).clock with
           value := n, lastValid := some n, pendingPreset := none }
       ∧ ((s.chan c).clock.status ≠ .invalid →
           (t.chan c).report = some {
             status := (s.chan c).clock.status, value := n, distance := 1, kind := .advance })
       ∧ (∀ q, (s.port q).enables (.channel .clockChange c) = true →
           (t.port q).holds (.channel .clockChange c) = true)
       ∧ t.timing = s.timing ∧ t.gpis = s.gpis ∧ t.tallies = s.tallies ∧ t.pending = s.pending
       ∧ ∀ d, d ≠ c → t.chan d = s.chan d := by
  have chan := s.reportClock_chan c ((s.chan c).clock.preset n) (s.chan c).delay.kind
  refine ⟨(s.reportClock c ((s.chan c).clock.preset n) (s.chan c).delay.kind).deliverReport c order,
    ?_, ?_, ?_, ?_, by simp, by simp, by simp, by simp, fun d hd => by simp [hd]⟩
  · simp only [exec, execClockPresetApplied, source, pending, ordinary]
  · rw [State.deliverReport_chan_clock, chan]
    rfl
  · intro valid
    rw [State.deliverReport_chan_report, chan]
    have one : (s.chan c).clock.setsOne = true := by
      simp [CueClock.setsOne, source, pending]
    have report := stepReport_one (f := s.format) (old := (s.chan c).clock)
      (new := (s.chan c).clock.preset n) (by simpa [CueClock.preset] using valid) one
    simpa [CueClock.preset] using report
  · intro q enabled
    rw [(State.ReadSame.deliverReport _ c order).latch q c]
    have changed : clockChanged (s.chan c).clock ((s.chan c).clock.preset n)
        (stepReport s.format (s.chan c).clock ((s.chan c).clock.preset n)) (s.chan c).delay.kind = true := by
      simp [clockChanged, pending, CueClock.preset]
    exact ((s.reportClock_posted c _ _ q).2 _).2 (.inr ⟨⟨rfl, changed⟩, enabled⟩)

/-- Settles O10: the end of a freewheel, CLOCK_PRESET in its cases, and a pending preset taken. -/
theorem clockEvents : Obligations.ClockEvents :=
  ⟨freewheelExpired_result, clockPreset_cases, clockPresetApplied_result⟩

end Sys2Proof.Machine
end

section
/-! PROOFS. An ordinary output frame start: every channel's clock updated once, whatever the order of the parts (R4,
R13 to R18, R36, R64, R76, R138, R139, R145). -/

namespace Sys2Proof.Machine

open Sys2Proof

/-! ## The delay line's part (R138, R139, R145) -/

/-- A delay line of an ordinary frame after its write and its slew, before it is read; the slew count aside (R138,
R145). -/
def DelayLine.moved (d : DelayLine) (frame : ProgrammeFrame) : DelayLine :=
  if (d.write frame).stepDue then (d.write frame).slewStep else { d.write frame with kind := .ordinary }

theorem State.slewStep_delay (s : State) (c : Channel) :
    ((s.slewStep c).chan c).delay = (s.chan c).delay.slewStep := by
  have stepped : ((s.modChan c fun x => x.setDelay (s.chan c).delay.slewStep).chan c).delay
      = (s.chan c).delay.slewStep := by rw [State.modChan_chan_same]; rfl
  unfold State.slewStep
  dsimp only
  split
  · rw [State.postAll_chan]; exact stepped
  · exact stepped

theorem State.ReadSame.latch_modChan (s : State) (c : Channel) (f : ChannelState → ChannelState) (q : PortId)
    (l : Latch) : ((s.modChan c f).port q).holds l = (s.port q).holds l := rfl

theorem State.slew_latch (s : State) (c : Channel) (q : PortId) (d : Channel) :
    ((s.slew c).port q).holds (.channel .clockChange d) = (s.port q).holds (.channel .clockChange d) := by
  unfold State.slew
  dsimp only
  split
  · unfold State.slewStep
    dsimp only
    split
    · rw [(State.ReadSame.postAll _ (by simp)).latch]
      rfl
    · rfl
  · rfl

section
variable {s : State} (ordinary : s.timing.relocking = false) (c : Channel) (arrived : List InputFrame)
include ordinary

theorem State.delayFrame_ordinary : s.delayFrame c arrived = ((s.modChan c fun x =>
    x.setDelay (x.delay.write (s.inputFrame arrived))).slew c).modChan c fun x => x.setDelay x.delay.read := by
  unfold State.delayFrame
  dsimp only
  rw [if_neg (by rw [State.modChan_timing, ordinary]; simp)]

theorem State.delayFrame_read :
    let moved := (s.chan c).delay.moved (s.inputFrame arrived)
    ((s.delayFrame c arrived).chan c).delay.delayed = moved.frameAt moved.actual
      ∧ ((s.delayFrame c arrived).chan c).delay.kind = moved.kind
      ∧ ((s.delayFrame c arrived).chan c).delay.actual = moved.actual := by
  intro moved
  have written : ((s.modChan c fun x => x.setDelay (x.delay.write (s.inputFrame arrived))).chan c).delay
      = (s.chan c).delay.write (s.inputFrame arrived) := by rw [State.modChan_chan_same]; rfl
  have slewed : ∃ n, ((((s.modChan c fun x =>
      x.setDelay (x.delay.write (s.inputFrame arrived))).slew c).chan c).delay)
      = { moved with slewCount := n } := by
    unfold State.slew
    dsimp only
    rw [written]
    by_cases due : ((s.chan c).delay.write (s.inputFrame arrived)).stepDue = true
    · refine ⟨moved.slewCount, ?_⟩
      rw [if_pos due, State.slewStep_delay, written]
      simp only [moved, DelayLine.moved, if_pos due]
    · refine ⟨if ((s.chan c).delay.write (s.inputFrame arrived)).actual
        = ((s.chan c).delay.write (s.inputFrame arrived)).target then 0
        else ((s.chan c).delay.write (s.inputFrame arrived)).slewCount + 1, ?_⟩
      rw [if_neg due, State.modChan_chan_same, ChannelState.setDelay_delay, written]
      simp only [moved, DelayLine.moved, if_neg due]
  obtain ⟨n, slewed⟩ := slewed
  rw [State.delayFrame_ordinary ordinary, State.modChan_chan_same, ChannelState.setDelay_delay, slewed]
  exact ⟨rfl, rfl, rfl⟩

theorem State.delayFrame_latch (q : PortId) (d : Channel) :
    ((s.delayFrame c arrived).port q).holds (.channel .clockChange d)
      = (s.port q).holds (.channel .clockChange d) := by
  rw [State.delayFrame_ordinary ordinary, State.ReadSame.latch_modChan, State.slew_latch]
  rfl

end

/-! ## The clock's part (R13 to R18) -/

theorem StepReport.posts_iff (r : StepReport) (kind : FrameKind) : r.posts kind = true
    ↔ r.status ≠ .invalid ∧ (r.kind = .backward
      ∨ (r.kind = .forward ∧ ¬ (r.distance = 2 ∧ kind = .afterDrop))) := by
  unfold StepReport.posts
  rw [Bool.and_eq_true, decide_eq_true_iff]
  cases r.kind <;> simp [imp_iff_not_or]

/-- An update takes a pending preset exactly where an INTERNAL clock has one (R15). -/
theorem CueClock.update_takes (k : CueClock) (f : Format) (frame : ProgrammeFrame) (kind : FrameKind) :
    k.pendingPreset.isSome = true ∧ (k.update f frame kind).pendingPreset.isNone = true
      ↔ k.source = .internal ∧ k.pendingPreset ≠ none := by
  cases source : k.source with
  | internal =>
    cases pending : k.pendingPreset with
    | none => simp
    | some p => simp [k.update_preset f frame kind source pending, CueClock.preset]
  | embedded =>
    have kept : (k.update f frame kind).pendingPreset = k.pendingPreset := by
      cases label : embeddedLabel f k.dropMode frame with
      | some v => rw [k.update_label f frame kind source label]; rfl
      | none =>
        rw [k.update_noLabel f frame kind source label]
        unfold CueClock.unlabelled
        repeat' split
        all_goals rfl
    rw [kept]
    cases k.pendingPreset <;> simp

theorem clockChanged_update (k : CueClock) (f : Format) (frame : ProgrammeFrame) (kind : FrameKind) :
    let new := k.update f frame kind
    let r := stepReport f k new
    clockChanged k new r kind = true ↔ new.status ≠ k.status
      ∨ (new.status ≠ .invalid ∧ (r.kind = .backward ∨ (r.kind = .forward
          ∧ ¬ (r.distance = 2 ∧ kind = .afterDrop))))
      ∨ (k.source = .internal ∧ k.pendingPreset ≠ none) := by
  intro new r
  have status : r.status = new.status := stepReport_status f k new
  unfold clockChanged
  rw [Bool.or_eq_true, Bool.or_eq_true, Bool.and_eq_true, decide_eq_true_iff, StepReport.posts_iff, status,
    CueClock.update_takes, or_assoc, ne_comm]

/-! ## The parts taken one after another -/

/-- The delay line of a channel after its write and slew in an ordinary frame. -/
def State.movedDelay (s : State) (arrived : List InputFrame) (c : Channel) : DelayLine :=
  (s.chan c).delay.moved (s.inputFrame arrived)

/-- The clock of a channel after its update in an ordinary frame. -/
def State.updatedClock (s : State) (arrived : List InputFrame) (c : Channel) : CueClock :=
  (s.chan c).clock.update s.timing.format
    ((s.movedDelay arrived c).frameAt (s.movedDelay arrived c).actual) (s.movedDelay arrived c).kind

/-- Whether the update of a channel's clock posts CLOCK_CHANGE (R18). -/
def State.postsClock (s : State) (arrived : List InputFrame) (c : Channel) : Prop :=
  clockChanged (s.chan c).clock (s.updatedClock arrived c)
    (stepReport s.timing.format (s.chan c).clock (s.updatedClock arrived c)) (s.movedDelay arrived c).kind = true

section
variable {s : State} (ordinary : s.timing.relocking = false) (inputs : Bank 4 (List InputFrame)) (c : Channel)
include ordinary

theorem State.frameTask_delay : s.frameTask inputs (.delay c) = (s.delayFrame c (inputs.pick c)).reportClock c
    (s.updatedClock (inputs.pick c) c) (s.movedDelay (inputs.pick c) c).kind := by
  obtain ⟨delayed, kind, -⟩ := State.delayFrame_read ordinary c (inputs.pick c)
  have format : (s.delayFrame c (inputs.pick c)).format = s.timing.format := by simp [State.format]
  have clock : ((s.delayFrame c (inputs.pick c)).chan c).clock = (s.chan c).clock :=
    State.delayFrame_chan_clock ..
  unfold State.frameTask State.updateClock
  dsimp only
  rw [if_neg (by rw [State.delayFrame_timing, ordinary]; simp), clock, format, delayed, kind]
  rfl

theorem State.frameTask_delay_chan : ((s.frameTask inputs (.delay c)).chan c).clock
      = s.updatedClock (inputs.pick c) c
    ∧ ((s.frameTask inputs (.delay c)).chan c).report
      = some (stepReport s.timing.format (s.chan c).clock (s.updatedClock (inputs.pick c) c))
    ∧ ((s.frameTask inputs (.delay c)).chan c).delay.delayed
      = (s.movedDelay (inputs.pick c) c).frameAt (s.movedDelay (inputs.pick c) c).actual
    ∧ ((s.frameTask inputs (.delay c)).chan c).delay.kind = (s.movedDelay (inputs.pick c) c).kind
    ∧ ((s.frameTask inputs (.delay c)).chan c).delay.actual = (s.movedDelay (inputs.pick c) c).actual := by
  obtain ⟨delayed, kind, actual⟩ := State.delayFrame_read ordinary c (inputs.pick c)
  have format : (s.delayFrame c (inputs.pick c)).format = s.timing.format := by simp [State.format]
  have clock : ((s.delayFrame c (inputs.pick c)).chan c).clock = (s.chan c).clock :=
    State.delayFrame_chan_clock ..
  rw [State.frameTask_delay ordinary, State.reportClock_chan, format, clock]
  exact ⟨rfl, rfl, delayed, kind, actual⟩

theorem State.frameTask_delay_latch (q : PortId) (d : Channel) :
    ((s.frameTask inputs (.delay c)).port q).holds (.channel .clockChange d) = true
      ↔ (s.port q).holds (.channel .clockChange d) = true
        ∨ (d = c ∧ s.postsClock (inputs.pick c) c) ∧ (s.port q).enables (.channel .clockChange d) = true := by
  have format : (s.delayFrame c (inputs.pick c)).format = s.timing.format := by simp [State.format]
  have clock : ((s.delayFrame c (inputs.pick c)).chan c).clock = (s.chan c).clock :=
    State.delayFrame_chan_clock ..
  have enables : ((s.delayFrame c (inputs.pick c)).port q).enables (.channel .clockChange d)
      = (s.port q).enables (.channel .clockChange d) :=
    Port.enables_of_unlatched (State.delayFrame_unlatched ..) _
  have posted := (s.delayFrame c (inputs.pick c)).reportClock_posted c (s.updatedClock (inputs.pick c) c)
    (s.movedDelay (inputs.pick c) c).kind q
  rw [State.frameTask_delay ordinary, posted.2, State.delayFrame_latch ordinary, enables, format, clock]
  simp [State.postsClock]

end

/-- What a channel's clock and delay line have become in an ordinary frame, and its CLOCK_CHANGE latches. -/
structure State.Updated (s : State) (arrived : List InputFrame) (c : Channel) (t : State) : Prop where
  clock : (t.chan c).clock = s.updatedClock arrived c
  report : (t.chan c).report = some (stepReport s.timing.format (s.chan c).clock (s.updatedClock arrived c))
  delayed : (t.chan c).delay.delayed = (s.movedDelay arrived c).frameAt (s.movedDelay arrived c).actual
  kind : (t.chan c).delay.kind = (s.movedDelay arrived c).kind
  actual : (t.chan c).delay.actual = (s.movedDelay arrived c).actual
  latch : ∀ q, (t.port q).holds (.channel .clockChange c) = true
    ↔ (s.port q).holds (.channel .clockChange c) = true
      ∨ s.postsClock arrived c ∧ (s.port q).enables (.channel .clockChange c) = true

/-- What leaves clock, report and reading of a channel alone keeps it updated. -/
theorem State.Updated.same {s t u : State} {arrived : List InputFrame} {c : Channel}
    (h : s.Updated arrived c t) (clock : (u.chan c).clock = (t.chan c).clock)
    (report : (u.chan c).report = (t.chan c).report) (read : t.ReadSame u) : s.Updated arrived c u where
  clock := clock.trans h.clock
  report := report.trans h.report
  delayed := (read.delayed c).trans h.delayed
  kind := (read.kind c).trans h.kind
  actual := (read.actual c).trans h.actual
  latch q := by rw [read.latch, h.latch]

/-- The channels in an ordinary frame whose parts in `done` have been taken. -/
structure State.FrameDone (s : State) (inputs : Bank 4 (List InputFrame)) (done : List FrameTask) (u : State) :
    Prop where
  timing : u.timing = s.timing
  enables : ∀ q l, (u.port q).enables l = (s.port q).enables l
  updated : ∀ c, FrameTask.delay c ∈ done → s.Updated (inputs.pick c) c u
  untouched : ∀ c, FrameTask.delay c ∉ done → u.chan c = s.chan c
  silent : ∀ c, FrameTask.delay c ∉ done → ∀ q,
    (u.port q).holds (.channel .clockChange c) = (s.port q).holds (.channel .clockChange c)

theorem frameTask_enables (s : State) (inputs : Bank 4 (List InputFrame)) (k : FrameTask) (q : PortId) (l : Latch) :
    ((s.frameTask inputs k).port q).enables l = (s.port q).enables l :=
  Port.enables_of_unlatched (State.frameTask_unlatched ..) l

section
variable {s u : State} {inputs : Bank 4 (List InputFrame)} {done : List FrameTask}

/-- A report taken by one of its two receivers leaves what the frame has made of the clocks. -/
theorem State.FrameDone.report (reached : s.FrameDone inputs done u) {c : Channel}
    (taken : FrameTask.delay c ∈ done) {x : FrameTask} (later : ∀ d, FrameTask.delay d ≠ x)
    (clock : ∀ d, ((u.frameTask inputs x).chan d).clock = (u.chan d).clock)
    (report : ∀ d, ((u.frameTask inputs x).chan d).report = (u.chan d).report)
    (others : ∀ d, d ≠ c → (u.frameTask inputs x).chan d = u.chan d)
    (read : u.ReadSame (u.frameTask inputs x)) : s.FrameDone inputs (done ++ [x]) (u.frameTask inputs x) := by
  have mem : ∀ d, FrameTask.delay d ∈ done ++ [x] ↔ FrameTask.delay d ∈ done := fun d => by simp [later d]
  refine ⟨by rw [State.frameTask_timing, reached.timing], fun q l => ?_, fun d hd => ?_, fun d hd => ?_,
    fun d hd q => ?_⟩
  · rw [frameTask_enables, reached.enables]
  · exact (reached.updated d ((mem d).1 hd)).same (clock d) (report d) read
  · rw [mem] at hd
    rw [others d (fun e => hd (e ▸ taken)), reached.untouched d hd]
  · rw [mem] at hd
    rw [read.latch, reached.silent d hd]

/-- A channel that no part has touched takes its own part as it would have at the start. -/
theorem State.FrameDone.delay (ordinary : s.timing.relocking = false) (reached : s.FrameDone inputs done u)
    {c : Channel} (fresh : FrameTask.delay c ∉ done) :
    s.FrameDone inputs (done ++ [.delay c]) (u.frameTask inputs (.delay c)) := by
  have still : u.timing.relocking = false := by rw [reached.timing, ordinary]
  have chan := reached.untouched c fresh
  have input : u.inputFrame (inputs.pick c) = s.inputFrame (inputs.pick c) :=
    State.inputFrame_congr (by rw [reached.timing]) (by rw [reached.timing]) _
  have moved : u.movedDelay (inputs.pick c) c = s.movedDelay (inputs.pick c) c := by
    rw [State.movedDelay, chan, input]; rfl
  have clock : u.updatedClock (inputs.pick c) c = s.updatedClock (inputs.pick c) c := by
    rw [State.updatedClock, chan, moved, reached.timing]; rfl
  have posts : u.postsClock (inputs.pick c) c ↔ s.postsClock (inputs.pick c) c := by
    rw [State.postsClock, State.postsClock, chan, clock, moved, reached.timing]
  have latch := State.frameTask_delay_latch still inputs c
  have others : ∀ d, d ≠ c → (u.frameTask inputs (.delay c)).chan d = u.chan d := fun d hd => by
    simp [State.frameTask, hd]
  have same : ∀ q d, d ≠ c → ((u.frameTask inputs (.delay c)).port q).holds (.channel .clockChange d)
      = (u.port q).holds (.channel .clockChange d) := by
    intro q d hd
    rw [Bool.eq_iff_iff, latch]
    simp [hd]
  refine ⟨by rw [State.frameTask_timing, reached.timing], fun q l => ?_, fun d hd => ?_, fun d hd => ?_,
    fun d hd q => ?_⟩
  · rw [frameTask_enables, reached.enables]
  · by_cases own : d = c
    · subst own
      obtain ⟨newClock, report, delayed, kind, actual⟩ := State.frameTask_delay_chan still inputs d
      rw [clock, chan, reached.timing] at report
      refine ⟨newClock.trans clock, report, ?_, ?_, ?_, fun q => ?_⟩
      · rw [delayed, moved]
      · rw [kind, moved]
      · rw [actual, moved]
      · rw [latch, reached.silent d fresh, reached.enables, posts]
        simp
    · have before := reached.updated d (by simpa [own] using hd)
      refine ⟨?_, ?_, ?_, ?_, ?_, fun q => ?_⟩
      · rw [others d own, before.clock]
      · rw [others d own, before.report]
      · rw [others d own, before.delayed]
      · rw [others d own, before.kind]
      · rw [others d own, before.actual]
      · rw [same q d own, before.latch]
  · have own : d ≠ c := fun e => hd (by simp [e])
    rw [others d own, reached.untouched d fun h => hd (by simp [h])]
  · have own : d ≠ c := fun e => hd (by simp [e])
    rw [same q d own, reached.silent d fun h => hd (by simp [h])]

theorem frameDone_step (ordinary : s.timing.relocking = false) {order rest : List FrameTask} {x : FrameTask}
    (h : frameOrder order = done ++ x :: rest) (reached : s.FrameDone inputs done u) :
    s.FrameDone inputs (done ++ [x]) (u.frameTask inputs x) := by
  cases x with
  | delay c => exact reached.delay ordinary (frameOrder_fresh h)
  | cues c =>
    exact reached.report (frameOrder_cues h) (by simp) (fun d => State.reportCues_chan_clock ..)
      (fun d => State.reportCues_chan_report ..) (fun d hd => State.reportCues_chan_ne _ _ hd)
      (.reportCues u c)
  | spans c =>
    exact reached.report (frameOrder_spans h) (by simp) (fun d => State.reportSpans_chan_clock ..)
      (fun d => State.reportSpans_chan_report ..) (fun d hd => State.reportSpans_chan_ne _ _ hd)
      (.reportSpans u c)

end

theorem frameDone_all {s : State} (ordinary : s.timing.relocking = false) (inputs : Bank 4 (List InputFrame))
    (order : List FrameTask) (c : Channel) :
    s.Updated (inputs.pick c) c ((frameOrder order).foldl (State.frameTask inputs) s) := by
  have done := foldl_walk (f := State.frameTask inputs) (P := s.FrameDone inputs) (frameOrder order) (b := s)
    ⟨rfl, fun _ _ => rfl, fun c h => by simp at h, fun _ _ => rfl, fun _ _ _ => rfl⟩
    fun done x rest h u hu => frameDone_step ordinary h hu
  exact done.updated c (mem_frameOrder order _)

/-! ## The whole event (R4, R6) -/

theorem State.relock_chan (s : State) (c : Channel) : s.relock.chan c = s.chan c := by
  unfold State.relock
  dsimp only
  split
  · rw [State.postAll_chan]; rfl
  · rfl

theorem State.relock_frame (s : State) :
    s.relock = { s with timing := s.timing.relockStep, ports := s.relock.ports } := by
  unfold State.relock
  dsimp only
  split
  · exact State.postAll_frame (s.setTiming _) _
  · rfl

theorem State.relock_posted (s : State) :
    s.Posted s.relock fun l => l = .referenceChange ∧ s.timing.relockEnds = true := by
  unfold State.relock
  exact State.Posted.after (t := s.setTiming _) rfl (.postIf _ _)

/-- The relock's part of an ordinary frame has no bearing on what its clocks are updated to. -/
theorem relock_updated {s : State} (count : s.timing.relockCount = 0) (inputs : Bank 4 (List InputFrame))
    (order : List FrameTask) (c : Channel) :
    s.Updated (inputs.pick c) c ((frameOrder order).foldl (State.frameTask inputs) s.relock) := by
  have timing : s.relock.timing = { s.timing with relocking := false } := by
    rw [State.relock_timing, Timing.relockStep_ordinary count]
  have input : s.relock.inputFrame (inputs.pick c) = s.inputFrame (inputs.pick c) :=
    State.inputFrame_congr (by rw [timing]) (by rw [timing]) _
  have moved : s.relock.movedDelay (inputs.pick c) c = s.movedDelay (inputs.pick c) c := by
    rw [State.movedDelay, State.relock_chan, input]; rfl
  have clock : s.relock.updatedClock (inputs.pick c) c = s.updatedClock (inputs.pick c) c := by
    rw [State.updatedClock, State.relock_chan, moved, timing]; rfl
  have posts : s.relock.postsClock (inputs.pick c) c ↔ s.postsClock (inputs.pick c) c := by
    rw [State.postsClock, State.postsClock, State.relock_chan, clock, moved, timing]
  have updated := frameDone_all (s := s.relock) (by rw [timing]) inputs order c
  refine ⟨updated.clock.trans clock, ?_, ?_, ?_, ?_, fun q => ?_⟩
  · rw [updated.report, State.relock_chan, clock, timing]
  · rw [updated.delayed, moved]
  · rw [updated.kind, moved]
  · rw [updated.actual, moved]
  · have posted := s.relock_posted q
    rw [updated.latch, posts, posted.2, Port.enables_of_unlatched posted.unlatched]
    simp

theorem ordinaryFrame_result (s : State) (now : Nat) (inputs : Bank 4 (List InputFrame))
    (order : List FrameTask) (count : s.timing.relockCount = 0) :
    ∃ (r t : State) (tasks : List FrameTask), exec (.outputFrameStart now inputs order) s = .next t
      ∧ r = { s with timing := { s.timing with relocking := false }, ports := r.ports }
      ∧ s.Posted r (fun l => l = .referenceChange ∧ s.timing.relocking = true)
      ∧ tasks.Perm frameTasks ∧ (order = [] → tasks = frameTasks)
      ∧ (∀ c, [.delay c, .cues c].Sublist tasks ∧ [.delay c, .spans c].Sublist tasks)
      ∧ t = (tasks.foldl (State.frameTask inputs) r).setTiming { s.timing with
          relocking := false, lastFrameStart := some now, extending := false
          frameInProgress := true, firstPeriodDue := true }
      ∧ t.gpis = s.gpis ∧ t.tallies = s.tallies ∧ t.pending = s.pending
      ∧ ∀ c,
        let written := (s.chan c).delay.write (s.inputFrame (inputs.pick c))
        let moved := if written.stepDue then written.slewStep else { written with kind := .ordinary }
        let frame := moved.frameAt moved.actual
        let old := (s.chan c).clock
        let clock := old.update s.timing.format frame moved.kind
        let report := stepReport s.timing.format old clock
        (t.chan c).clock = clock
        ∧ (t.chan c).report = some report
        ∧ (t.chan c).delay.delayed = frame ∧ (t.chan c).delay.kind = moved.kind
        ∧ (t.chan c).delay.actual = moved.actual
        ∧ (t.chan c).presets = (s.chan c).presets ∧ (t.chan c).sync = (s.chan c).sync
        ∧ (t.chan c).calibration = (s.chan c).calibration
        ∧ (t.chan c).latches = (s.chan c).latches
        ∧ ∀ q, (t.port q).holds (.channel .clockChange c) = true ↔
            (s.port q).holds (.channel .clockChange c) = true
            ∨ ((s.port q).enables (.channel .clockChange c) = true
              ∧ (clock.status ≠ old.status
                ∨ (clock.status ≠ .invalid
                  ∧ (report.kind = .backward ∨ (report.kind = .forward
                    ∧ ¬ (report.distance = 2 ∧ moved.kind = .afterDrop))))
                ∨ (old.source = .internal ∧ old.pendingPreset ≠ none))) := by
  let u := (frameOrder order).foldl (State.frameTask inputs) s.relock
  have timing : u.timing = { s.timing with relocking := false } := by
    rw [show u.timing = s.relock.timing from frameTasks_timing _ _ _, State.relock_timing,
      Timing.relockStep_ordinary count]
  have keeps : ∀ {γ : Type} (g : State → γ), (∀ v k, g (State.frameTask inputs v k) = g v) →
      g u = g s.relock := fun g h => foldl_keeps _ g h _ _
  have frame := s.relock_frame
  refine ⟨s.relock, u.setTiming (u.timing.begin now), frameOrder order, rfl, ?_, ?_, frameOrder_perm order,
    fun h => by rw [h, frameOrder_nil], frameOrder_delay_first order, ?_, ?_, ?_, ?_, fun c => ?_⟩
  · rwa [Timing.relockStep_ordinary count] at frame
  · refine s.relock_posted.congr fun l => ?_
    simp [Timing.relockEnds, count]
  · rw [timing]
    rfl
  · exact (keeps State.gpis fun v k => State.frameTask_gpis ..).trans (by rw [frame])
  · exact (keeps State.tallies fun v k => State.frameTask_tallies ..).trans (by rw [frame])
  · exact (keeps State.pending fun v k => State.frameTask_pending ..).trans (by rw [frame])
  · intro written moved read old clock report
    have updated := relock_updated count inputs order c
    have at_ : ∀ {γ : Type} (g : ChannelState → γ),
        (∀ v k, g ((State.frameTask inputs v k).chan c) = g (v.chan c)) → g (u.chan c) = g (s.chan c) :=
      fun g h => (keeps (fun v => g (v.chan c)) h).trans (by rw [State.relock_chan])
    refine ⟨updated.clock, updated.report, updated.delayed, updated.kind, updated.actual,
      at_ (·.presets) fun v k => State.frameTask_chan_presets ..,
      at_ (·.sync) fun v k => State.frameTask_chan_sync ..,
      at_ (·.calibration) fun v k => State.frameTask_chan_calibration ..,
      at_ (·.latches) fun v k => State.frameTask_chan_latches .., fun q => ?_⟩
    have changed := clockChanged_update old s.timing.format read moved.kind
    exact (updated.latch q).trans (or_congr Iff.rfl (and_comm.trans (and_congr Iff.rfl changed)))

theorem inputFrame_black {s : State} {arrived : List InputFrame}
    (h : s.timing.frameInProgress = false ∨ ∀ x ∈ arrived, x.format ≠ s.timing.format) :
    s.inputFrame arrived = { first := blackPart, second := blackPart } := by
  unfold State.inputFrame
  obtain idle | foreign := h
  · rw [if_neg (by simp [idle])]
    rfl
  · have none : (arrived.filter fun x => x.format = s.format) = [] :=
      List.filter_eq_nil_iff.2 fun x hx => by rw [decide_eq_true_iff]; exact foreign x hx
    rw [none]
    split <;> rfl

theorem inputFrame_last {s : State} {before after : List InputFrame} {x : InputFrame}
    (progress : s.timing.frameInProgress = true) (own : x.format = s.timing.format)
    (foreign : ∀ y ∈ after, y.format ≠ s.timing.format) : s.inputFrame (before ++ x :: after) = x.frame := by
  have none : (after.filter fun x => x.format = s.format) = [] :=
    List.filter_eq_nil_iff.2 fun y hy => by rw [decide_eq_true_iff]; exact foreign y hy
  have kept : ((x :: after).filter fun x => x.format = s.format) = [x] := by
    rw [List.filter_cons_of_pos (by rw [decide_eq_true_iff]; exact own), none]
  unfold State.inputFrame
  rw [if_pos progress, List.filter_append, kept]
  simp

/-- Settles O8: by induction on the parts taken, each channel being touched by its own parts alone and its report
being taken after its clock's update. -/
theorem ordinaryFrameClocks : Obligations.OrdinaryFrameClocks := by
  refine ⟨ordinaryFrame_result, fun inputs u c => ⟨fun r report => ?_, State.reportCues_none, rfl⟩,
    fun s arrived => ⟨inputFrame_black, ?_⟩⟩
  · simp only [State.frameTask, State.reportCues, report]
  · rintro before x after progress rfl own foreign
    exact inputFrame_last progress own foreign

end Sys2Proof.Machine
end

section
/-! PROOFS. A stream reported again after a reset, and the values after POWER_ON_RESET and DEVICE_RESET (R7, R19, R51,
R79, R91, R119, R135, R152, R167, R178, R195). -/

namespace Sys2Proof.Machine

open Sys2Proof

/-! ## A stream reported again (R119, R122) -/

/-- A channel whose synchroniser is as a reset leaves it, the SIGNER member out of its suppression set. -/
def ChannelState.Fresh (x : ChannelState) : Prop :=
  (∃ holdLimit policy signal, x.sync = resetSync holdLimit policy signal)
    ∧ x.window.suppression.has .signer = false

/-- A channel whose stream is reported up after a reset (R122). -/
def ChannelState.acquire (x : ChannelState) : ChannelState :=
  x.setSync { x.sync with signal := true, lock := .acquiring }

theorem State.setLevel_clear {t : State} {c : Channel}
    (member : (t.chan c).window.suppression.has .signer = false) :
    t.setLevel c false = t.modChan c fun x => x.setSync { x.sync with level := false } := by
  have clear : ((t.modChan c fun x => x.setSync { x.sync with level := false }).chan c).window.suppression.has
      .signer = false := by rw [State.modChan_chan_same]; exact member
  rw [State.setLevel, State.setMember, if_pos clear]

/-- Signal up on a channel as a reset leaves it: ACQUIRING, SIGNER_CHANGE posted, and nothing else. -/
theorem State.signalUp_fresh {s : State} {c : Channel} (fresh : (s.chan c).Fresh) : ∃ f g,
    s.signalUp c = ((s.modChan c f).postAll (.channel .signerChange c)).modChan c g
      ∧ g (f (s.chan c)) = (s.chan c).acquire := by
  obtain ⟨⟨holdLimit, policy, signal, sync⟩, member⟩ := fresh
  have absent : (s.chan c).sync.lock = .absent := by rw [sync]; rfl
  have raised : ((s.modChan c fun x => x.setSync { x.sync with signal := true }).chan c).sync
      = resetSync holdLimit policy true := by
    rw [State.modChan_chan_same, ChannelState.setSync_sync, sync]
    rfl
  refine ⟨fun x => x.setSync { resetSync holdLimit policy true with lock := .acquiring },
    fun x => x.setSync { x.sync with level := false }, ?_, ?_⟩
  · unfold State.signalUp
    dsimp only
    rw [if_pos absent]
    unfold State.setLock
    dsimp only
    rw [raised, if_neg (by simp [resetSync]), State.modChan_modChan]
    have clear := State.setLevel_clear (t := (s.modChan c fun x => (x.setSync { x.sync with signal := true }).setSync
      ((resetSync holdLimit policy true).enter .acquiring)).postAll (.channel .signerChange c)) (c := c)
      (by rw [State.postAll_chan, State.modChan_chan_same]; exact member)
    rw [show (resetSync holdLimit policy true).levelAfter .acquiring = false from rfl, clear,
      State.endOnLoss, if_neg (by simp [resetSync, LockState.available])]
    rfl
  · rw [ChannelState.acquire, sync]
    rfl

theorem State.signalUp_fresh_chan {s : State} {c : Channel} (fresh : (s.chan c).Fresh) :
    (s.signalUp c).chan c = (s.chan c).acquire := by
  obtain ⟨f, g, up, result⟩ := State.signalUp_fresh fresh
  rw [up, State.modChan_chan_same, State.postAll_chan, State.modChan_chan_same, result]

theorem State.signalUp_fresh_posted {s : State} {c : Channel} (fresh : (s.chan c).Fresh) :
    s.Posted (s.signalUp c) fun l => l = .channel .signerChange c := by
  obtain ⟨f, g, up, -⟩ := State.signalUp_fresh fresh
  rw [up]
  exact State.Posted.after (t := s.modChan c f) rfl
    (State.Posted.before (.postAll _ _) (u := ((s.modChan c f).postAll _).modChan c g) rfl)

section
variable {s : State} (fresh : ∀ c, (s.chan c).Fresh) (present : Channel → Bool)
include fresh

theorem State.resumeSignals_chan (c : Channel) : (s.resumeSignals present).chan c
    = if present c then (s.chan c).acquire else s.chan c := by
  obtain ⟨t, -, same, result⟩ := eachChannel_chan (R := fun _ _ => True)
    (f := fun c t => if present c then t.signalUp c else t) (fun _ => trivial) (fun _ _ _ _ _ => trivial)
    (fun _ _ => trivial) (fun c t d hd => by split <;> simp [hd]) s c
  unfold State.resumeSignals
  rw [result]
  split
  · rw [State.signalUp_fresh_chan (by rw [same]; exact fresh c), same]
  · exact same

theorem State.resumeSignals_posted : s.Posted (s.resumeSignals present)
    fun l => ∃ c, present c = true ∧ l = .channel .signerChange c := by
  have walk : ∀ (l : List Channel), l.Nodup → ∀ t : State, (∀ c ∈ l, (t.chan c).Fresh) →
      t.Posted (l.foldl (fun t c => if present c then t.signalUp c else t) t)
        fun k => ∃ c ∈ l, present c = true ∧ k = .channel .signerChange c := by
    intro l
    induction l with
    | nil => exact fun _ t _ => (State.Posted.of_ports rfl).congr fun _ => by simp
    | cons d l ih =>
      intro nodup t ready
      obtain ⟨absent, nodup⟩ := List.nodup_cons.1 nodup
      have one : t.Posted (if present d then t.signalUp d else t)
          fun k => present d = true ∧ k = .channel .signerChange d := by
        split
        · rename_i h
          exact (State.signalUp_fresh_posted (ready d (by simp))).congr fun _ => by simp [h]
        · rename_i h
          exact (State.Posted.of_ports rfl).congr fun _ => by simp [h]
      have later : ∀ c ∈ l, ((if present d then t.signalUp d else t).chan c).Fresh := by
        intro c hc
        have hcd : c ≠ d := fun e => absent (e ▸ hc)
        split
        · rw [State.signalUp_chan_ne _ _ hcd]; exact ready c (by simp [hc])
        · exact ready c (by simp [hc])
      exact (one.trans (ih nodup _ later)).congr fun k => by simp
  have all : ∀ c : Channel, c ∈ Channel.all := by decide
  exact (walk Channel.all (by decide) s fun c _ => fresh c).congr fun k => by simp [all]

end

theorem State.resumeSignals_slot (s : State) (present : Channel → Bool) (i : SlotIx) :
    (s.resumeSignals present).slot i = s.slot i :=
  State.slot_of_cues (State.PlanSame.resumeSignals s present).cues i

theorem State.resumeSignals_free (s : State) (present : Channel → Bool) :
    (s.resumeSignals present).free = s.free := by
  refine foldl_keeps _ State.free (fun t c => ?_) _ s
  dsimp only
  split
  · simp
  · rfl

/-! ## A channel's values after a reset -/

theorem resetChannel_fresh (f : Format) (signal : Bool) :
    ((resetChannel f).setSync { (resetChannel f).sync with signal := signal }).Fresh :=
  ⟨⟨10, .withdraw, signal, rfl⟩, rfl⟩

/-- What a reset leaves of the synchroniser, with the stream that is present reported again (R119, R135). -/
theorem afterReset_sync (x : ChannelState) {holdLimit : Nat} {policy : LossPolicy} {signal : Bool}
    (h : x.sync = resetSync holdLimit policy signal) :
    (if signal then x.acquire else x).sync.AfterReset holdLimit policy signal := by
  cases signal
  · rw [if_neg (by simp), h]; rfl
  · rw [if_pos rfl, ChannelState.acquire, ChannelState.setSync_sync, h]; rfl

/-- A channel reset by power-on reset or DEVICE_RESET, its stream reported again where it is present. -/
theorem channel_afterReset {x : ChannelState} {f : Format} {signal : Bool}
    (clock : x.clock = resetClock) (scheduler : x.scheduler = resetScheduler 10)
    (window : x.window = resetWindow (defaultPreset f) 12) (presets : x.presets = defaultPresets f)
    (sync : x.sync = resetSync 10 .withdraw signal) (delay : x.delay = resetDelay 25)
    (calibration : ∃ n, x.calibration = { resetCalibration with inserting := n }) :
    (if signal then x.acquire else x).AfterReset f signal := by
  have kept : ∀ {γ : Type} (g : ChannelState → γ), (∀ y v, g (ChannelState.setSync y v) = g y) →
      g (if signal then x.acquire else x) = g x := by
    intro γ g h
    split
    · exact h _ _
    · rfl
  obtain ⟨n, calibration⟩ := calibration
  refine ⟨?_, ?_, ?_, fun i => ?_, afterReset_sync x sync, ?_, ?_⟩
  · rw [kept (·.clock) fun _ _ => rfl, clock]; rfl
  · rw [kept (·.scheduler) fun _ _ => rfl, scheduler]; rfl
  · rw [kept (·.window) fun _ _ => rfl, window]; rfl
  · rw [kept (·.presets) fun _ _ => rfl, presets]; simp [defaultPresets]
  · rw [kept (·.delay) fun _ _ => rfl, delay]; rfl
  · rw [kept (·.calibration) fun _ _ => rfl, calibration]; rfl

/-- A port whose mask enables nothing holds after a posting what it held before (R187). -/
theorem Port.Posted.masked_all {x y : Port} {posted : Latch → Prop} (h : x.Posted y posted)
    (mask : x.mask = 0) (none : ∀ l, x.holds l = false) (l : Latch) : y.holds l = false := by
  have enables : x.enables l = false := by rw [Port.enables, mask]; simp
  rw [← Bool.not_eq_true, h.2, none, enables]
  simp

theorem Port.attention_of_none {x : Port} (none : ∀ l, x.holds l = false) : x.attention = false := by
  simp [Port.attention, none]

/-! ## POWER_ON_RESET -/

/-- The power-on values with the streams and the queue that stay, before the streams are reported again. -/
def State.powerOnBase (s : State) (straps : Straps) : State :=
  (s.keepSignals (State.powerOn straps)).setPending s.pending

theorem State.powerOnBase_chan (s : State) (straps : Straps) (c : Channel) : (s.powerOnBase straps).chan c
    = (resetChannel (formatOfStrap straps.fmt)).setSync
      { (resetChannel (formatOfStrap straps.fmt)).sync with signal := (s.chan c).sync.signal } := by
  rw [State.powerOnBase, State.setPending_chan, State.keepSignals_chan, State.powerOn_chan]

theorem State.powerOnBase_port (s : State) (straps : Straps) (p : PortId) : (s.powerOnBase straps).port p
    = resetPort (decide (straps.supv.toNat = match p with
          | .a => 1
          | .b => 2
          | .c => 3)) := by
  have strap : ∀ v : BitVec 2, (v == 1) = decide (v.toNat = 1) ∧ (v == 2) = decide (v.toNat = 2)
      ∧ (v == 3) = decide (v.toNat = 3) := by decide
  obtain ⟨a, b, c⟩ := strap straps.supv
  cases p
  · exact congrArg resetPort a
  · exact congrArg resetPort b
  · exact congrArg resetPort c

/-- Settles O2: the reset values, then the streams that are present reported again, which posts nothing as every
mask is 0. -/
theorem powerOnResetValues : Obligations.PowerOnResetValues := by
  intro straps s
  have fresh : ∀ c, ((s.powerOnBase straps).chan c).Fresh := fun c => by
    rw [State.powerOnBase_chan]
    exact resetChannel_fresh _ _
  have chan := State.resumeSignals_chan fresh fun c => (s.chan c).sync.signal
  have posted := State.resumeSignals_posted fresh fun c => (s.chan c).sync.signal
  obtain ⟨timing, gpis, tallies, pending⟩ :=
    State.Inner.resumeSignals (s.powerOnBase straps) fun c => (s.chan c).sync.signal
  refine ⟨(s.powerOnBase straps).resumeSignals fun c => (s.chan c).sync.signal, rfl, pending, ?_⟩
  rw [timing]
  refine ⟨rfl, rfl, rfl, rfl, rfl, rfl, ?_, fun i => ?_, ?_, fun c => ?_, fun g => ?_, fun k => ?_,
    fun p => ?_⟩
  · show (straps.baud == 1) = _
    rw [Bool.eq_iff_iff]
    simp
  · rw [State.resumeSignals_slot]
    exact State.powerOn_slot straps i
  · rw [State.resumeSignals_free]
    rfl
  · rw [chan, State.powerOnBase_chan]
    exact channel_afterReset rfl rfl rfl rfl rfl rfl ⟨none, rfl⟩
  · rw [State.gpi, gpis]
    exact State.powerOn_gpi straps g
  · rw [State.tally, tallies]
    exact State.powerOn_tally straps k
  · have none : ∀ l, ((s.powerOnBase straps).port p).holds l = false := fun l => by
      rw [State.powerOnBase_port]; simp [resetPort, Port.holds]
    have latches := (posted p).masked_all (by rw [State.powerOnBase_port]; rfl) none
    have port := (posted p).1
    rw [State.powerOnBase_port] at port
    refine ⟨?_, ?_, ?_, ?_, latches, Port.attention_of_none latches, ?_, ?_, ?_⟩
    all_goals rw [port]; rfl

/-! ## DEVICE_RESET -/

/-- The DEVICE_RESET values before the streams are reported again. -/
def State.deviceBase (s : State) : State :=
  { timing := s.timing.deviceReset
    cues := s.cues.map CueSlot.freed
    channels := s.channels.map fun x => x.deviceReset s.format
    free := resetFree
    gpis := Bank.fill 8 resetGpi
    tallies := Bank.fill 4 resetTally
    ports := { a := s.ports.a.deviceReset, b := s.ports.b.deviceReset, c := s.ports.c.deviceReset }
    pending := s.pending }

theorem State.resetDevice_eq (s : State) :
    s.resetDevice = s.deviceBase.resumeSignals fun c => (s.chan c).sync.signal := rfl

theorem State.deviceBase_chan (s : State) (c : Channel) :
    s.deviceBase.chan c = (s.chan c).deviceReset s.format := by
  simp [State.deviceBase, State.chan]

theorem State.deviceBase_port (s : State) (q : PortId) : s.deviceBase.port q = (s.port q).deviceReset := by
  cases q <;> rfl

theorem State.deviceBase_slot (s : State) (i : SlotIx) : s.deviceBase.slot i = { s.slot i with cue := none } := by
  simp [State.deviceBase, State.slot, CueSlot.freed]

theorem deviceBase_fresh (s : State) (c : Channel) : (s.deviceBase.chan c).Fresh := by
  rw [State.deviceBase_chan]
  exact ⟨⟨10, .withdraw, (s.chan c).sync.signal, rfl⟩, rfl⟩

theorem exec_deviceReset_taken {s : State} {p : PortId} {tag : Byte} (supervisor : (s.port p).supervisor = true)
    (room : s.Room p tag) : exec (.deviceReset p tag) s = .next s.resetDevice := by
  have free : ¬ (tag ≠ 0xFF ∧ 4 ≤ (s.port p).queue.length) := by
    rintro ⟨answered, full⟩
    obtain unanswered | space := room
    · exact answered unanswered
    · omega
  rw [exec_deviceReset, State.serveDeviceReset, if_neg (by simp [supervisor]), if_neg free]

theorem Port.deviceReset_receiver (x : Port) :
    x.deviceReset.receiver = if x.receiver = .idle then .idle else .discarding := by
  unfold Port.deviceReset
  cases h : x.receiver <;> simp

/-- Settles O3: the reset values, then the streams that are present reported again, which posts nothing as every
mask is 0. -/
theorem deviceResetValues : Obligations.DeviceResetValues := by
  intro s p tag supervisor room
  have fresh := deviceBase_fresh s
  have chan := State.resumeSignals_chan fresh fun c => (s.chan c).sync.signal
  have posted := State.resumeSignals_posted fresh fun c => (s.chan c).sync.signal
  obtain ⟨timing, gpis, tallies, pending⟩ :=
    State.Inner.resumeSignals s.deviceBase fun c => (s.chan c).sync.signal
  rw [← State.resetDevice_eq] at chan posted timing gpis tallies pending
  refine ⟨s.resetDevice, exec_deviceReset_taken supervisor room, pending, ?_⟩
  rw [timing]
  refine ⟨rfl, rfl, rfl, rfl, rfl, rfl, rfl, rfl, rfl, fun c => ?_, fun i => ?_, ?_, fun c => ?_, fun g => ?_,
    fun k => ?_, fun q => ?_⟩
  · rw [chan, State.deviceBase_chan]
    split <;> rfl
  · rw [State.resetDevice_eq, State.resumeSignals_slot, State.deviceBase_slot]
  · rw [State.resetDevice_eq, State.resumeSignals_free]
    rfl
  · rw [chan, State.deviceBase_chan]
    exact channel_afterReset rfl rfl rfl rfl rfl rfl ⟨_, rfl⟩
  · simp [State.gpi, gpis, State.deviceBase, resetGpi, Gpi.afterReset]
  · simp [State.tally, tallies, State.deviceBase, resetTally, Tally.afterReset]
  · have none : ∀ l, (s.deviceBase.port q).holds l = false := fun l => by
      rw [State.deviceBase_port]; simp [Port.deviceReset, Port.holds]
    have latches := (posted q).masked_all (by rw [State.deviceBase_port]; rfl) none
    have port := (posted q).1
    rw [State.deviceBase_port] at port
    refine ⟨?_, ?_, ?_, ?_, latches, Port.attention_of_none latches, ?_, ?_, ?_⟩
    · rw [port]; rfl
    · rw [port]; rfl
    · rw [port]; rfl
    · rw [port]; rfl
    · rw [port]; rfl
    · rw [port]; rfl
    · rw [port]; exact (s.port q).deviceReset_receiver

end Sys2Proof.Machine
end

section
/-! PROOFS. FORMAT_SET: the column of every block and the latches each port then holds (R5, R19, R51, R79, R80, R91,
R119, R135, R152, R163, R167, R192, R193, R195). -/

namespace Sys2Proof.Machine

open Sys2Proof

/-! ## Latches after channel resets (R163, R192) -/

theorem Port.holds_clear (x : Port) (c : Channel) (l : Latch) :
    (ChannelCondition.all.foldl (fun y k => y.latch (.channel k c) false) x).holds l = true
      ↔ x.holds l = true ∧ ∀ k, l ≠ .channel k c := by
  have walk : ∀ (m : List ChannelCondition) (x : Port),
      (m.foldl (fun y k => y.latch (.channel k c) false) x).holds l = true
        ↔ x.holds l = true ∧ ∀ k ∈ m, l ≠ .channel k c := by
    intro m
    induction m with
    | nil => simp
    | cons k m ih =>
      intro x
      rw [List.foldl_cons, ih, Port.latch_holds, List.forall_mem_cons]
      by_cases h : l = .channel k c
      · simp [h]
      · simp [h]
  have all : ∀ k : ChannelCondition, k ∈ ChannelCondition.all := fun k => by cases k <;> decide
  rw [walk]
  simp [all]

section
variable (s : State) (q : PortId) (l : Latch)

theorem State.clearLatches_holds (c : Channel) : ((s.clearLatches c).port q).holds l = true
    ↔ (s.port q).holds l = true ∧ ∀ k, l ≠ .channel k c := by
  simp only [State.clearLatches, State.eachPort_eq, State.modPort_port]
  cases q <;> simp [Port.holds_clear]

theorem State.post_holds (p : PortId) (k : Latch) : ((s.post p k).port q).holds l = true
    ↔ (s.port q).holds l = true ∨ (l = k ∧ q = p ∧ (s.port q).enables l = true) := by
  rw [State.post_port]
  by_cases h : q = p ∧ (s.port q).enables k = true
  · obtain ⟨rfl, enabled⟩ := h
    rw [if_pos ⟨rfl, enabled⟩, Port.latch_holds]
    by_cases hl : l = k
    · simp [hl, enabled]
    · simp [hl]
  · rw [if_neg h]
    refine ⟨.inl, fun held => held.elim id ?_⟩
    rintro ⟨rfl, own, enabled⟩
    exact absurd ⟨own, enabled⟩ h

/-- Whether an aborted run of a channel is posted to a port (R163, R164). -/
def State.RunDone (c : Channel) : Prop :=
  l = .channel .calibrationDone c ∧ (s.chan c).calibration.running = true
    ∧ (s.chan c).calibration.origin = some q ∧ (s.port q).enables l = true

theorem State.abortRun_holds (c : Channel) : ((s.abortRun c).port q).holds l = true
    ↔ (s.port q).holds l = true ∨ s.RunDone q l c := by
  unfold State.abortRun State.RunDone
  by_cases running : (s.chan c).calibration.running = true
  · have origin : ((s.modChan c fun x => x.setCalibration (x.calibration.finish .aborted)).chan
        c).calibration.origin = (s.chan c).calibration.origin := by
      rw [State.modChan_chan_same]; rfl
    have port : (s.modChan c fun x => x.setCalibration (x.calibration.finish .aborted)).port q = s.port q := rfl
    rw [if_pos running, State.postDone, origin]
    cases h : (s.chan c).calibration.origin with
    | none => simp
    | some p =>
      dsimp only
      rw [State.post_holds, port]
      simp [running, eq_comm (a := p)]
  · rw [if_neg running]
    simp [running]

theorem State.resetOne_unlatched (c : Channel) : ((s.resetOne c).port q).unlatched = (s.port q).unlatched := by
  have done : ∀ t : State, ((t.abortRun c).port q).unlatched = (t.port q).unlatched := by
    intro t
    unfold State.abortRun
    split
    · rw [State.postDone_unlatched, State.modChan_port]
    · rfl
  have blocks : ∀ (t : State) w, ((t.resetBlocks c w).resetChannelDelay c).port q = t.port q := fun _ _ => rfl
  rw [State.resetOne_eq, done, blocks, State.freeCues_port, State.clearLatches_unlatched]

theorem State.resetOne_holds (c : Channel) : ((s.resetOne c).port q).holds l = true
    ↔ ((s.port q).holds l = true ∧ ∀ k, l ≠ .channel k c) ∨ s.RunDone q l c := by
  have blocks : ∀ (t : State) w, ((t.resetBlocks c w).resetChannelDelay c).port q = t.port q := fun _ _ => rfl
  have calibration : ∀ (t : State) w, (((t.resetBlocks c w).resetChannelDelay c).chan c).calibration
      = (t.chan c).calibration := by
    intro t w
    obtain ⟨e, -, delayed⟩ := (t.resetBlocks c w).resetChannelDelay_chan c
    rw [delayed, if_pos rfl, State.resetBlocks, State.modChan_chan_same]
    rfl
  have enables : ((s.clearLatches c).port q).enables l = (s.port q).enables l :=
    Port.enables_of_unlatched (State.clearLatches_unlatched ..) l
  rw [State.resetOne_eq, State.abortRun_holds, State.RunDone, calibration, blocks, State.freeCues_port,
    State.clearLatches_holds, State.cleared_chan, enables]
  rfl

theorem State.resetAll_holds : ((s.eachChannel fun c u => u.resetOne c).port q).holds l = true
    ↔ ((s.port q).holds l = true ∧ ∀ c k, l ≠ .channel k c) ∨ ∃ c, s.RunDone q l c := by
  have walk : ∀ (m : List Channel), m.Nodup → ∀ s : State,
      ((m.foldl (fun t c => t.resetOne c) s).port q).holds l = true
        ↔ ((s.port q).holds l = true ∧ ∀ c ∈ m, ∀ k, l ≠ .channel k c) ∨ ∃ c ∈ m, s.RunDone q l c := by
    intro m
    induction m with
    | nil => simp
    | cons d m ih =>
      intro nodup s
      obtain ⟨absent, nodup⟩ := List.nodup_cons.1 nodup
      have same : (∃ c ∈ m, (s.resetOne d).RunDone q l c) ↔ ∃ c ∈ m, s.RunDone q l c := by
        refine exists_congr fun c => and_congr_right fun hc => ?_
        have hcd : c ≠ d := fun e => absent (e ▸ hc)
        rw [State.RunDone, State.RunDone, State.resetOne_chan_ne _ _ hcd,
          Port.enables_of_unlatched (State.resetOne_unlatched s q d)]
      have silent : s.RunDone q l d → ∀ c ∈ m, ∀ k, l ≠ .channel k c := by
        rintro ⟨rfl, -⟩ c hc k e
        cases e
        exact absent hc
      rw [List.foldl_cons, ih nodup, State.resetOne_holds, same, List.forall_mem_cons, List.exists_mem_cons_iff]
      tauto
  have all : ∀ c : Channel, c ∈ Channel.all := by decide
  exact (walk Channel.all (by decide) s).trans (by simp [all])

theorem State.resetAll_unlatched :
    ((s.eachChannel fun c u => u.resetOne c).port q).unlatched = (s.port q).unlatched :=
  foldl_keeps _ (fun t : State => (t.port q).unlatched) (fun t c => t.resetOne_unlatched q c) _ s

end

/-! ## FORMAT_SET -/

theorem State.Posted.eachChannel {f : Channel → State → State} {a : Channel → Latch → Prop}
    (h : ∀ c (t : State), t.Posted (f c t) (a c)) (s : State) :
    s.Posted (s.eachChannel f) fun l => ∃ c, a c l := by
  have walk : ∀ (m : List Channel) (t : State),
      t.Posted (m.foldl (fun t c => f c t) t) fun l => ∃ c ∈ m, a c l := by
    intro m
    induction m with
    | nil => exact fun t => (State.Posted.of_ports rfl).congr fun _ => by simp
    | cons d m ih => exact fun t => ((h d t).trans (ih _)).congr fun l => by simp
  have all : ∀ c : Channel, c ∈ Channel.all := by decide
  exact (walk Channel.all s).congr fun l => by simp [all]

theorem State.postClockChanges_posted (u s t : State) : u.Posted (u.postClockChanges s t)
    fun l => ∃ c, (s.chan c).clock.status ≠ (t.chan c).clock.status ∧ l = .channel .clockChange c := by
  refine State.Posted.eachChannel (fun c v => ?_) u
  split
  · rename_i same
    exact (State.Posted.of_ports rfl).congr fun _ => by simp [same]
  · rename_i other
    exact (State.Posted.postAll v _).congr fun _ => by simp [other]

theorem State.postClockChanges_channels (u s t : State) : (u.postClockChanges s t).channels = u.channels := by
  refine foldl_keeps _ State.channels (fun v c => ?_) _ u
  dsimp only
  split <;> rfl

theorem State.postClockChanges_slot (u s t : State) (i : SlotIx) : (u.postClockChanges s t).slot i = u.slot i := by
  refine State.slot_of_cues (foldl_keeps _ State.cues (fun v c => ?_) _ u) i
  dsimp only
  split <;> rfl

theorem State.postClockChanges_free (u s t : State) : (u.postClockChanges s t).free = u.free := by
  refine foldl_keeps _ State.free (fun v c => ?_) _ u
  dsimp only
  split <;> rfl

section
variable (s : State) (f : Format)

/-- A FORMAT_SET before the streams are reported again. -/
def State.formatBase : State := ((s.formatted f).postClockChanges s (s.formatted f)).postAll .referenceChange

theorem State.formatBase_chan (c : Channel) : (s.formatBase f).chan c = (s.formatted f).chan c := by
  rw [State.formatBase, State.postAll_chan]
  exact State.chan_of_channels (State.postClockChanges_channels ..) c

theorem formatBase_fresh (c : Channel) : ((s.formatBase f).chan c).Fresh := by
  obtain ⟨e, -, chan⟩ := s.formatted_channel f c
  rw [State.formatBase_chan, chan]
  exact ⟨⟨_, _, _, rfl⟩, rfl⟩

theorem State.setFormat_chan (c : Channel) : (s.setFormat f).chan c
    = if (s.chan c).sync.signal then ((s.formatted f).chan c).acquire else (s.formatted f).chan c := by
  have chan := State.resumeSignals_chan (formatBase_fresh s f) (fun c => (s.chan c).sync.signal) c
  rwa [State.formatBase_chan] at chan

/-- What a FORMAT_SET posts once every channel has been reset: the changes of the clocks' states, the reference's, and
the streams that are reported again (R18, R119, R193). -/
theorem State.setFormat_posted : (s.formatted f).Posted (s.setFormat f) fun l =>
    ((∃ c, (s.chan c).clock.status ≠ ((s.formatted f).chan c).clock.status ∧ l = .channel .clockChange c)
      ∨ l = .referenceChange) ∨ ∃ c, (s.chan c).sync.signal = true ∧ l = .channel .signerChange c := by
  have changed : (s.formatted f).Posted (s.formatBase f) fun l =>
      (∃ c, (s.chan c).clock.status ≠ ((s.formatted f).chan c).clock.status ∧ l = .channel .clockChange c)
        ∨ l = .referenceChange :=
    (State.postClockChanges_posted _ s _).trans (.postAll _ _)
  exact changed.trans (State.resumeSignals_posted (formatBase_fresh s f) fun c => (s.chan c).sync.signal)

/-- A channel's own values after FORMAT_SET. -/
theorem setFormat_channel (c : Channel) : ∃ e : DelayLine, e.slewInterval = (s.chan c).delay.slewInterval
    ∧ (s.setFormat f).chan c = if (s.chan c).sync.signal
      then (((s.chan c).channelReset (s.windowAfterReset c) e).formatSet s.format f).acquire
      else ((s.chan c).channelReset (s.windowAfterReset c) e).formatSet s.format f := by
  obtain ⟨e, slew, chan⟩ := s.formatted_channel f c
  exact ⟨e, slew, by rw [State.setFormat_chan, chan]⟩

/-- A calibration unit after a channel reset and FORMAT_SET: a run aborted, the latency at its default (R163, R167). -/
theorem Calibration.formatSet_eq (k : Calibration) :
    ({ (if k.running then k.finish .aborted else k) with latency := 8, lastMeasured := none } : Calibration)
      = { k with
          latency := 8, running := false, lastMeasured := none
          lastResult := if k.running then .aborted else k.lastResult
          inserting := (if k.running then k.finish .aborted else k).inserting } := by
  cases running : k.running
  · simp [running]
  · simp [Calibration.finish]

theorem setFormat_column (c : Channel) :
    let u := s.setFormat f
    (u.chan c).clock = (match (s.chan c).clock.source with
            | .embedded => { (s.chan c).clock with
                status := .invalid, value := 0, freewheelCount := 0, lastValid := none,
                pendingPreset := none }
            | .internal => { (s.chan c).clock with
                status := .valid, value := 0, freewheelCount := 0, lastValid := some 0,
                pendingPreset := none })
          ∧ (u.chan c).scheduler = {
              timed := [], contact := [], ring := [], total := 0, hold := ⟨false, false, false⟩
              resume := false, reported := false, scan := none
              lateTolerance := (s.chan c).scheduler.lateTolerance }
          ∧ (u.chan c).presets = (if height s.timing.format = height f
              then (s.chan c).presets.map fun x => { x with layout := fitLayout f x.layout }
              else Bank.fill 8 (defaultPreset f))
          ∧ (u.chan c).window = Window.afterReset ((u.chan c).presets.pick 0).layout
              (s.chan c).window.fade (s.contactLevel .suppress c) false (s.contactLevel .hold c)
          ∧ (u.chan c).sync.AfterReset (s.chan c).sync.holdLimit (s.chan c).sync.policy
              (s.chan c).sync.signal
          ∧ (u.chan c).delay.AfterReset (s.chan c).delay.slewInterval
          ∧ (u.chan c).calibration = { (s.chan c).calibration with
              latency := 8, running := false, lastMeasured := none
              lastResult := if (s.chan c).calibration.running then .aborted
                else (s.chan c).calibration.lastResult
              inserting := (u.chan c).calibration.inserting } := by
  intro u
  obtain ⟨e, slew, chan⟩ := setFormat_channel s f c
  have kept : ∀ {γ : Type} (g : ChannelState → γ), (∀ y v, g (ChannelState.setSync y v) = g y) →
      g (u.chan c) = g (((s.chan c).channelReset (s.windowAfterReset c) e).formatSet s.format f) := by
    intro γ g h
    rw [chan]
    split
    · exact h _ _
    · rfl
  refine ⟨?_, ?_, ?_, ?_, ?_, ?_, ?_⟩
  · rw [kept (·.clock) fun _ _ => rfl]
    rfl
  · rw [kept (·.scheduler) fun _ _ => rfl]
    rfl
  · rw [kept (·.presets) fun _ _ => rfl]
    show presetsAfterFormat s.format f (s.chan c).presets = _
    unfold presetsAfterFormat
    rw [ite_not]
    rfl
  · rw [kept (·.window) fun _ _ => rfl, kept (·.presets) fun _ _ => rfl]
    rfl
  · rw [chan]
    exact afterReset_sync _ rfl
  · rw [kept (·.delay) fun _ _ => rfl, ← slew]
    rfl
  · rw [kept (·.calibration) fun _ _ => rfl]
    exact ((s.chan c).calibration.formatSet_eq)

/-- The latches a port holds after FORMAT_SET (R193). -/
theorem setFormat_holds (q : PortId) (l : Latch) : (((s.setFormat f).port q).holds l) = (match l with
            | .replyOverrun => (s.port q).holds l
            | .referenceChange => (s.port q).holds l || (s.port q).enables l
            | .channel k c => (s.port q).enables l && (match k with
              | .signerChange => (s.chan c).sync.signal
              | .suppressionChange => false
              | .calibrationDone => (s.chan c).calibration.running
                  && decide ((s.chan c).calibration.origin = some q)
              | .cueOutcome => false
              | .delaySettled => false
              | .clockChange =>
                  decide ((s.chan c).clock.status ≠ ((s.setFormat f).chan c).clock.status))) := by
  have clock : ∀ c, ((s.formatted f).chan c).clock = ((s.setFormat f).chan c).clock := by
    intro c
    rw [State.setFormat_chan]
    split <;> rfl
  have enables : ((s.formatted f).port q).enables l = (s.port q).enables l := by
    rw [State.formatted_port]
    exact Port.enables_of_unlatched (s.resetAll_unlatched q) l
  rw [Bool.eq_iff_iff, ((s.setFormat_posted f) q).2, enables, State.formatted_port, State.resetAll_holds]
  simp only [clock, State.RunDone]
  cases l with
  | replyOverrun => simp
  | referenceChange => simp
  | channel k c => cases k <;> simp <;> tauto

end

/-- Settles O4: the channels' resets, the format's own values, and the latches one posting after another. -/
theorem formatSetValues : Obligations.FormatSetValues := by
  intro s p tag format supervisor room
  have run : ∀ {u : State} {completion : Completion}, formatSet format s = (u, ⟨completion, []⟩) →
      exec (.formatSet p tag format) s = .next (u.replied p tag 0x3B completion []) := by
    intro u completion owner
    have command : requestCommand p tag (.formatSet format) = .formatSet p tag format := rfl
    have number : requestCode (.formatSet format) = 0x3B := rfl
    exact exec_replied command number (by simp) room (fun _ => supervisor) owner
  refine ⟨fun f known => ?_, fun unknown => run (by simp only [formatSet, unknown, refuse])⟩
  obtain ⟨timing, gpis, tallies, pending⟩ := s.setFormat_inner f
  refine ⟨s.setFormat f, run ?_, pending, gpis, tallies, ?_⟩
  · simp only [formatSet, known]
    rfl
  rw [timing]
  refine ⟨rfl, rfl, rfl, rfl, rfl, rfl, rfl, rfl, ?_, fun i => ?_, setFormat_column s f, fun q => ⟨?_, setFormat_holds s f q⟩⟩
  · rw [State.setFormat_eq, State.resumeSignals_free, State.postAll_free, State.postClockChanges_free]
    rfl
  · rw [State.setFormat_eq, State.resumeSignals_slot, State.slot_of_cues (State.postAll_cues ..),
      State.postClockChanges_slot, State.formatted_slot]
  · have posted := ((s.setFormat_posted f) q).unlatched
    rw [State.formatted_port, State.resetAll_unlatched] at posted
    exact (Port.unlatched_iff _ _).1 posted

end Sys2Proof.Machine
end

section
/-! PROOFS. The booth feed and the ancillary part of programme out: what a line of ancillary space carries through the
removal of markers and the insertion of one (R4, R114, R115, R153, R154, R198). -/

namespace Sys2Proof.Machine

open Sys2Proof

/-! ## The packets of a line -/

/-- The packet an item of ancillary space is, if it is one. -/
def itemPacket : AncItem → Option Packet
  | .packet p => some p
  | .space _ => none

/-- The packets of a line of ancillary space, in order. -/
def linePackets (line : List AncItem) : List Packet := line.filterMap itemPacket

@[simp] theorem linePackets_nil : linePackets [] = [] := rfl

@[simp] theorem linePackets_packet (p : Packet) (line : List AncItem) :
    linePackets (.packet p :: line) = p :: linePackets line := rfl

@[simp] theorem linePackets_space (n : Nat) (line : List AncItem) :
    linePackets (.space n :: line) = linePackets line := rfl

@[simp] theorem linePackets_append (a b : List AncItem) :
    linePackets (a ++ b) = linePackets a ++ linePackets b :=
  List.filterMap_append

/-- Removing the markers of a line leaves its other packets, in order (R154). -/
theorem linePackets_removeMarkers (line : List AncItem) :
    linePackets (removeMarkers line) = (linePackets line).filter fun p => !markerIdentified p := by
  induction line with
  | nil => rfl
  | cons i line ih =>
    cases i with
    | space n => exact ih
    | packet p =>
      have next : removeMarkers (.packet p :: line)
          = (if markerIdentified p then .space (ancRoom (.packet p)) else .packet p) :: removeMarkers line := rfl
      rw [next, linePackets_packet]
      by_cases marker : markerIdentified p = true
      · rw [if_pos marker, linePackets_space, ih, List.filter_cons_of_neg (by simp [marker])]
      · rw [if_neg marker, linePackets_packet, ih, List.filter_cons_of_pos (by simpa using marker)]

/-- A removed marker leaves its room empty (R154). -/
theorem removeMarkers_room (line : List AncItem) :
    (removeMarkers line).map ancRoom = line.map ancRoom := by
  induction line with
  | nil => rfl
  | cons i line ih =>
    cases i with
    | space n => exact congrArg (ancRoom (.space n) :: ·) ih
    | packet p =>
      have room : ancRoom (if markerIdentified p then .space (ancRoom (.packet p)) else .packet p)
          = ancRoom (.packet p) := by
        split <;> rfl
      exact congrArg₂ (· :: ·) room ih

/-! ## A packet put ahead of a line (R198) -/

theorem linePackets_takeSpace (n : Nat) (line : List AncItem) :
    linePackets (takeSpace n line) = linePackets line := by
  induction line generalizing n with
  | nil => rfl
  | cons i line ih =>
    cases i with
    | packet p => exact congrArg (p :: ·) (ih n)
    | space k =>
      unfold takeSpace
      split
      · exact ih _
      · rfl

theorem linePackets_fitLine (room used : Nat) (line : List AncItem) :
    (linePackets (fitLine room used line).1 ++ (fitLine room used line).2).Perm (linePackets line) := by
  induction line generalizing used with
  | nil => rfl
  | cons i line ih =>
    cases i with
    | space k => exact ih _
    | packet p =>
      unfold fitLine
      dsimp only
      split
      · exact (ih _).cons p
      · exact List.perm_middle.trans ((ih _).cons p)

/-- What is dropped from the front of a line holds no packet where only empty space is dropped. -/
theorem linePackets_dropWhile {f : AncItem → Bool} (h : ∀ p, f (.packet p) = false) (line : List AncItem) :
    linePackets (line.dropWhile f) = linePackets line := by
  induction line with
  | nil => rfl
  | cons i line ih =>
    cases i with
    | packet p => rw [List.dropWhile_cons_of_neg (by simp [h])]
    | space n =>
      rw [List.dropWhile_cons]
      split
      · exact ih
      · rfl

theorem linePackets_trimLine (line : List AncItem) : linePackets (trimLine line) = linePackets line := by
  have back : ∀ l : List AncItem, linePackets l.reverse = (linePackets l).reverse := fun l =>
    List.filterMap_reverse
  unfold trimLine
  rw [back, linePackets_dropWhile (fun _ => rfl), back, List.reverse_reverse]

/-- A displaced packet is put on one line or left out; every other packet stays (R198). -/
theorem linePackets_placePacket (f : Format) (p : Packet) (n : Nat) (lines : List (List AncItem)) :
    ((placePacket f p n lines).flatMap linePackets).Subperm (p :: lines.flatMap linePackets) := by
  induction lines generalizing n with
  | nil => exact List.nil_subperm
  | cons line rest ih =>
    unfold placePacket
    split
    · rw [List.flatMap_cons, List.flatMap_cons, linePackets_append, linePackets_trimLine]
      refine List.Perm.subperm ?_
      rw [List.append_assoc]
      exact List.perm_middle
    · rw [List.flatMap_cons, List.flatMap_cons]
      exact ((List.subperm_append_left _).2 (ih _)).trans List.perm_middle.subperm

theorem linePackets_placeAll (f : Format) (moved : List Packet) (lines : List (List AncItem)) :
    ((moved.foldl (fun ls q => placePacket f q 1 ls) lines).flatMap linePackets).Subperm
      (moved ++ lines.flatMap linePackets) := by
  induction moved generalizing lines with
  | nil => exact List.Subperm.refl _
  | cons q moved ih =>
    have placed := (List.subperm_append_left moved).2 (linePackets_placePacket f q 1 lines)
    exact ((ih _).trans placed).trans List.perm_middle.subperm

theorem flatMap_replicate_nil (lines : List (List AncItem)) (n : Nat) :
    (lines ++ List.replicate n []).flatMap linePackets = lines.flatMap linePackets := by
  have none : (List.replicate n ([] : List AncItem)).flatMap linePackets = [] := by
    induction n with
    | zero => rfl
    | succ n ih => rw [List.replicate_succ, List.flatMap_cons, ih]; rfl
  rw [List.flatMap_append, none, List.append_nil]

/-- A packet put ahead stands first on the first line, and no packet is new but it (R198). -/
theorem insertAhead_packets (f : Format) (p : Packet) {lines : List (List AncItem)}
    (h : 0 < Config.verticalLines f ∨ lines ≠ []) : ∃ items rest, insertAhead f p lines = (.packet p :: items) :: rest
      ∧ (linePackets items ++ rest.flatMap linePackets).Subperm (lines.flatMap linePackets) := by
  unfold insertAhead
  split
  · rename_i empty
    obtain ⟨none, padding⟩ := List.append_eq_nil_iff.1 empty
    subst none
    obtain count | some := h
    · rw [List.replicate_eq_nil_iff, List.length_nil] at padding
      omega
    · exact absurd rfl some
  · rename_i line rest padded
    refine ⟨_, _, rfl, ?_⟩
    have whole : line :: rest |>.flatMap linePackets |>.Subperm (lines.flatMap linePackets) := by
      rw [← padded, flatMap_replicate_nil]
    refine List.Subperm.trans ?_ whole
    rw [List.flatMap_cons]
    have fitted := linePackets_fitLine (Config.lineRoom f 0) (ancRoom (.packet p))
      (takeSpace (ancRoom (.packet p)) line)
    rw [linePackets_takeSpace] at fitted
    refine ((List.subperm_append_left _).2 (linePackets_placeAll f _ rest)).trans ?_
    rw [← List.append_assoc]
    exact (fitted.append_right _).subperm

theorem insertAhead_none {f : Format} (h : Config.verticalLines f = 0) (p : Packet) : insertAhead f p [] = [] := by
  unfold insertAhead
  rw [h]
  rfl

/-! ## The marker packet (R198) -/

/-- An ancillary word carries its 8-bit value in its lower bits. -/
theorem ancWord_value (n : Nat) : (ancWord n).toNat % 256 = n % 256 := by
  unfold ancWord
  rw [BitVec.toNat_append, ← Nat.shiftLeft_add_eq_or_of_lt (BitVec.ofNat 8 n).isLt, Nat.shiftLeft_eq,
    BitVec.toNat_ofNat]
  omega

theorem markerPacket_values (c : Channel) (n : Nat) :
    (markerPacket c n).words.map (fun word => word.toNat % 256)
      = [0x51, 0x2E, 3, c.val, n % 256, 255 - (c.val + n) % 256] := by
  have lt := c.isLt
  simp only [markerPacket, List.map_cons, List.map_nil, ancWord_value]
  rw [Nat.mod_eq_of_lt (show c.val < 256 by omega),
    Nat.mod_eq_of_lt (show 255 - (c.val + n) % 256 < 256 by omega)]

/-! ## The outputs -/

theorem Timing.dark_iff (t : Timing) : t.dark = true ↔ t.relockPeriod = true ∨ t.blanking = true := by
  simp [Timing.dark]

theorem outputs_dark {s : State} (dark : s.timing.dark = true) (c : Channel) :
    s.boothFeed c = blackPart ∧ s.programmeAnc c = noAnc
      ∧ ∀ line x, s.programmeOut c line x = { y0 := 64, y1 := 64, cb := 512, cr := 512 } := by
  refine ⟨if_pos dark, if_pos dark, fun line x => ?_⟩
  exact if_pos dark

theorem boothFeed_lit {s : State} (lit : s.timing.dark = false) (c : Channel) : s.boothFeed c
    = { (s.chan c).latches.booth with
        anc := boothAnc s.format c (s.chan c).calibration.inserting (s.chan c).latches.booth.anc } :=
  if_neg (by simp [lit])

theorem map_removeMarkers_packets (lines : List (List AncItem)) :
    (lines.map removeMarkers).map linePackets
      = lines.map fun line => (linePackets line).filter fun p => !markerIdentified p := by
  rw [List.map_map]
  exact List.map_congr_left fun line _ => linePackets_removeMarkers line

/-- Settles O47: black where the outputs are dark, and otherwise the latched part line by line. -/
theorem boothFeedContents : Obligations.BoothFeedContents := by
  intro s c
  refine ⟨fun dark => outputs_dark ((Timing.dark_iff _).2 dark) c, fun relock blanking => ?_⟩
  have lit : s.timing.dark = false := by simp [Timing.dark, relock, blanking]
  have feed := boothFeed_lit lit c
  dsimp only
  rw [feed]
  refine ⟨if_neg (by simp [lit]), rfl, rfl, map_removeMarkers_packets _, fun none => ⟨?_, ?_⟩, fun n marker =>
    ⟨fun some => ?_, fun zero empty => ?_⟩⟩
  · rw [none]
    exact map_removeMarkers_packets _
  · rw [none]
    show ((s.chan c).latches.booth.anc.vertical.map removeMarkers).map (fun line => (line.map ancRoom).sum) = _
    rw [List.map_map]
    exact List.map_congr_left fun line _ => congrArg List.sum (removeMarkers_room line)
  · rw [marker]
    have lines : 0 < Config.verticalLines s.timing.format
        ∨ (s.chan c).latches.booth.anc.vertical.map removeMarkers ≠ [] :=
      some.imp id fun h => by simpa using h
    obtain ⟨items, rest, inserted, kept⟩ := insertAhead_packets s.timing.format (markerPacket c n) lines
    refine ⟨markerPacket c n, items, rest, inserted, markerPacket_values c n, ?_⟩
    have cleaned : ((s.chan c).latches.booth.anc.vertical.map removeMarkers).flatMap linePackets
        = (s.chan c).latches.booth.anc.vertical.flatMap
          fun line => (linePackets line).filter fun p => !markerIdentified p := by
      rw [List.flatMap_map]
      exact List.flatMap_congr fun line _ => linePackets_removeMarkers line
    rw [cleaned] at kept
    exact kept
  · rw [marker]
    show insertAhead s.timing.format _ ((s.chan c).latches.booth.anc.vertical.map removeMarkers) = []
    rw [empty]
    exact insertAhead_none zero _

end Sys2Proof.Machine
end

section
/-! PROOFS. CHANNEL_CONFIG, the parts of the request: labels kept by a change of drop mode (R34, R67), and the fields
as read and stored (R185, R191). -/

namespace Sys2Proof.Machine

open Sys2Proof

/-! ## A valid label is that of its own number (R9 to R11) -/

/-- A label by its whole ten minutes `q`, the minute `k` of them and the frame `j` of the minute: the number R10
gives it, and the counted value R9 gives it. -/
theorem dropNumber_minutes {l : Label} {q k j : Nat} (minutes : 60 * l.hh + l.mm = 10 * q + k) (hk : k ≤ 9)
    (frames : l.ss * 30 + l.ff = j) :
    dropNumber l = 17982 * q + 1798 * k + j ∧ plainNumber 30 l = 18000 * q + 1800 * k + j := by
  have plain : plainNumber 30 l = 18000 * q + 1800 * k + j := by
    rw [plainNumber_eq, labelSeconds]
    omega
  refine ⟨?_, plain⟩
  rw [dropNumber, plain, minutes]
  omega

/-- A drop-frame number has one place: its whole ten minutes, the minute of them and the frame of the minute. -/
theorem dropPlace_unique {q k j q' k' j' : Nat} (hk : k ≤ 9) (hj : j < 1800) (two : 0 < k → 2 ≤ j)
    (hk' : k' ≤ 9) (hj' : j' < 1800) (two' : 0 < k' → 2 ≤ j')
    (same : 17982 * q + 1798 * k + j = 17982 * q' + 1798 * k' + j') : q = q' ∧ k = k' ∧ j = j' := by
  have tens : q = q' := by omega
  have minute : k = k' := by omega
  omega

/-- The counting of R11 gives a label that drop-frame counting has its place among all labels. -/
theorem dropCounted_dropNumber {l : Label} (ss : l.ss ≤ 59) (ff : l.ff < 30)
    (counted : ¬ (l.ss = 0 ∧ l.ff ≤ 1 ∧ l.mm % 10 ≠ 0)) : dropCounted (dropNumber l) = plainNumber 30 l := by
  obtain ⟨number, plain⟩ := dropNumber_minutes (l := l) (q := (60 * l.hh + l.mm) / 10)
    (k := (60 * l.hh + l.mm) % 10) (Nat.div_add_mod _ 10).symm (by omega) rfl
  obtain ⟨q, k, j, hk, hj, two, found, result⟩ := dropCounted_eq (dropNumber l)
  obtain ⟨tens, minute, frame⟩ := dropPlace_unique (by omega) (by omega) (by omega) hk hj two
    (number.symm.trans found)
  rw [result, plain, tens, minute, frame]

theorem labelOf_frameNumber {f : Format} {m : DropMode} {l : Label} (valid : labelValid f m l = true) :
    labelOf f m (frameNumber f m l) = l := by
  obtain ⟨⟨-, mm, ss, ff⟩, counted⟩ := (labelValid_iff f m l).1 valid
  cases drop : dropFrame f m
  · simpa [frameNumber, labelOf, drop] using plainLabel_plainNumber mm ss ff
  · have fps : framesPerSecond f = 30 := by simp [framesPerSecond, fractional_of_dropFrame drop]
    rw [fps] at ff
    have place := dropCounted_dropNumber ss ff fun left_out => counted ⟨drop, left_out⟩
    simp only [frameNumber, labelOf, drop, if_true, place]
    exact plainLabel_plainNumber mm ss ff

/-! ## The label kept (R34, R67) -/

theorem labelValid_ndf_of_df {f : Format} {l : Label} (valid : labelValid f .df l = true) :
    labelValid f .ndf l = true := by
  rw [labelValid_iff] at *
  exact ⟨valid.1, by simp [dropFrame]⟩

/-- A conversion from one drop mode to the other, as R34 words it: the label kept where both have it. -/
theorem convertNumber_eq {f : Format} {old new : DropMode} (change : new ≠ old) (n : Nat) :
    convertNumber f old new n = frameNumber f new
      (if old = .df ∨ labelValid f .df (labelOf f old n) then labelOf f old n
        else { labelOf f old n with ff := 2 }) := by
  cases old <;> cases new
  case df.df | ndf.ndf => exact absurd rfl change
  case df.ndf => simp [convertNumber]
  case ndf.df => simp [convertNumber, countedLabel]

theorem labelOf_convertNumber {f : Format} {old new : DropMode} (change : new ≠ old) {n : Nat}
    (lt : n < dayLength f old) : labelOf f new (convertNumber f old new n)
      = if labelValid f new (labelOf f old n) then labelOf f old n else { labelOf f old n with ff := 2 } := by
  have valid := labelValid_labelOf lt
  cases old <;> cases new
  case df.df | ndf.ndf => exact absurd rfl change
  case df.ndf =>
    have valid := labelValid_ndf_of_df valid
    rw [if_pos valid]
    exact labelOf_frameNumber valid
  case ndf.df => exact labelOf_frameNumber (labelValid_countedLabel valid)

/-! ## The fields of the request (R191) -/

theorem readSource_eq_some {b : Byte} {x : Source} (h : sourceByte x = b) : readSource b = some x := by
  subst h
  cases x <;> rfl

theorem readDropMode_eq_some {b : Byte} {x : DropMode} (h : dropModeByte x = b) : readDropMode b = some x := by
  subst h
  cases x <;> rfl

theorem readPolicy_eq_some {b : Byte} {x : LossPolicy} (h : policyByte x = b) : readPolicy b = some x := by
  subst h
  cases x <;> rfl

theorem readSource_eq_none {b : Byte} (h : 2 ≤ b.toNat) : readSource b = none := by
  unfold readSource
  split
  · omega
  · omega
  · rfl

theorem readDropMode_eq_none {b : Byte} (h : 2 ≤ b.toNat) : readDropMode b = none := by
  unfold readDropMode
  split
  · omega
  · omega
  · rfl

theorem readPolicy_eq_none {b : Byte} (h : 3 ≤ b.toNat) : readPolicy b = none := by
  unfold readPolicy
  split
  · omega
  · omega
  · omega
  · rfl

/-- A value the request does not define is refused (R184, R191). -/
theorem channelConfig_badParam {ch : Byte} {f : ConfigFields} (s : State)
    (wrong : 4 ≤ ch.toNat ∨ 2 ≤ f.source.toNat ∨ 2 ≤ f.dropMode.toNat ∨ 3 ≤ f.lossPolicy.toNat) :
    channelConfig ch f s = (s, refuse .badParam) := by
  obtain high | high := wrong
  · simp only [channelConfig, readChannel_none high]
  · have none : readConfiguration f = none := by
      obtain high | high | high := high
      · simp only [readConfiguration, readSource_eq_none high]
      · rw [readConfiguration, readDropMode_eq_none high]
        cases readSource f.source <;> rfl
      · rw [readConfiguration, readPolicy_eq_none high]
        cases readSource f.source <;> cases readDropMode f.dropMode <;> rfl
    cases channel : readChannel ch <;> simp only [channelConfig, channel, none]

/-- The fields as they are stored: each limit within its range (R191). -/
def storedFields (f : ConfigFields) (source : Source) (mode : DropMode) (policy : LossPolicy) :
    Configuration :=
  { source := source
    dropMode := mode
    freewheelLimit := min 250 f.freewheelLimit.toNat
    lateTolerance := min 250 f.lateTolerance.toNat
    holdLimit := min 250 (max 1 f.holdLimit.toNat)
    policy := policy
    slewInterval := min 250 (max 1 f.slewInterval.toNat)
    fade := min 250 f.fade.toNat }

theorem readConfiguration_some {f : ConfigFields} {source : Source} {mode : DropMode} {policy : LossPolicy}
    (hs : sourceByte source = f.source) (hm : dropModeByte mode = f.dropMode)
    (hp : policyByte policy = f.lossPolicy) :
    readConfiguration f = some (storedFields f source mode policy) := by
  rw [readConfiguration, readSource_eq_some hs, readDropMode_eq_some hm, readPolicy_eq_some hp]
  rfl

/-- Whether a field is stored other than as written, as R185 words it. -/
theorem configurationClamped_eq (f : ConfigFields) : configurationClamped f
    = decide (f.freewheelLimit.toNat ≠ min 250 f.freewheelLimit.toNat
      ∨ f.lateTolerance.toNat ≠ min 250 f.lateTolerance.toNat
      ∨ f.holdLimit.toNat ≠ min 250 (max 1 f.holdLimit.toNat)
      ∨ f.slewInterval.toNat ≠ min 250 (max 1 f.slewInterval.toNat)
      ∨ f.fade.toNat ≠ min 250 f.fade.toNat) := by
  have above : ∀ n : Nat, 250 < n ↔ n ≠ min 250 n := fun n => by omega
  have outside : ∀ n : Nat, clampTo 1 250 n ≠ n ↔ n ≠ min 250 (max 1 n) := fun n => ne_comm
  simp only [configurationClamped, ← Bool.decide_or, above, outside, or_assoc]

end Sys2Proof.Machine
end

section
/-! PROOFS. CHANNEL_CONFIG, its effect on one channel: the window that follows a member of its suppression set, the
fields applied one after another, and what is posted (R12, R18, R34, R58, R59, R67, R130, R191). -/

namespace Sys2Proof.Machine

open Sys2Proof

/-! ## A window that follows its suppression set (R52, R53, R59) -/

/-- What the window state machine leaves of a window: all but its state, opacity and ramp, its geometry and its
moves (R53, R56). -/
def Window.settings (w : Window) : Bool × Suppression × Bool × Bank 4 Span × Bool × Nat :=
  (w.requested, w.suppression, w.contactHold, w.spans, w.spanMatch, w.fade)

theorem Window.enterOff_settings (w : Window) (presets : Bank 8 Preset) :
    (w.enterOff presets).settings = w.settings := by
  unfold Window.enterOff Window.applyPending Window.endMove
  repeat' split
  all_goals rfl

theorem Window.react_settings (w : Window) (presets : Bank 8 Preset) (d : Nat) :
    (w.react presets d).settings = w.settings := by
  unfold Window.react
  repeat' split
  case' h_2.isFalse | h_3.isFalse => exact Window.enterOff_settings w presets
  all_goals rfl

theorem Window.follow_settings (before after : Window) (presets : Bank 8 Preset) (d : Nat) :
    (before.follow after presets d).settings = after.settings := by
  unfold Window.follow
  split
  · rfl
  · exact Window.react_settings after presets d

theorem Window.follow_self (w : Window) (presets : Bank 8 Preset) (d : Nat) : w.follow w presets d = w :=
  if_pos rfl

theorem Suppression.put_has (x : Suppression) (m : Member) : x.put m (x.has m) = x := by
  cases m <;> rfl

/-- A window after its span result is set, SPAN following it (R59, R64). -/
def Window.spanned (w : Window) (presets : Bank 8 Preset) (b : Bool) : Window :=
  ({ w with spanMatch := b }).follow
    { w with spanMatch := b, suppression := { w.suppression with span := b } } presets w.fade

/-- A window after the SIGNER member follows its level (R59, R128). -/
def Window.signed (w : Window) (presets : Bank 8 Preset) (b : Bool) : Window :=
  w.follow { w with suppression := { w.suppression with signer := b } } presets w.fade

theorem Window.spanned_self {w : Window} (presets : Bank 8 Preset) (h : w.suppression.span = w.spanMatch) :
    w.spanned presets w.spanMatch = w := by
  change w.follow { w with suppression := { w.suppression with span := w.spanMatch } } presets w.fade = w
  have same : ∀ b, w.suppression.span = b → { w.suppression with span := b } = w.suppression := by
    rintro b rfl
    rfl
  rw [same _ h]
  exact Window.follow_self w presets w.fade

theorem Window.spanned_settings (w : Window) (presets : Bank 8 Preset) (b : Bool) :
    (w.spanned presets b).settings
      = (w.requested, { w.suppression with span := b }, w.contactHold, w.spans, b, w.fade) :=
  Window.follow_settings ..

theorem Window.signed_settings (w : Window) (presets : Bank 8 Preset) (b : Bool) :
    (w.signed presets b).settings
      = (w.requested, { w.suppression with signer := b }, w.contactHold, w.spans, w.spanMatch, w.fade) :=
  Window.follow_settings ..

/-! ## A change of one channel -/

/-- Between two states one channel took the record given, the other channels, the timing unit, the pool, the
contact inputs, the tally outputs and the queue stay, and the ports gained the latches given. The cue slots are
not spoken of. -/
structure State.Became (s t : State) (c : Channel) (x : ChannelState) (posted : Latch → Prop) : Prop where
  inner : s.Inner t
  free : t.free = s.free
  chan : ∀ d, t.chan d = if d = c then x else s.chan d
  latches : s.Posted t posted

namespace State.Became

variable {s t u : State} {c : Channel} {x y : ChannelState} {a b : Latch → Prop}

theorem own (h : s.Became t c x a) : t.chan c = x := (h.chan c).trans (if_pos rfl)

theorem timing (h : s.Became t c x a) : t.timing = s.timing := h.inner.1

theorem frame (h : s.Became t c x a) :
    t = { s with cues := t.cues, channels := t.channels, ports := t.ports } := by
  obtain ⟨⟨timing, gpis, tallies, pending⟩, free, -, -⟩ := h
  cases t
  simp only at timing gpis tallies pending free
  simp only [timing, gpis, tallies, pending, free]

theorem refl (s : State) (c : Channel) : s.Became s c (s.chan c) fun _ => False := by
  refine ⟨.refl s, rfl, fun d => ?_, .of_ports rfl⟩
  split
  · rename_i hd; rw [hd]
  · rfl

theorem trans (h : s.Became t c x a) (g : t.Became u c y b) : s.Became u c y fun l => a l ∨ b l := by
  refine ⟨h.inner.trans g.inner, g.free.trans h.free, fun d => ?_, h.latches.trans g.latches⟩
  rw [g.chan, h.chan]
  split <;> rfl

theorem congr (h : s.Became t c x a) (same : x = y) (posted : ∀ l, a l ↔ b l) : s.Became t c y b :=
  ⟨h.inner, h.free, same ▸ h.chan, h.latches.congr posted⟩

theorem modChan (s : State) (c : Channel) (f : ChannelState → ChannelState) :
    s.Became (s.modChan c f) c (f (s.chan c)) fun _ => False :=
  ⟨.modChan s c f, rfl, fun d => s.modChan_chan c d f, .of_ports rfl⟩

theorem postAll (h : s.Became t c x a) (l : Latch) : s.Became (t.postAll l) c x fun k => a k ∨ k = l :=
  ⟨h.inner.trans (.postAll t l), h.free, fun d => (t.postAll_chan l d).trans (h.chan d),
    h.latches.trans (.postAll t l)⟩

/-- A member put into a channel's suppression set or taken out (R58, R62). -/
theorem setMember (s : State) (c : Channel) (m : Member) (b : Bool) :
    s.Became (s.setMember c m b) c
      ((s.chan c).setWindow ((s.chan c).window.follow { (s.chan c).window with
        suppression := (s.chan c).window.suppression.put m b } (s.chan c).presets (s.chan c).window.fade))
      fun l => l = .channel .suppressionChange c ∧ (s.chan c).window.suppression.has m ≠ b := by
  unfold State.setMember
  split
  · rename_i same
    refine (State.Became.refl s c).congr ?_ fun _ => by simp [same]
    rw [← same, Suppression.put_has, Window.follow_self]
    rfl
  · rename_i differs
    exact ((State.Became.modChan s c _).postAll _).congr rfl fun _ => by simp [differs]

/-- A member that follows a change of its channel. -/
theorem modChan_setMember (s : State) (c : Channel) (f : ChannelState → ChannelState) (m : Member) (b : Bool) :
    s.Became ((s.modChan c f).setMember c m b) c
      ((f (s.chan c)).setWindow ((f (s.chan c)).window.follow { (f (s.chan c)).window with
        suppression := (f (s.chan c)).window.suppression.put m b } (f (s.chan c)).presets
          (f (s.chan c)).window.fade))
      fun l => l = .channel .suppressionChange c ∧ (f (s.chan c)).window.suppression.has m ≠ b := by
  have followed := State.Became.setMember (s.modChan c f) c m b
  rw [State.modChan_chan_same] at followed
  exact ((State.Became.modChan s c f).trans followed).congr rfl fun _ => by simp only [false_or]

theorem setSpanResult (s : State) (c : Channel) (b : Bool) :
    s.Became (s.setSpanResult c b) c
      ((s.chan c).setWindow ((s.chan c).window.spanned (s.chan c).presets b))
      fun l => l = .channel .suppressionChange c ∧ (s.chan c).window.suppression.span ≠ b :=
  State.Became.modChan_setMember s c (fun x => x.setWindow { x.window with spanMatch := b }) .span b

theorem setLevel (s : State) (c : Channel) (b : Bool) :
    s.Became (s.setLevel c b) c (((s.chan c).setSync { (s.chan c).sync with level := b }).setWindow
        ((s.chan c).window.signed (s.chan c).presets b))
      fun l => l = .channel .suppressionChange c ∧ (s.chan c).window.suppression.signer ≠ b :=
  State.Became.modChan_setMember s c (fun x => x.setSync { x.sync with level := b }) .signer b

end State.Became

/-! ## The timecode source and the loss policy (R12, R130) -/

/-- A clock after its source is written (R12). -/
def CueClock.sourced (k : CueClock) (source : Source) : CueClock :=
  if source = k.source then k else k.changeSource source

theorem CueClock.sourced_source (k : CueClock) (source : Source) : (k.sourced source).source = source := by
  unfold CueClock.sourced
  split
  · rename_i same; exact same.symm
  · cases source <;> rfl

theorem CueClock.sourced_dropMode (k : CueClock) (source : Source) :
    (k.sourced source).dropMode = k.dropMode := by
  unfold CueClock.sourced
  split
  · rfl
  · cases source <;> rfl

theorem State.Became.setSource (s : State) (c : Channel) (source : Source) :
    s.Became (s.setSource c source) c ((s.chan c).setClock ((s.chan c).clock.sourced source))
      fun l => l = .channel .clockChange c ∧ source ≠ (s.chan c).clock.source := by
  unfold State.setSource CueClock.sourced
  split
  · rename_i same
    rw [if_pos same.symm]
    exact (State.Became.refl s c).congr rfl fun _ => by simp [same]
  · rename_i differs
    rw [if_neg (Ne.symm differs)]
    exact ((State.Became.modChan s c _).postAll _).congr rfl fun _ => by simp [Ne.symm differs]

theorem State.setSource_cues (s : State) (c : Channel) (source : Source) :
    (s.setSource c source).cues = s.cues := by
  unfold State.setSource
  split <;> rfl

theorem State.Became.setPolicy (s : State) (c : Channel) (policy : LossPolicy) :
    s.Became (s.setPolicy c policy) c
      (((s.chan c).setSync { (s.chan c).sync with
          policy := policy, level := (s.chan c).sync.levelUnder policy }).setWindow
        ((s.chan c).window.signed (s.chan c).presets ((s.chan c).sync.levelUnder policy)))
      fun l => l = .channel .suppressionChange c
        ∧ (s.chan c).window.suppression.signer ≠ (s.chan c).sync.levelUnder policy := by
  have levelled := State.Became.setLevel (s.modChan c fun x => x.setSync { x.sync with policy := policy }) c
    ((s.chan c).sync.levelUnder policy)
  rw [State.modChan_chan_same] at levelled
  exact ((State.Became.modChan s c _).trans levelled).congr rfl fun _ => by simp only [false_or]; rfl

end Sys2Proof.Machine
end

section
/-! PROOFS. CHANNEL_CONFIG, the drop mode: the clock, the cues and the spans converted, and the window that follows
the span result (R12, R18, R34, R67). -/

namespace Sys2Proof.Machine

open Sys2Proof

/-- A write of the drop mode that is a change in a 29.97 frame/s format (R12). -/
abbrev CueClock.Converts (k : CueClock) (f : Format) (mode : DropMode) : Prop :=
  mode ≠ k.dropMode ∧ fractional f = true

/-- A clock after its drop mode is written (R12). -/
def CueClock.moded (k : CueClock) (f : Format) (mode : DropMode) : CueClock :=
  if k.Converts f mode then k.changeDropMode mode (dayLength f mode) else { k with dropMode := mode }

/-- The spans of a window after the drop mode is written (R67). -/
def Window.modedSpans (w : Window) (k : CueClock) (f : Format) (mode : DropMode) : Bank 4 Span :=
  if k.Converts f mode then w.spans.map fun y => y.convert f k.dropMode mode else w.spans

/-- The span result after the drop mode is written (R67). -/
def ChannelState.modedResult (x : ChannelState) (f : Format) (mode : DropMode) : Bool :=
  if x.clock.Converts f mode ∧ x.clock.source = .internal then
    ({ x.window with spans := x.window.modedSpans x.clock f mode }).spanTest (x.clock.moded f mode).value
  else x.window.spanMatch

/-- The window after the drop mode is written (R59, R67). -/
def ChannelState.modedWindow (x : ChannelState) (f : Format) (mode : DropMode) : Window :=
  ({ x.window with spans := x.window.modedSpans x.clock f mode }).spanned x.presets (x.modedResult f mode)

/-- The scheduler of a channel after the drop mode is written (R34). -/
def State.modedScheduler (s : State) (c : Channel) (mode : DropMode) : Scheduler :=
  if (s.chan c).clock.Converts s.format mode then s.convertScheduler c (s.dropMode c) mode
  else (s.chan c).scheduler

/-- A channel after the drop mode is written (R12, R34, R67). -/
def State.modedChannel (s : State) (c : Channel) (mode : DropMode) : ChannelState :=
  (((s.chan c).setClock ((s.chan c).clock.moded s.format mode)).setScheduler
    (s.modedScheduler c mode)).setWindow ((s.chan c).modedWindow s.format mode)

section
variable (s : State) (c : Channel) (old new : DropMode)

theorem State.convertCues_ports : (s.convertCues c old new).ports = s.ports := by
  refine foldl_keeps _ State.ports (fun u i => ?_) (s.chan c).scheduler.timed s
  unfold State.convertCue
  repeat' split
  all_goals rfl

theorem State.convertCues_free : (s.convertCues c old new).free = s.free := by
  refine foldl_keeps _ State.free (fun u i => ?_) (s.chan c).scheduler.timed s
  unfold State.convertCue
  repeat' split
  all_goals rfl

theorem State.Became.convertCues : s.Became (s.convertCues c old new) c
    ((s.chan c).setScheduler (s.convertScheduler c old new)) fun _ => False :=
  ⟨.convertCues s c old new, s.convertCues_free c old new, s.convertCues_chan c old new,
    .of_ports (s.convertCues_ports c old new)⟩

theorem State.Became.changeDropMode : s.Became (s.changeDropMode c new) c
    ((s.chan c).setClock ((s.chan c).clock.changeDropMode new (dayLength s.format new)))
    fun l => l = .channel .clockChange c ∧ (s.chan c).clock.status
      ≠ ((s.chan c).clock.changeDropMode new (dayLength s.format new)).status := by
  have written := State.Became.modChan s c fun x =>
    x.setClock ((s.chan c).clock.changeDropMode new (dayLength s.format new))
  unfold State.changeDropMode
  dsimp only
  split
  · rename_i same
    exact written.congr rfl fun _ => by simp [same]
  · rename_i differs
    exact (written.postAll _).congr rfl fun _ => by simp [differs]

/-- The cues and the clock converted (R12, R34). -/
theorem State.Became.convertPlan : s.Became (s.convertPlan c old new) c
    (((s.chan c).setScheduler (s.convertScheduler c old new)).setClock
      ((s.chan c).clock.changeDropMode new (dayLength s.format new)))
    fun l => l = .channel .clockChange c ∧ (s.chan c).clock.status
      ≠ ((s.chan c).clock.changeDropMode new (dayLength s.format new)).status := by
  have cues := State.Became.convertCues s c old new
  have clock := State.Became.changeDropMode (s.convertCues c old new) c new
  rw [cues.own, State.format, cues.timing] at clock
  exact (cues.trans clock).congr rfl fun _ => by simp only [false_or]; rfl

/-- The spans converted, and the span result with them where the clock is INTERNAL (R67). -/
theorem State.Became.convertSpans (level : (s.chan c).window.suppression.span = (s.chan c).window.spanMatch) :
    let spans := (s.chan c).window.spans.map fun y => y.convert s.format old new
    let result := if (s.chan c).clock.source = .internal then
      ({ (s.chan c).window with spans := spans }).spanTest (s.chan c).clock.value
      else (s.chan c).window.spanMatch
    s.Became (s.convertSpans c old new) c ((s.chan c).setWindow
        (({ (s.chan c).window with spans := spans }).spanned (s.chan c).presets result))
      fun l => l = .channel .suppressionChange c ∧ result ≠ (s.chan c).window.spanMatch := by
  intro spans result
  have written := State.Became.modChan s c fun x => x.setWindow
    { x.window with spans := x.window.spans.map fun y => y.convert s.format old new }
  unfold State.convertSpans
  dsimp only
  split
  · rename_i embedded
    have kept : result = (s.chan c).window.spanMatch := if_neg (by simp [embedded])
    refine written.congr ?_ fun _ => by simp [kept]
    rw [kept, Window.spanned_self (w := { (s.chan c).window with spans := spans }) _ level]
  · rename_i source
    have internal : (s.chan c).clock.source = .internal := by
      cases h : (s.chan c).clock.source
      · exact absurd h source
      · rfl
    have computed : result = ({ (s.chan c).window with spans := spans }).spanTest (s.chan c).clock.value :=
      if_pos internal
    have set := State.Became.setSpanResult (s.modChan c fun x => x.setWindow
      { x.window with spans := x.window.spans.map fun y => y.convert s.format old new }) c result
    rw [written.own] at set
    rw [written.own]
    exact computed ▸ (written.trans set).congr rfl fun _ => by
      simp only [false_or, ChannelState.setWindow_window, level, ne_comm]

end

/-! ## The drop mode written (R12) -/

theorem CueClock.moded_of_not {k : CueClock} {f : Format} {mode : DropMode} (h : ¬ k.Converts f mode) :
    k.moded f mode = { k with dropMode := mode } :=
  if_neg h

theorem CueClock.moded_status_of_not {k : CueClock} {f : Format} {mode : DropMode} (h : ¬ k.Converts f mode) :
    (k.moded f mode).status = k.status := by
  rw [CueClock.moded_of_not h]

theorem ChannelState.modedResult_of_not {x : ChannelState} {f : Format} {mode : DropMode}
    (h : ¬ x.clock.Converts f mode ∨ x.clock.source = .embedded) :
    x.modedResult f mode = x.window.spanMatch := by
  refine if_neg fun ⟨converts, internal⟩ => ?_
  obtain h | h := h
  · exact h converts
  · simp [h] at internal

/-- A channel whose drop mode is written without a conversion: its clock takes the mode, and nothing else. -/
theorem State.modedChannel_of_not {s : State} {c : Channel} {mode : DropMode}
    (h : ¬ (s.chan c).clock.Converts s.format mode)
    (level : (s.chan c).window.suppression.span = (s.chan c).window.spanMatch) :
    s.modedChannel c mode = (s.chan c).setClock { (s.chan c).clock with dropMode := mode } := by
  have window : (s.chan c).modedWindow s.format mode = (s.chan c).window := by
    rw [ChannelState.modedWindow, Window.modedSpans, if_neg h, ChannelState.modedResult_of_not (.inl h)]
    exact Window.spanned_self _ level
  rw [State.modedChannel, State.modedScheduler, if_neg h, CueClock.moded_of_not h, window]
  rfl

theorem CueClock.changeDropMode_source (k : CueClock) (mode : DropMode) (day : Nat) :
    (k.changeDropMode mode day).source = k.source := by
  unfold CueClock.changeDropMode
  split <;> rfl

theorem State.Became.setDropMode (s : State) (c : Channel) (mode : DropMode)
    (level : (s.chan c).window.suppression.span = (s.chan c).window.spanMatch) :
    s.Became (s.setDropMode c mode) c (s.modedChannel c mode) fun l =>
      (l = .channel .clockChange c
        ∧ (s.chan c).clock.status ≠ ((s.chan c).clock.moded s.format mode).status)
      ∨ (l = .channel .suppressionChange c
        ∧ (s.chan c).modedResult s.format mode ≠ (s.chan c).window.spanMatch) := by
  have silent : ¬ (s.chan c).clock.Converts s.format mode → ∀ l, False ↔
      (l = Latch.channel .clockChange c
        ∧ (s.chan c).clock.status ≠ ((s.chan c).clock.moded s.format mode).status)
      ∨ (l = Latch.channel .suppressionChange c
        ∧ (s.chan c).modedResult s.format mode ≠ (s.chan c).window.spanMatch) := fun h l => by
    simp [CueClock.moded_status_of_not h, ChannelState.modedResult_of_not (.inl h)]
  unfold State.setDropMode
  dsimp only
  split
  · rename_i same
    have keeps : ¬ (s.chan c).clock.Converts s.format mode := fun h => h.1 same.symm
    refine (State.Became.refl s c).congr ?_ (silent keeps)
    rw [State.modedChannel_of_not keeps level, ← same]
    rfl
  · rename_i differs
    split
    · rename_i rate
      have converts : (s.chan c).clock.Converts s.format mode := ⟨Ne.symm differs, rate⟩
      have plan := State.Became.convertPlan s c (s.dropMode c) mode
      have spans := State.Became.convertSpans (s.convertPlan c (s.dropMode c) mode) c (s.dropMode c) mode
        (by rw [plan.own]; exact level)
      rw [plan.own, State.format, plan.timing] at spans
      simp only [ChannelState.setClock_clock, CueClock.changeDropMode_source] at spans
      have clock : (s.chan c).clock.moded s.format mode
          = (s.chan c).clock.changeDropMode mode (dayLength s.format mode) := if_pos converts
      have bank : (s.chan c).window.modedSpans (s.chan c).clock s.format mode
          = (s.chan c).window.spans.map fun y => y.convert s.format (s.dropMode c) mode := if_pos converts
      have result : (s.chan c).modedResult s.format mode
          = if (s.chan c).clock.source = .internal then
              ({ (s.chan c).window with
                spans := (s.chan c).window.modedSpans (s.chan c).clock s.format mode }).spanTest
                ((s.chan c).clock.moded s.format mode).value
            else (s.chan c).window.spanMatch := by
        unfold ChannelState.modedResult
        by_cases internal : (s.chan c).clock.source = .internal
        · rw [if_pos ⟨converts, internal⟩, if_pos internal]
        · rw [if_neg fun h => internal h.2, if_neg internal]
      refine (plan.trans spans).congr ?_ fun l => ?_
      · rw [State.modedChannel, State.modedScheduler, if_pos converts, ChannelState.modedWindow, result, clock,
          bank]
        rfl
      · rw [result, clock, bank]
        rfl
    · rename_i rate
      have keeps : ¬ (s.chan c).clock.Converts s.format mode := fun h => rate h.2
      exact (State.Became.modChan s c _).congr (State.modedChannel_of_not keeps level).symm (silent keeps)

end Sys2Proof.Machine
end

section
/-! PROOFS. CHANNEL_CONFIG: the eight fields applied, and what the channel, its cues and the ports then hold (R12,
R18, R34, R58, R61, R62, R67, R130, R148, R191). -/

namespace Sys2Proof.Machine

open Sys2Proof

/-! ## The cue slots -/

theorem State.convertSpans_cues (s : State) (c : Channel) (old new : DropMode) :
    (s.convertSpans c old new).cues = s.cues := by
  unfold State.convertSpans
  dsimp only
  split
  · rfl
  · exact State.setSpanResult_cues ..

theorem State.setDropMode_cues_of_not {s : State} {c : Channel} {mode : DropMode}
    (h : ¬ (s.chan c).clock.Converts s.format mode) : (s.setDropMode c mode).cues = s.cues := by
  unfold State.setDropMode
  dsimp only
  split
  · rfl
  · rename_i differs
    rw [if_neg fun rate => h ⟨Ne.symm differs, rate⟩]
    rfl

theorem State.setDropMode_cues {s : State} {c : Channel} {mode : DropMode}
    (h : (s.chan c).clock.Converts s.format mode) :
    (s.setDropMode c mode).cues = (s.convertPlan c (s.dropMode c) mode).cues := by
  have differs : ¬ s.dropMode c = mode := Ne.symm h.1
  unfold State.setDropMode
  dsimp only
  rw [if_neg differs, if_pos h.2]
  exact State.convertSpans_cues ..

theorem State.configure_cues (s : State) (c : Channel) (k : Configuration) :
    (s.configure c k).cues = ((s.setSource c k.source).setDropMode c k.dropMode).cues := by
  have policy : ∀ (t : State) p, (t.setPolicy c p).cues = t.cues := fun t p => State.setLevel_cues ..
  unfold State.configure
  dsimp only
  rw [State.modChan_cues, policy, State.modChan_cues]

/-! ## The channel (R191) -/

/-- A channel after the fields that follow the drop mode are written (R35, R61, R130, R148). -/
def ChannelState.fielded (x : ChannelState) (k : Configuration) : ChannelState :=
  ((((x.setClock { x.clock with freewheelLimit := k.freewheelLimit }).setScheduler
      { x.scheduler with lateTolerance := k.lateTolerance }).setSync
    { x.sync with holdLimit := k.holdLimit, policy := k.policy, level := x.sync.levelUnder k.policy }).setDelay
      { x.delay with slewInterval := k.slewInterval }).setWindow
    { x.window.signed x.presets (x.sync.levelUnder k.policy) with fade := k.fade }

/-- The fields in the order of R191: the limits, the loss policy with the SIGNER level, and the rest. -/
theorem ChannelState.fielded_eq (x : ChannelState) (k : Configuration) :
    (let y := ((x.setClock { x.clock with freewheelLimit := k.freewheelLimit }).setScheduler
        { x.scheduler with lateTolerance := k.lateTolerance }).setSync { x.sync with holdLimit := k.holdLimit }
      let z := (y.setSync { y.sync with policy := k.policy, level := y.sync.levelUnder k.policy }).setWindow
        (y.window.signed y.presets (y.sync.levelUnder k.policy))
      (z.setDelay { z.delay with slewInterval := k.slewInterval }).setWindow { z.window with fade := k.fade })
      = x.fielded k :=
  rfl

section
variable {s t : State} {c : Channel} {x : ChannelState} {a : Latch → Prop}

theorem State.Became.mod (h : s.Became t c x a) (f : ChannelState → ChannelState) :
    s.Became (t.modChan c f) c (f x) a := by
  have written := State.Became.modChan t c f
  rw [h.own] at written
  exact (h.trans written).congr rfl fun _ => by simp only [or_false]

theorem State.Became.policy (h : s.Became t c x a) (policy : LossPolicy) :
    s.Became (t.setPolicy c policy) c
      ((x.setSync { x.sync with policy := policy, level := x.sync.levelUnder policy }).setWindow
        (x.window.signed x.presets (x.sync.levelUnder policy)))
      fun l => a l ∨ l = .channel .suppressionChange c
        ∧ x.window.suppression.signer ≠ x.sync.levelUnder policy := by
  have written := State.Became.setPolicy t c policy
  rw [h.own] at written
  exact h.trans written

end

/-- The window after the drop mode is written keeps its settings but the spans and their result. -/
theorem ChannelState.modedWindow_settings (x : ChannelState) (f : Format) (mode : DropMode) :
    (x.modedWindow f mode).settings
      = (x.window.requested, { x.window.suppression with span := x.modedResult f mode }, x.window.contactHold,
        x.window.modedSpans x.clock f mode, x.modedResult f mode, x.window.fade) :=
  Window.spanned_settings ..

theorem ChannelState.modedWindow_signer (x : ChannelState) (f : Format) (mode : DropMode) :
    (x.modedWindow f mode).suppression.signer = x.window.suppression.signer :=
  congrArg (fun k => k.2.1.signer) (x.modedWindow_settings f mode)

theorem State.Became.configure (s : State) (c : Channel) (k : Configuration)
    (span : (s.chan c).window.suppression.span = (s.chan c).window.spanMatch) :
    s.Became (s.configure c k) c (((s.setSource c k.source).modedChannel c k.dropMode).fielded k) fun l =>
      ((l = .channel .clockChange c ∧ k.source ≠ (s.chan c).clock.source)
        ∨ (l = .channel .clockChange c ∧ ((s.chan c).clock.sourced k.source).status
          ≠ (((s.chan c).clock.sourced k.source).moded s.format k.dropMode).status)
        ∨ (l = .channel .suppressionChange c
          ∧ ((s.setSource c k.source).chan c).modedResult s.format k.dropMode ≠ (s.chan c).window.spanMatch))
      ∨ (l = .channel .suppressionChange c
        ∧ (s.chan c).window.suppression.signer ≠ (s.chan c).sync.levelUnder k.policy) := by
  have source := State.Became.setSource s c k.source
  have mode := State.Became.setDropMode (s.setSource c k.source) c k.dropMode (by rw [source.own]; exact span)
  have moded := source.trans mode
  have limited := moded.mod fun x =>
    ((x.setClock { x.clock with freewheelLimit := k.freewheelLimit }).setScheduler
      { x.scheduler with lateTolerance := k.lateTolerance }).setSync { x.sync with holdLimit := k.holdLimit }
  have followed := limited.policy k.policy
  have configured := followed.mod fun x =>
    (x.setDelay { x.delay with slewInterval := k.slewInterval }).setWindow { x.window with fade := k.fade }
  unfold State.configure
  dsimp only
  refine configured.congr (ChannelState.fielded_eq _ k) fun l => ?_
  have signer : ((s.setSource c k.source).modedChannel c k.dropMode).window.suppression.signer
      = (s.chan c).window.suppression.signer :=
    (ChannelState.modedWindow_signer _ _ _).trans (by rw [source.own]; rfl)
  have sync : ((s.setSource c k.source).modedChannel c k.dropMode).sync = (s.chan c).sync := by
    have same : ((s.setSource c k.source).chan c).sync = (s.chan c).sync := by rw [source.own]; rfl
    exact same
  have format : (s.setSource c k.source).format = s.format := congrArg Timing.format source.timing
  have clock : ((s.setSource c k.source).chan c).clock = (s.chan c).clock.sourced k.source := by
    rw [source.own]; rfl
  have result : ((s.setSource c k.source).chan c).window.spanMatch = (s.chan c).window.spanMatch := by
    rw [source.own]; rfl
  simp only [ChannelState.setSync_window, ChannelState.setScheduler_window, ChannelState.setClock_window,
    signer, sync, format, clock, result]
  rfl

end Sys2Proof.Machine
end

section
/-! PROOFS. CHANNEL_CONFIG, the statement: the record and the cues in the words of the manual (R12, R34, R67, R130). -/

namespace Sys2Proof.Machine

open Sys2Proof

/-! ## The fields in the words of the manual -/

theorem CueClock.sourced_eq (k : CueClock) (source : Source) : k.sourced source
    = if source = k.source then k
      else if source = .internal then { k with
        source := .internal, value := k.lastValid.getD 0, lastValid := some (k.lastValid.getD 0)
        status := .valid, freewheelCount := 0, pendingPreset := none }
      else { k with source := .embedded, status := .valid, freewheelCount := 0, pendingPreset := none } := by
  cases source <;> rfl

theorem CueClock.moded_eq {k : CueClock} {source : Source} (h : k.source = source) (f : Format) (mode : DropMode) :
    k.moded f mode = if ¬ k.Converts f mode then { k with dropMode := mode }
      else if source = .embedded then { k with
        dropMode := mode, status := .invalid, value := 0, freewheelCount := 0, lastValid := none
        pendingPreset := none }
      else { k with
        dropMode := mode, value := k.value % dayLength f mode, lastValid := k.lastValid.map (· % dayLength f mode)
        pendingPreset := k.pendingPreset.map (· % dayLength f mode) } := by
  subst h
  unfold CueClock.moded CueClock.changeDropMode
  by_cases converts : k.Converts f mode
  · rw [if_pos converts, if_neg (not_not_intro converts)]
    cases k.source <;> rfl
  · rw [if_neg converts, if_pos converts]

theorem Synchroniser.levelUnder_eq (x : Synchroniser) (policy : LossPolicy) : x.levelUnder policy
    = if x.policy = .withdraw ∧ policy ≠ .withdraw then false
      else if x.policy ≠ .withdraw ∧ policy = .withdraw then
        x.level || decide (x.lock = .lost) || decide (x.lock = .mismatch)
      else x.level := by
  unfold Synchroniser.levelUnder
  cases x.policy <;> cases policy <;> rfl

theorem Span.convert_eq {f : Format} {old mode : DropMode} {keep : Nat → Nat}
    (kept : ∀ n, convertNumber f old mode n = keep n) (y : Span) :
    y.convert f old mode = { y with start := keep y.start, stop := keep y.stop } := by
  rw [Span.convert, kept, kept]

/-- Some span matches the clock value (R63). -/
theorem Window.spanTest_iff (w : Window) (t : Nat) : w.spanTest t = true ↔ ∃ i, (w.spans.pick i).enabled = true
    ∧ (if (w.spans.pick i).mode = .inside then (w.spans.pick i).start ≤ t ∧ t ≤ (w.spans.pick i).stop
      else (w.spans.pick i).start ≤ t ∨ t ≤ (w.spans.pick i).stop) := by
  have covers : ∀ y : Span, y.covers t = true ↔ y.enabled = true
      ∧ (if y.mode = .inside then y.start ≤ t ∧ t ≤ y.stop else y.start ≤ t ∨ t ≤ y.stop) := by
    intro y
    unfold Span.covers
    cases y.mode <;> simp
  have all : ∀ i : SpanIx, i ∈ spanIndices := by decide
  simp [Window.spanTest, covers, all]

/-! ## The cues (R34) -/

section
variable {s : State} {c : Channel}

/-- A slot that no TIME cue of the channel fills is not on the timed list. -/
theorem State.CuesSound.not_timed (sound : s.CuesSound) {i : SlotIx}
    (none : ∀ n, ∀ o ∈ s.cue i, o.channel = c → o.trigger ≠ .time n) :
    i ∉ (s.chan c).scheduler.timed := by
  intro listed
  obtain ⟨lists, -⟩ := s.cuesSound_iff.1 sound
  obtain ⟨-, -, -, timed, -⟩ := lists c
  obtain ⟨o, live, channel, time⟩ := (timed i).1 listed
  cases trigger : o.trigger with
  | time n => exact none n o live channel trigger
  | contact g => simp [Cue.isTime_contact trigger] at time

theorem State.CuesSound.timed_of_time (sound : s.CuesSound) {i : SlotIx} {o : Cue} {n : Nat}
    (live : s.cue i = some o) (channel : o.channel = c) (time : o.trigger = .time n) :
    i ∈ (s.chan c).scheduler.timed := by
  obtain ⟨lists, -⟩ := s.cuesSound_iff.1 sound
  obtain ⟨-, -, -, timed, -⟩ := lists c
  exact (timed i).2 ⟨o, live, channel, Cue.isTime_time time⟩

/-- The cues of a conversion, their labels kept, and the timed list in the order of the new fire times (R34). -/
theorem convertPlan_result (cues : s.CuesSound) (records : s.RecordsSound) {mode : DropMode}
    (change : mode ≠ s.dropMode c) :
    let u := s.convertPlan c (s.dropMode c) mode
    (∀ i, (∀ n, ∀ o ∈ s.cue i, o.channel = c → o.trigger ≠ .time n) → u.slot i = s.slot i)
    ∧ (∀ i o n, s.cue i = some o → o.channel = c → o.trigger = .time n →
      ∃ m, u.slot i = { s.slot i with cue := some { o with trigger := .time m } }
        ∧ m < dayLength s.format mode
        ∧ labelOf s.format mode m
          = (if labelValid s.format mode (labelOf s.format (s.dropMode c) n)
              then labelOf s.format (s.dropMode c) n
              else { labelOf s.format (s.dropMode c) n with ff := 2 }))
    ∧ (u.chan c).scheduler.timed.Perm (s.chan c).scheduler.timed
    ∧ (u.chan c).scheduler.timed.Pairwise (fun a b => u.fireTimeAt a ≤ u.fireTimeAt b) := by
  intro u
  obtain ⟨lists, -⟩ := s.cuesSound_iff.1 cues
  obtain ⟨nodup, -⟩ := lists c
  have slot := State.convertPlan_slot s c (s.dropMode c) mode nodup
  refine ⟨fun i none => ?_, fun i o n live channel time => ?_, ?_, ?_⟩
  · exact (slot i).trans (if_neg (cues.not_timed none))
  · have record := (records i o live).1 (Cue.isTime_time time)
    have lt : n < dayLength s.format (s.dropMode c) := by
      rw [channel, Cue.fireTime, time] at record
      exact record
    refine ⟨convertNumber s.format (s.dropMode c) mode n, ?_, convertNumber_lt lt, labelOf_convertNumber change lt⟩
    have live' : (s.slot i).cue = some o := live
    rw [slot i, if_pos (cues.timed_of_time live channel time), CueSlot.convert, live', Option.map_some,
      Cue.convert_time time]
  · have own := (s.convertPlan_chan c (s.dropMode c) mode c).trans (if_pos rfl)
    rw [own]
    exact sortBy_perm _ _
  · obtain ⟨-, -, order, -⟩ := convertPlan_listed cues c (s.dropMode c) mode c
    exact order

end

end Sys2Proof.Machine
end

section
/-! PROOFS. CHANNEL_CONFIG, the statement assembled (R191). -/

namespace Sys2Proof.Machine

open Sys2Proof

/-- A window whose settings are known agrees with its levels where the settings do (R59). -/
theorem Window.levels_of_settings {w : Window} {requested hold result : Bool} {members : Suppression}
    {spans : Bank 4 Span} {fade : Nat} (h : w.settings = (requested, members, hold, spans, result, fade)) :
    w.suppression = members ∧ w.contactHold = hold ∧ w.spanMatch = result := by
  simp only [Window.settings, Prod.mk.injEq] at h
  obtain ⟨-, members, hold, -, result, -⟩ := h
  exact ⟨members, hold, result⟩

theorem ChannelState.fielded_levels (x : ChannelState) (k : Configuration) :
    (x.fielded k).window.suppression = { x.window.suppression with signer := x.sync.levelUnder k.policy }
      ∧ (x.fielded k).window.contactHold = x.window.contactHold
      ∧ (x.fielded k).window.spanMatch = x.window.spanMatch :=
  Window.levels_of_settings (w := x.window.signed x.presets (x.sync.levelUnder k.policy))
    (x.window.signed_settings x.presets (x.sync.levelUnder k.policy))

section
variable {s : State} {c : Channel} (k : Configuration)

/-- Members follow their levels after CHANNEL_CONFIG as before it (R59). -/
theorem configure_levelsFollowed (levels : s.LevelsFollowed) : (s.configure c k).LevelsFollowed := by
  have configured := State.Became.configure s c k (levels c).1
  have contact : ∀ m d, (s.configure c k).contactLevel m d = s.contactLevel m d :=
    State.contactLevel_congr configured.inner.2.1
  intro d
  obtain ⟨span, member, signer, calibration, hold⟩ := levels d
  rw [contact, contact, configured.chan]
  split
  · rename_i hd
    subst hd
    have own : (s.setSource d k.source).chan d
        = (s.chan d).setClock ((s.chan d).clock.sourced k.source) := (State.Became.setSource s d k.source).own
    obtain ⟨members, held, matched⟩ := ((s.setSource d k.source).modedChannel d k.dropMode).fielded_levels k
    obtain ⟨members', held', matched'⟩ := Window.levels_of_settings
      (((s.setSource d k.source).chan d).modedWindow_settings (s.setSource d k.source).format k.dropMode)
    have window : ((s.setSource d k.source).modedChannel d k.dropMode).window
        = ((s.setSource d k.source).chan d).modedWindow (s.setSource d k.source).format k.dropMode := rfl
    rw [window] at members held matched
    rw [members, held, matched, members', held', matched']
    refine ⟨rfl, ?_, rfl, ?_, ?_⟩
    · rw [own]; exact member
    · change ((s.setSource d k.source).chan d).window.suppression.calibration
        = ((s.setSource d k.source).chan d).calibration.running
      rw [own]
      exact calibration
    · rw [own]; exact hold
  · exact ⟨span, member, signer, calibration, hold⟩

end

theorem channelConfig_run {s : State} {p : PortId} {tag ch : Byte} {f : ConfigFields} {c : Channel}
    {source : Source} {mode : DropMode} {policy : LossPolicy} (room : s.Room p tag)
    (supervisor : (s.port p).supervisor = true) (channel : ch.toNat = c.val)
    (hs : sourceByte source = f.source) (hm : dropModeByte mode = f.dropMode)
    (hp : policyByte policy = f.lossPolicy) :
    exec (.channelConfig p tag ch f) s
      = .next ((s.configure c (storedFields f source mode policy)).replied p tag 0x38
          (clampedCode (configurationClamped f)) (storedFields f source mode policy).bytes) := by
  have command : requestCommand p tag (.channelConfig ch f) = .channelConfig p tag ch f := rfl
  have number : requestCode (.channelConfig ch f) = 0x38 := rfl
  refine exec_replied command number (by simp) room (fun _ => supervisor) ?_
  have run : channelConfig ch f s = (s.configure c (storedFields f source mode policy),
      taken (configurationClamped f) (storedFields f source mode policy).bytes) := by
    simp only [channelConfig, readChannel_some channel, readConfiguration_some hs hm hp]
  refine run.trans ?_
  cases configurationClamped f <;> rfl

/-- The scheduler after the drop mode is written keeps all but its timed list and its scan value. -/
theorem State.modedScheduler_frame (s : State) (c : Channel) (mode : DropMode) :
    s.modedScheduler c mode = { (s.chan c).scheduler with
      timed := (s.modedScheduler c mode).timed, scan := (s.modedScheduler c mode).scan } := by
  unfold State.modedScheduler
  split <;> rfl

section
variable (s : State) (c : Channel) (source : Source) (mode : DropMode)

theorem State.setSource_own : (s.setSource c source).chan c
    = (s.chan c).setClock ((s.chan c).clock.sourced source) :=
  (State.Became.setSource s c source).own

theorem State.setSource_format : (s.setSource c source).format = s.format :=
  congrArg Timing.format (State.Became.setSource s c source).timing

/-- The span result that CHANNEL_CONFIG leaves (R67). -/
def State.configuredResult : Bool :=
  ((s.chan c).setClock ((s.chan c).clock.sourced source)).modedResult s.format mode

variable {s c source mode}

theorem State.configuredResult_of_not
    (h : ¬ ((s.chan c).clock.sourced source).Converts s.format mode ∨ source = .embedded) :
    s.configuredResult c source mode = (s.chan c).window.spanMatch :=
  ChannelState.modedResult_of_not (h.imp_right fun h => (CueClock.sourced_source ..).trans h)

theorem State.configuredResult_of_converts
    (converts : ((s.chan c).clock.sourced source).Converts s.format mode) (internal : source = .internal) :
    s.configuredResult c source mode = ({ (s.chan c).window with
        spans := (s.chan c).window.modedSpans ((s.chan c).clock.sourced source) s.format mode }).spanTest
      (((s.chan c).clock.sourced source).moded s.format mode).value :=
  if_pos ⟨converts, (CueClock.sourced_source ..).trans internal⟩

variable (s c source mode)

theorem State.modedChannel_setSource : (s.setSource c source).modedChannel c mode
    = (((s.chan c).setClock (((s.chan c).clock.sourced source).moded s.format mode)).setScheduler
        ((s.setSource c source).modedScheduler c mode)).setWindow
      (({ (s.chan c).window with
          spans := (s.chan c).window.modedSpans ((s.chan c).clock.sourced source) s.format mode }).spanned
        (s.chan c).presets (s.configuredResult c source mode)) := by
  rw [State.modedChannel, State.setSource_own, State.setSource_format]
  rfl

end

theorem Window.spanned_fade (w : Window) (presets : Bank 8 Preset) (b : Bool) :
    (w.spanned presets b).fade = w.fade :=
  congrArg (fun k => k.2.2.2.2.2) (w.spanned_settings presets b)

/-- The SIGNER member follows over the suppression fade in force (R58, R62). -/
theorem Window.signed_of_fade {w : Window} {fade : Nat} (h : w.fade = fade) (presets : Bank 8 Preset)
    (level : Bool) : w.signed presets level
      = w.follow { w with suppression := { w.suppression with signer := level } } presets fade := by
  subst h
  rfl

/-- The channel that CHANNEL_CONFIG leaves (R191). -/
theorem State.configure_chan (s : State) (c : Channel) (k : Configuration)
    (span : (s.chan c).window.suppression.span = (s.chan c).window.spanMatch) :
    let x := s.chan c
    let u := s.configure c k
    let w := { x.window with
      spans := x.window.modedSpans (x.clock.sourced k.source) s.format k.dropMode
      spanMatch := s.configuredResult c k.source k.dropMode }
    let spanned := w.follow { w with suppression :=
      { w.suppression with span := s.configuredResult c k.source k.dropMode } } x.presets w.fade
    let signed := spanned.follow { spanned with suppression :=
      { spanned.suppression with signer := x.sync.levelUnder k.policy } } x.presets w.fade
    u.chan c = ((((x.setClock { (x.clock.sourced k.source).moded s.format k.dropMode with
          freewheelLimit := k.freewheelLimit }).setScheduler { x.scheduler with
            lateTolerance := k.lateTolerance, timed := (u.chan c).scheduler.timed
            scan := (u.chan c).scheduler.scan }).setSync { x.sync with
              holdLimit := k.holdLimit, policy := k.policy, level := x.sync.levelUnder k.policy }).setDelay
        { x.delay with slewInterval := k.slewInterval }).setWindow { signed with fade := k.fade } := by
  intro x u w spanned signed
  have own : u.chan c = ((s.setSource c k.source).modedChannel c k.dropMode).fielded k :=
    (State.Became.configure s c k span).own
  have scheduler : (u.chan c).scheduler = { (s.setSource c k.source).modedScheduler c k.dropMode with
      lateTolerance := k.lateTolerance } := by
    rw [own]; rfl
  have kept : { x.scheduler with
      lateTolerance := k.lateTolerance, timed := (u.chan c).scheduler.timed, scan := (u.chan c).scheduler.scan }
      = { (s.setSource c k.source).modedScheduler c k.dropMode with lateTolerance := k.lateTolerance } := by
    rw [scheduler, State.modedScheduler_frame, State.setSource_own]
    rfl
  rw [kept, own, ChannelState.fielded, State.modedChannel_setSource]
  simp only [ChannelState.setWindow_window]
  rw [Window.signed_of_fade (Window.spanned_fade _ _ _)]
  rfl

/-! ## The cues of the channel (R34) -/

section
variable (s : State) (c : Channel) (source : Source)

theorem State.setSource_dropMode (d : Channel) : (s.setSource c source).dropMode d = s.dropMode d := by
  rw [State.dropMode, (State.Became.setSource s c source).chan]
  split
  · rename_i hd
    subst hd
    exact CueClock.sourced_dropMode ..
  · rfl

theorem State.setSource_scheduler (d : Channel) :
    ((s.setSource c source).chan d).scheduler = (s.chan d).scheduler := by
  rw [(State.Became.setSource s c source).chan]
  split
  · rename_i hd; subst hd; rfl
  · rfl

theorem setSource_cuesSound {s : State} (sound : s.CuesSound) (c : Channel) (source : Source) :
    (s.setSource c source).CuesSound :=
  cuesSound_of_same sound (State.setSource_cues s c source)
    (fun d => congrArg Scheduler.timed (s.setSource_scheduler c source d))
    (fun d => congrArg Scheduler.contact (s.setSource_scheduler c source d))

theorem setSource_recordsSound {s : State} (sound : s.RecordsSound) (c : Channel) (source : Source) :
    (s.setSource c source).RecordsSound :=
  recordsSound_of_same sound (State.setSource_cues s c source) fun d => by
    rw [State.day, State.setSource_format, State.setSource_dropMode]
    rfl

end

section
variable {s : State} {c : Channel} (k : Configuration)

theorem State.configure_scheduler (span : (s.chan c).window.suppression.span = (s.chan c).window.spanMatch) :
    ((s.configure c k).chan c).scheduler = { (s.setSource c k.source).modedScheduler c k.dropMode with
      lateTolerance := k.lateTolerance } := by
  rw [(State.Became.configure s c k span).own]
  rfl

theorem CueClock.converts_sourced (x : CueClock) (source : Source) (f : Format) (mode : DropMode) :
    (x.sourced source).Converts f mode ↔ x.Converts f mode := by
  rw [CueClock.Converts, CueClock.sourced_dropMode]

/-- Without a conversion no cue and no list changes (R34). -/
theorem configure_plan_of_not (span : (s.chan c).window.suppression.span = (s.chan c).window.spanMatch)
    (keeps : ¬ (s.chan c).clock.Converts s.format k.dropMode) :
    (s.configure c k).cues = s.cues
      ∧ ((s.configure c k).chan c).scheduler.timed = (s.chan c).scheduler.timed
      ∧ ((s.configure c k).chan c).scheduler.scan = (s.chan c).scheduler.scan := by
  have keeps' : ¬ ((s.setSource c k.source).chan c).clock.Converts (s.setSource c k.source).format k.dropMode := by
    rw [State.setSource_own, State.setSource_format]
    exact fun h => keeps ((CueClock.converts_sourced ..).1 h)
  rw [State.configure_scheduler k span, State.modedScheduler, if_neg keeps', State.setSource_scheduler,
    State.configure_cues, State.setDropMode_cues_of_not keeps', State.setSource_cues]
  exact ⟨rfl, rfl, rfl⟩

/-- A conversion keeps the label of every TIME cue and puts the list in the order of the new fire times (R34). -/
theorem configure_plan_of_converts (span : (s.chan c).window.suppression.span = (s.chan c).window.spanMatch)
    (cues : s.CuesSound) (records : s.RecordsSound) (converts : (s.chan c).clock.Converts s.format k.dropMode) :
    let u := s.configure c k
    (∀ i, (∀ n, ∀ o ∈ s.cue i, o.channel = c → o.trigger ≠ .time n) → u.slot i = s.slot i)
    ∧ (∀ i o n, s.cue i = some o → o.channel = c → o.trigger = .time n →
      ∃ m, u.slot i = { s.slot i with cue := some { o with trigger := .time m } }
        ∧ m < dayLength s.format k.dropMode
        ∧ labelOf s.format k.dropMode m
          = (if labelValid s.format k.dropMode (labelOf s.format (s.dropMode c) n)
              then labelOf s.format (s.dropMode c) n
              else { labelOf s.format (s.dropMode c) n with ff := 2 }))
    ∧ (u.chan c).scheduler.timed.Perm (s.chan c).scheduler.timed
    ∧ (u.chan c).scheduler.timed.Pairwise (fun a b => u.fireTimeAt a ≤ u.fireTimeAt b)
    ∧ (u.chan c).scheduler.scan = (if k.source = .embedded then none
      else (s.chan c).scheduler.scan.map (· % dayLength s.format k.dropMode)) := by
  intro u
  have change : k.dropMode ≠ (s.setSource c k.source).dropMode c := by
    rw [State.setSource_dropMode]
    exact converts.1
  have converts' : ((s.setSource c k.source).chan c).clock.Converts (s.setSource c k.source).format
      k.dropMode := by
    rw [State.setSource_own, State.setSource_format]
    exact (CueClock.converts_sourced ..).2 converts
  have slots : u.cues = ((s.setSource c k.source).convertPlan c (s.dropMode c) k.dropMode).cues := by
    rw [State.configure_cues, State.setDropMode_cues converts', State.setSource_dropMode]
  have scheduler : (u.chan c).scheduler = { (s.setSource c k.source).convertScheduler c (s.dropMode c) k.dropMode with
      lateTolerance := k.lateTolerance } := by
    rw [State.configure_scheduler k span, State.modedScheduler, if_pos converts', State.setSource_dropMode]
  have timed : (u.chan c).scheduler.timed
      = (((s.setSource c k.source).convertPlan c (s.dropMode c) k.dropMode).chan c).scheduler.timed := by
    rw [scheduler, State.convertPlan_chan, if_pos rfl]
    rfl
  have scan : (u.chan c).scheduler.scan = if k.source = .embedded then none
      else (s.chan c).scheduler.scan.map (· % dayLength s.format k.dropMode) := by
    rw [scheduler, State.convertScheduler, State.setSource_own, State.setSource_format]
    simp only [ChannelState.setClock_clock, CueClock.sourced_source]
    rfl
  have times : u.fireTimeAt
      = ((s.setSource c k.source).convertPlan c (s.dropMode c) k.dropMode).fireTimeAt := by
    funext i
    rw [State.fireTimeAt, State.cue_of_cues slots]
    rfl
  have before := State.setSource_cues s c k.source
  obtain ⟨others, own, perm, order⟩ := convertPlan_result (setSource_cuesSound cues c k.source)
    (setSource_recordsSound records c k.source) change
  simp only [State.setSource_format, State.setSource_dropMode, State.cue_of_cues before,
    State.slot_of_cues before, State.setSource_scheduler] at others own perm order
  refine ⟨fun i none => (State.slot_of_cues slots i).trans (others i none), ?_, ?_, ?_, scan⟩
  · intro i o n live channel time
    obtain ⟨m, slot, rest⟩ := own i o n live channel time
    exact ⟨m, (State.slot_of_cues slots i).trans slot, rest⟩
  · rw [timed]; exact perm
  · rw [timed, times]; exact order

end

/-- Settles O53: the request's fields are applied stage by stage (`State.Became.configure`), the cues by
`convertPlan_result`, and the members follow their levels by `configure_levelsFollowed`. -/
theorem channelConfigResult : Obligations.ChannelConfigResult := by
  intro s p tag ch f room
  have command : requestCommand p tag (.channelConfig ch f) = .channelConfig p tag ch f := rfl
  have number : requestCode (.channelConfig ch f) = 0x38 := rfl
  have other : Request.channelConfig ch f ≠ .deviceReset := by simp
  refine ⟨fun plain => exec_notSupervisor command number other room rfl plain, fun supervisor wrong => ?_, ?_⟩
  · exact exec_replied command number other room (fun _ => supervisor) (channelConfig_badParam s wrong)
  intro c source mode policy supervisor channel hs hm hp levels cues records _ x limit tolerance hold slew fade
    clamped k converts day j level keep spans
  have span := (levels c).1
  obtain ⟨-, -, signer, -, -⟩ := levels c
  have hk : k = x.clock.sourced source := (x.clock.sourced_eq source).symm
  have same : (x.clock.sourced source).Converts s.timing.format mode ↔ converts :=
    x.clock.converts_sourced source s.timing.format mode
  have hj : j = (x.clock.sourced source).moded s.timing.format mode := by
    rw [CueClock.moded_eq (x.clock.sourced_source source)]
    by_cases h : converts
    · rw [if_neg (not_not_intro (same.2 h)), ← hk]
      exact if_neg (not_not_intro h)
    · rw [if_pos (mt same.1 h), ← hk]
      exact if_pos h
  have hlevel : level = x.sync.levelUnder policy := (x.sync.levelUnder_eq policy).symm
  have hkeep : converts → ∀ n, convertNumber s.timing.format x.clock.dropMode mode n = keep n :=
    fun h n => convertNumber_eq h.1 n
  have hspans : spans = x.window.modedSpans (x.clock.sourced source) s.timing.format mode := by
    unfold Window.modedSpans
    by_cases h : converts
    · rw [if_pos (same.2 h), CueClock.sourced_dropMode]
      simp only [Span.convert_eq (hkeep h)]
      exact if_pos h
    · rw [if_neg (mt same.1 h)]
      exact if_neg h
  have configured := State.Became.configure s c (storedFields f source mode policy) span
  have chan := State.configure_chan s c (storedFields f source mode policy) span
  clear_value k j level spans
  subst hk hj hlevel hspans
  refine ⟨s.configure c (storedFields f source mode policy), s.configuredResult c source mode, ?_,
    configured.frame, fun d hd => (configured.chan d).trans (if_neg hd), chan, ?_, ?_,
    configure_levelsFollowed _ levels, ?_, ?_, ?_, ?_⟩
  · rw [channelConfig_run room supervisor channel hs hm hp, configurationClamped_eq, Configuration.bytes, ← hs,
      ← hm, ← hp]
    rfl
  · exact fun h => State.configuredResult_of_not (h.imp_left (mt same.1))
  · intro h internal
    rw [State.configuredResult_of_converts (same.2 h) internal]
    exact Window.spanTest_iff _ _
  · refine configured.latches.congr fun l => ?_
    have member : (s.chan c).window.suppression.signer ≠ x.sync.levelUnder policy
        ↔ x.sync.levelUnder policy ≠ x.sync.level := by rw [signer]; exact ne_comm
    have result : ((s.setSource c source).chan c).modedResult s.format mode
        = s.configuredResult c source mode := by rw [State.setSource_own]; rfl
    dsimp only [storedFields]
    rw [result, member, ← or_assoc, or_assoc, ← and_or_left, ← and_or_left]
    rfl
  · exact fun h => configure_plan_of_not _ span h
  · intro h n lt
    rw [← hkeep h]
    exact convertNumber_lt lt
  · exact fun h => configure_plan_of_converts _ span cues records h

end Sys2Proof.Machine
end

section
/-! PROOFS. Cues retired: the lists, slots, records and postings after one cue, and after several one after another
(R20, R22, R23, R30 to R32, R40, R47, R50). -/

namespace Sys2Proof.Machine

open Sys2Proof

/-! ## Outcomes recorded (R47, R50) -/

theorem Scheduler.recorded_nil {k : Scheduler} (ring : k.ring.length ≤ 8) (total : k.total < 65536) :
    k.recorded [] = k := by
  have short : k.ring.length - 8 = 0 := by omega
  simp only [Scheduler.recorded, List.append_nil, short, List.drop_zero, List.length_nil, Nat.add_zero,
    Nat.mod_eq_of_lt total]

/-- The ring and the total after a record are in range whatever they were. -/
theorem Scheduler.recorded_sound (k : Scheduler) (l : List OutcomeRecord) :
    (k.recorded l).ring.length ≤ 8 ∧ (k.recorded l).total < 65536 := by
  refine ⟨?_, Nat.mod_lt _ (by decide)⟩
  simp only [Scheduler.recorded, List.length_drop]
  omega

theorem Scheduler.recorded_recorded (k : Scheduler) (a b : List OutcomeRecord) :
    (k.recorded a).recorded b = k.recorded (a ++ b) := by
  have ring : ∀ l : List OutcomeRecord, (l.drop (l.length - 8) ++ b).drop
      ((l.drop (l.length - 8) ++ b).length - 8) = (l ++ b).drop ((l ++ b).length - 8) := by
    intro l
    rw [← List.drop_append_of_le_length (l₂ := b) (Nat.sub_le l.length 8), List.drop_drop]
    congr 1
    simp only [List.length_drop, List.length_append]
    omega
  have total : ((k.total + a.length) % 65536 + b.length) % 65536 = (k.total + (a ++ b).length) % 65536 := by
    rw [Nat.mod_add_mod, List.length_append, Nat.add_assoc]
  have rings := ring (k.ring ++ a)
  rw [List.append_assoc] at rings
  unfold Scheduler.recorded
  dsimp only
  rw [rings, total]

/-- Records are added to the lists as they stand. -/
theorem Scheduler.recorded_lists (k : Scheduler) (timed contact : List SlotIx) (l : List OutcomeRecord) :
    ({ k.recorded l with timed := timed, contact := contact } : Scheduler)
      = ({ k with timed := timed, contact := contact } : Scheduler).recorded l := rfl

theorem ringAdd_eq (k : Scheduler) (r : OutcomeRecord) :
    ({ k with ring := ringAdd k.ring r, total := (k.total + 1) % 65536 } : Scheduler) = k.recorded [r] := by
  have drop : (k.ring ++ [r]).length - 8 = k.ring.length - 7 := by simp
  simp only [Scheduler.recorded, drop, ringAdd, List.length_singleton]

/-- What is posted to one port (R187). -/
theorem State.post_posted (s : State) (p : PortId) (l : Latch) (q : PortId) :
    (s.port q).Posted ((s.post p l).port q) fun k => k = l ∧ q = p := by
  refine ⟨(Port.unlatched_iff _ _).1 (State.post_unlatched ..), fun k => ?_⟩
  rw [State.post_holds, and_assoc]

section
variable (s : State) (c : Channel) (h : Handle) (a : Action) (o : PortId) (r : Result)

theorem State.addOutcome_chan_same : (s.addOutcome c h a o r).chan c = (s.chan c).setScheduler
    ((s.chan c).scheduler.recorded [s.recordOf c h a o r]) := by
  rw [State.addOutcome, State.post_chan, State.modChan_chan_same, ringAdd_eq]
  rfl

theorem State.addOutcome_posted (q : PortId) : (s.port q).Posted ((s.addOutcome c h a o r).port q)
    fun l => l = .channel .cueOutcome c ∧ q = o :=
  State.post_posted (s.modChan c _) o _ q

end

/-! ## One cue retired -/

section
variable (s : State) (c : Channel) (i : SlotIx) (k : Cue) (r : Result)

theorem State.removeCue_chan_same : (s.removeCue c i).chan c = (s.chan c).setScheduler
    { (s.chan c).scheduler with
      timed := (s.chan c).scheduler.timed.filter (· ≠ i)
      contact := (s.chan c).scheduler.contact.filter (· ≠ i) } := by
  rw [State.removeCue, State.setSlot_chan, State.modScheduler, State.modChan_chan_same]

theorem State.retire_slot (j : SlotIx) : (s.retire c i k r).slot j
    = if j = i then { s.slot i with cue := none } else s.slot j := by
  rw [State.retire, State.slot_of_cues (State.addOutcome_cues ..), State.removeCue_slot]

/-- The record is that of the state before, as the clock stays. -/
theorem State.recordOf_removeCue (h : Handle) (a : Action) (o : PortId) :
    (s.removeCue c i).recordOf c h a o r = s.recordOf c h a o r := by
  rw [State.recordOf, State.recordOf, State.removeCue_chan_same]
  rfl

theorem State.retire_chan_same : (s.retire c i k r).chan c = (s.chan c).setScheduler
    (({ (s.chan c).scheduler with
        timed := (s.chan c).scheduler.timed.filter (· ≠ i)
        contact := (s.chan c).scheduler.contact.filter (· ≠ i) } : Scheduler).recorded
      [s.recordOf c (s.handle i) k.action k.origin r]) := by
  rw [State.retire, State.addOutcome_chan_same, State.recordOf_removeCue, State.removeCue_chan_same]
  rfl

variable {i k}

/-- A live cue retired (R20, R22, R23, R47, R50). -/
theorem State.Retired.one (live : s.cue i = some k) : s.Retired (s.retire c i k r) c [i] r := by
  refine ⟨rfl, fun j => ?_, fun d hd => State.retire_chan_ne _ _ _ _ _ hd, ?_, fun q => ?_⟩
  · rw [State.retire_slot]
    by_cases hj : j = i
    · subst hj; simp
    · simp [hj]
  · rw [State.retire_chan_same]
    simp only [List.mem_singleton, List.filterMap_cons, List.filterMap_nil, live, Option.map_some]
    rfl
  · have port : (s.removeCue c i).port q = s.port q := State.removeCue_port ..
    have posted := (s.removeCue c i).addOutcome_posted c (s.handle i) k.action k.origin r q
    rw [port] at posted
    refine posted.congr fun l => and_congr_right fun _ => ?_
    simp [live, eq_comm]

end

/-! ## Cues retired one after another -/

section
variable {s t u : State} {c : Channel} {gone more : List SlotIx} {r : Result}

theorem State.Retired.slot (h : s.Retired t c gone r) (i : SlotIx) :
    t.slot i = if i ∈ gone then { s.slot i with cue := none } else s.slot i := h.2.1 i

theorem State.Retired.cue (h : s.Retired t c gone r) (i : SlotIx) :
    t.cue i = if i ∈ gone then none else s.cue i := by
  rw [State.cue, h.slot]
  split <;> rfl

theorem State.Retired.rings (h : s.Retired t c gone r) :
    (t.chan c).scheduler.ring.length ≤ 8 ∧ (t.chan c).scheduler.total < 65536 := by
  obtain ⟨-, -, -, chan, -⟩ := h
  rw [chan]
  exact Scheduler.recorded_sound _ _

/-- No cue retired: nothing has changed. -/
theorem State.Retired.nil (ring : (s.chan c).scheduler.ring.length ≤ 8) (total : (s.chan c).scheduler.total < 65536) :
    s.Retired s c [] r := by
  refine ⟨rfl, fun i => by simp, fun _ _ => rfl, ?_, fun q => (Port.Posted.refl _).congr fun l => by simp⟩
  have lists : ∀ l : List SlotIx, l.filter (· ∉ ([] : List SlotIx)) = l := fun l => by simp
  rw [lists, lists, List.filterMap_nil, Scheduler.recorded_nil ring total]
  rfl

/-- The record of a cue that is retired later is the one it would have got before. -/
theorem State.Retired.recordOf (h : s.Retired t c gone r) (g : Handle) (a : Action) (o : PortId) (r' : Result) :
    t.recordOf c g a o r' = s.recordOf c g a o r' := by
  obtain ⟨frame, -, -, chan, -⟩ := h
  have timing : t.timing = s.timing := by rw [frame]
  rw [State.recordOf, State.recordOf, chan, timing]
  rfl

theorem State.Retired.trans (h : s.Retired t c gone r) (g : t.Retired u c more r) (apart : ∀ i ∈ more, i ∉ gone) :
    s.Retired u c (gone ++ more) r := by
  have cue : ∀ i ∈ more, t.cue i = s.cue i := fun i hi => by rw [h.cue, if_neg (apart i hi)]
  have slot : ∀ i ∈ more, t.slot i = s.slot i := fun i hi => by rw [h.slot, if_neg (apart i hi)]
  have records : (more.filterMap fun i => (t.cue i).map fun (k : Cue) =>
        t.recordOf c { slot := i, generation := (t.slot i).generation } k.action k.origin r)
      = more.filterMap fun i => (s.cue i).map fun (k : Cue) =>
        s.recordOf c { slot := i, generation := (s.slot i).generation } k.action k.origin r := by
    refine List.filterMap_congr fun i hi => ?_
    simp only [cue i hi, slot i hi, h.recordOf]
  obtain ⟨frame, slots, others, chan, posted⟩ := h
  obtain ⟨frame', slots', others', chan', posted'⟩ := g
  refine ⟨by rw [frame', frame], fun i => ?_, fun d hd => (others' d hd).trans (others d hd), ?_, fun q => ?_⟩
  · rw [slots']
    by_cases later : i ∈ more
    · rw [if_pos later, slot i later, if_pos (List.mem_append_right _ later)]
    · rw [if_neg later, slots]
      simp [later]
  · rw [chan', records, chan, List.filterMap_append, ← Scheduler.recorded_recorded]
    simp only [ChannelState.setScheduler_scheduler, Scheduler.recorded, List.filter_filter, List.mem_append,
      not_or, Bool.decide_and, Bool.and_comm]
    rfl
  · refine ((posted q).trans (posted' q)).congr fun l => ?_
    rw [← and_or_left]
    refine and_congr_right fun _ => ?_
    simp only [List.mem_append, or_and_right, exists_or]
    refine or_congr_right (exists_congr fun i => and_congr_right fun hi => ?_)
    rw [cue i hi]

/-- Live cues retired one after another, by what retires each (R31, R40). -/
theorem State.Retired.foldl {f : State → SlotIx → State}
    (one : ∀ (t : State) i k, t.cue i = some k → t.Retired (f t i) c [i] r) {l : List SlotIx} (nodup : l.Nodup)
    {s : State} (live : ∀ i ∈ l, (s.cue i).isSome = true)
    (ring : (s.chan c).scheduler.ring.length ≤ 8) (total : (s.chan c).scheduler.total < 65536) :
    s.Retired (l.foldl f s) c l r := by
  induction l generalizing s with
  | nil => exact .nil ring total
  | cons i l ih =>
    obtain ⟨fresh, nodup⟩ := List.nodup_cons.1 nodup
    obtain ⟨k, hk⟩ := Option.isSome_iff_exists.1 (live i (by simp))
    have first := one s i k hk
    obtain ⟨ring', total'⟩ := first.rings
    have other : ∀ j ∈ l, j ∉ [i] := fun j hj same => fresh (List.mem_singleton.1 same ▸ hj)
    refine first.trans (ih nodup (fun j hj => ?_) ring' total') other
    rw [first.cue, if_neg (other j hj)]
    exact live j (by simp [hj])

end

theorem State.missCue_live {s : State} {i : SlotIx} {k : Cue} (live : s.cue i = some k) (c : Channel) :
    s.missCue c i = s.retire c i k .missed := by simp only [State.missCue, live]

theorem State.cancelCue_live {s : State} {i : SlotIx} {k : Cue} (live : s.cue i = some k) (c : Channel) :
    s.cancelCue c i = s.retire c i k .cancelled := by simp only [State.cancelCue, live]

theorem State.fireCue_live {s : State} {i : SlotIx} {k : Cue} (live : s.cue i = some k) (c : Channel)
    (r : Result) : s.fireCue c r i = (s.retire c i k r).deliver c (s.handle i) k := by
  simp only [State.fireCue, live]

end Sys2Proof.Machine
end

section
/-! PROOFS. The action of a fired cue (R41, R68 to R73, R140 to R142): a layout taken, a delay target worked out, and
the action as `State.ActionTook` says it. -/

namespace Sys2Proof.Machine

open Sys2Proof

/-! ## A layout taken (R68 to R70, R48) -/

section
variable (s : State) (c : Channel) (p : PresetIx) (d : Nat) (cue : Option (Handle × PortId))

theorem Window.layoutAnswer_pending (w : Window) : w.layoutAnswer d = .pending
    ↔ w.move.isSome = true ∨ w.pendingLayout.isSome = true := by
  unfold Window.layoutAnswer
  split
  · rename_i wait; simp [wait]
  · rename_i now
    split <;> simp [now]

variable {s c}

/-- With no move and no pending layout the layout is taken at once (R68). -/
theorem State.takeLayout_now (move : (s.chan c).window.move = none)
    (pending : (s.chan c).window.pendingLayout = none) : s.takeLayout c p d cue
      = s.modChan c fun x => x.setWindow (x.window.takeNow x.presets p d) := by
  have now : ¬ (s.chan c).window.layoutAnswer d = .pending := by
    rw [Window.layoutAnswer_pending]; simp [move, pending]
  simp only [State.takeLayout, if_neg now]

variable (s c) in
/-- The state in which a layout waits as the pending one (R70). -/
def State.layoutWaits : State := s.modChan c fun x => x.setWindow
  { x.window with pendingLayout := some { preset := p, duration := d, cue := cue } }

section
variable (wait : (s.chan c).window.move.isSome = true ∨ (s.chan c).window.pendingLayout.isSome = true)
include wait

/-- A layout that waits replaces a pending one that came from no cue (R70). -/
theorem State.takeLayout_wait (plain : (s.chan c).window.pendingLayout.bind (·.cue) = none) :
    s.takeLayout c p d cue = s.layoutWaits c p d cue := by
  simp only [State.takeLayout, if_pos ((Window.layoutAnswer_pending d _).2 wait), plain]
  rfl

/-- A layout that waits replaces that of a LAYOUT cue, which is SUPERSEDED (R48, R70). -/
theorem State.takeLayout_supersede {h : Handle} {origin : PortId}
    (old : (s.chan c).window.pendingLayout.bind (·.cue) = some (h, origin)) :
    s.takeLayout c p d cue = (s.layoutWaits c p d cue).addOutcome c h .layout origin .superseded := by
  simp only [State.takeLayout, if_pos ((Window.layoutAnswer_pending d _).2 wait), old]
  rfl

end

theorem Window.takeNow_cut {w : Window} (presets : Bank 8 Preset) (h : w.opacity = 0 ∨ d = 0) :
    w.takeNow presets p d = { w with geometry := (presets.pick p).layout, lastPreset := p } := by
  rw [Window.takeNow, if_pos h, Window.cut]

theorem Window.takeNow_move {w : Window} (presets : Bank 8 Preset) (h : 0 < w.opacity) (long : 0 < d) :
    w.takeNow presets p d = { w with
      lastPreset := p
      move := some { source := w.geometry, target := (presets.pick p).layout, preset := p,
                     length := d, count := 0 } } := by
  rw [Window.takeNow, if_neg (by omega), Window.beginMove]

theorem layoutTook_takeLayout (s : State) (c : Channel) : s.LayoutTook (s.takeLayout c p d cue) c p d cue := by
  unfold State.LayoutTook
  intro w stored
  by_cases wait : w.move.isSome = true ∨ w.pendingLayout.isSome = true
  · have waits : ¬ (w.move = none ∧ w.pendingLayout = none) := by
      rintro ⟨move, pending⟩
      simp [move, pending] at wait
    have own : (s.layoutWaits c p d cue).chan c = (s.chan c).setWindow
        { w with pendingLayout := some { preset := p, duration := d, cue := cue } } := State.modChan_chan_same ..
    cases from_ : w.pendingLayout.bind (·.cue) with
    | none =>
      rw [State.takeLayout_wait p d cue wait from_]
      refine ⟨rfl, fun b hb => State.modChan_chan_ne _ _ hb, ?_, fun move pending => absurd ⟨move, pending⟩ waits,
        fun _ => ⟨?_, fun _ => ⟨?_, .of_ports rfl⟩, fun h origin hc => by cases hc⟩⟩
      · rw [own]; rfl
      · rw [own]; rfl
      · rw [own]; rfl
    | some x =>
      obtain ⟨h, origin⟩ := x
      have added := (s.layoutWaits c p d cue).addOutcome_chan_same c h .layout origin .superseded
      rw [own] at added
      rw [State.takeLayout_supersede p d cue wait from_]
      refine ⟨rfl, fun b hb => ?_, ?_, fun move pending => absurd ⟨move, pending⟩ waits,
        fun _ => ⟨?_, fun hc => (by cases hc), fun h' origin' hc => ?_⟩⟩
      · rw [State.addOutcome_chan_ne _ _ _ _ _ _ hb]
        exact State.modChan_chan_ne _ _ hb
      · rw [added]; rfl
      · rw [added]; rfl
      · cases hc
        refine ⟨?_, (s.layoutWaits c p d cue).addOutcome_posted c h .layout origin .superseded⟩
        rw [added]
        simp only [ChannelState.setScheduler_scheduler, State.recordOf, own]
        rfl
  · obtain ⟨move, pending⟩ := not_or.1 wait
    rw [Option.not_isSome_iff_eq_none] at move pending
    have own : ∀ f, (s.modChan c f).chan c = f (s.chan c) := fun f => State.modChan_chan_same ..
    rw [State.takeLayout_now p d cue move pending]
    refine ⟨rfl, fun b hb => State.modChan_chan_ne _ _ hb, ?_, fun _ _ => ⟨?_, .of_ports rfl, fun h => ?_,
      fun h long => ?_⟩, fun h => absurd h wait⟩
    · rw [own]; rfl
    · rw [own]; rfl
    · rw [own]; exact Window.takeNow_cut p d _ h
    · rw [own]; exact Window.takeNow_move p d _ h long

end

/-! ## A delay target worked out (R137, R140 to R142, R149) -/

theorem resizeRing_length (n : Nat) (ring : List (Option ProgrammeFrame)) : (resizeRing n ring).length = n := by
  simp only [resizeRing, List.length_take, List.length_append, List.length_replicate]
  omega

theorem resizeRing_get (n : Nat) (ring : List (Option ProgrammeFrame)) {i : Nat} (h : i < n) :
    (resizeRing n ring)[i]? = if i < ring.length then ring[i]? else some none := by
  rw [resizeRing, List.getElem?_take_of_lt h]
  split
  · rename_i old; rw [List.getElem?_append_left old]
  · rename_i fresh
    rw [List.getElem?_append_right (by omega), List.getElem?_replicate, if_pos (by omega)]

section
variable {d : DelayLine} (reach : d.actual + 1 ≤ d.held) (latency free : Nat)
include reach

/-- The granted target is the largest up to the requested one whose slots are held or free (R140 stage 2). -/
theorem DelayLine.retarget_granted :
    let e := d.retarget latency free
    e.target ≤ e.requested ∧ e.held ≤ d.held + free
      ∧ ∀ n, n ≤ e.requested → max d.actual n + 1 ≤ d.held + free → n ≤ e.target := by
  simp only [DelayLine.retarget, grantedTarget]
  split
  · rename_i fits
    exact ⟨le_refl _, fits, fun n least _ => least⟩
  · rename_i short
    refine ⟨by omega, by omega, fun n least fits => by omega⟩

end

/-- A delay line after a lag is set, with `free` slots free (R140, R141). -/
def DelayLine.lagged (d : DelayLine) (lag latency free : Nat) : DelayLine :=
  ({ d with lag := lag } : DelayLine).retarget latency free

/-- A channel's delay line replaced, the slots it gives up going back to the pool. -/
def State.putDelay (s : State) (c : Channel) (e : DelayLine) : State :=
  (s.modChan c fun x => x.setDelay e).setFree (s.free + (s.chan c).delay.held - e.held)

/-- A lag set is one change of the delay line and the pool, which may be posted (R141, R142, R149). -/
theorem State.setLag_eq (s : State) (c : Channel) (lag : Nat) : s.setLag c lag
    = if (s.chan c).delay.actual ≠ (s.chan c).delay.target ∧ (s.chan c).delay.actual
          = ((s.chan c).delay.lagged lag (s.chan c).calibration.latency s.free).target
      then (s.putDelay c ((s.chan c).delay.lagged lag (s.chan c).calibration.latency s.free)).postAll
        (.channel .delaySettled c)
      else s.putDelay c ((s.chan c).delay.lagged lag (s.chan c).calibration.latency s.free) := by
  unfold State.setLag State.targetEvent
  dsimp only
  rw [State.modChan_modChan, State.modChan_chan_same]
  rfl

/-- A lag set, with the target event it is (R141, R142). -/
theorem targetTook_setLag {s : State} (sound : s.PoolSound) (c : Channel) (lag : Nat) :
    s.TargetTook (s.setLag c lag) c lag (s.chan c).calibration.latency := by
  obtain ⟨held, length, -, -, -⟩ := sound.2 c
  have reach : (s.chan c).delay.actual + 1 ≤ (s.chan c).delay.held := by omega
  obtain ⟨least, room, most⟩ := DelayLine.retarget_granted (d := { (s.chan c).delay with lag := lag }) reach
    (s.chan c).calibration.latency s.free
  have own : ((s.setLag c lag).chan c) = (s.chan c).setDelay
      ((s.chan c).delay.lagged lag (s.chan c).calibration.latency s.free) := by
    have put : ∀ e, (s.putDelay c e).chan c = (s.chan c).setDelay e :=
      fun e => s.modChan_chan_same c fun x => x.setDelay e
    rw [State.setLag_eq]
    split
    · rw [State.postAll_chan, put]
    · exact put _
  have free : (s.setLag c lag).free = s.free + (s.chan c).delay.held
      - ((s.chan c).delay.lagged lag (s.chan c).calibration.latency s.free).held := by
    rw [State.setLag_eq]
    split <;> rfl
  unfold State.TargetTook
  rw [own]
  refine ⟨?_, fun b hb => State.setLag_chan_ne s c lag hb, rfl, ?_, least, room, most, ?_, resizeRing_length ..,
    fun i hi => (resizeRing_get _ _ hi).trans (by rw [length]), ?_⟩
  · rw [State.setLag_eq]
    split <;> rfl
  · simp only [ChannelState.setDelay_delay, DelayLine.lagged, DelayLine.retarget, requestedTarget, eq_comm]
  · rw [free]
    exact Nat.sub_add_cancel (by rw [Nat.add_comm]; exact room)
  · rw [State.setLag_eq]
    exact State.Posted.after (t := s.putDelay c _) rfl (.postIf _ _)

/-! ## The action (R41) -/

theorem actionTook_deliver (u : State) (c : Channel) (h : Handle) (k : Cue) :
    u.ActionTook (u.deliver c h k) c h k := by
  unfold State.ActionTook
  intro asked
  refine ⟨fun action preset => ?_, fun q action preset => ?_, fun action => ?_, fun q action preset => ?_,
    fun sound action => ?_⟩
  · simp only [State.deliver, action, preset]; rfl
  · refine ⟨u.takeLayout c q k.duration none, layoutTook_takeLayout q k.duration none u c, ?_⟩
    simp only [State.deliver, action, preset]; rfl
  · simp only [State.deliver, action]; rfl
  · have deliver : u.deliver c h k = u.takeLayout c q k.duration (some (h, k.origin)) := by
      simp only [State.deliver, action, preset]
    rw [deliver]
    exact layoutTook_takeLayout q k.duration _ u c
  · have deliver : u.deliver c h k = u.setLag c k.lag := by simp only [State.deliver, action]
    rw [deliver]
    exact targetTook_setLag sound c k.lag

end Sys2Proof.Machine
end

section
/-! PROOFS. Cues dealt with one after another (R38 to R41), the order in which a report deals with its cues (R37, R38),
and the statements about a step report and a FIRE edge. -/

namespace Sys2Proof.Machine

open Sys2Proof

/-! ## Slots in order of a key, equal ones as they stood (R38) -/

/-- One entry comes before another by its key, and of equal keys by its place in a list. -/
def ComesBefore (key : SlotIx → Nat) (l : List SlotIx) (i j : SlotIx) : Prop :=
  key i < key j ∨ (key i = key j ∧ [i, j].Sublist l)

theorem insertBy_comesBefore (key : SlotIx → Nat) (i : SlotIx) {l done : List SlotIx}
    (old : ∀ j ∈ done, j ∈ l) (order : done.Pairwise (ComesBefore key l)) :
    (insertBy key i done).Pairwise (ComesBefore key (l ++ [i])) := by
  have kept : ∀ {a b}, ComesBefore key l a b → ComesBefore key (l ++ [i]) a b := fun h =>
    h.imp_right fun ⟨same, place⟩ => ⟨same, place.trans (List.sublist_append_left l [i])⟩
  induction done with
  | nil => simp [insertBy]
  | cons a done ih =>
    obtain ⟨first, rest⟩ := List.pairwise_cons.1 order
    by_cases le : key a ≤ key i
    · have next : insertBy key i (a :: done) = a :: insertBy key i done := by simp [insertBy, le]
      rw [next, List.pairwise_cons]
      refine ⟨fun b hb => ?_, ih (fun j hj => old j (by simp [hj])) rest⟩
      obtain rfl | mem := List.mem_cons.1 ((insertBy_perm key i done).mem_iff.1 hb)
      · have place : [a, b].Sublist (l ++ [b]) :=
          (List.singleton_sublist.2 (old a (by simp))).append (List.Sublist.refl [b])
        exact (Nat.lt_or_eq_of_le le).imp_right fun same => ⟨same, place⟩
      · exact kept (first b mem)
    · have head : insertBy key i (a :: done) = i :: a :: done := by simp [insertBy, le]
      rw [head, List.pairwise_cons]
      refine ⟨fun b hb => .inl ?_, order.imp kept⟩
      obtain rfl | mem := List.mem_cons.1 hb
      · omega
      · rcases first b mem with less | ⟨same, -⟩ <;> omega

theorem sortBy_comesBefore (key : SlotIx → Nat) (l : List SlotIx) :
    (sortBy key l).Pairwise (ComesBefore key l) := by
  induction l using List.reverseRecOn with
  | nil => simp [sortBy]
  | append_singleton l i ih =>
    have last : sortBy key (l ++ [i]) = insertBy key i (sortBy key l) := by
      simp [sortBy, List.foldl_append]
    rw [last]
    exact insertBy_comesBefore key i (fun j hj => (sortBy_perm key l).mem_iff.1 hj) ih

/-! ## A cue dealt with, whole (R40, R41) -/

/-- A cue dealt with by its result: retired, and its action delivered unless it is MISSED. -/
def dealCue (c : Channel) (s : State) (x : SlotIx × Result) : State :=
  if x.2 = .missed then s.missCue c x.1 else s.fireCue c x.2 x.1

/-- A scheduler with its outcomes left out of account. -/
def Scheduler.unrecorded (k : Scheduler) : Scheduler := { k with ring := [], total := 0 }

theorem Scheduler.unrecorded_recorded (k : Scheduler) (l : List OutcomeRecord) :
    (k.recorded l).unrecorded = k.unrecorded := rfl

theorem State.addOutcome_unrecorded (s : State) (c : Channel) (h : Handle) (a : Action) (o : PortId) (r : Result) :
    ((s.addOutcome c h a o r).chan c).scheduler.unrecorded = (s.chan c).scheduler.unrecorded := by
  rw [State.addOutcome_chan_same]
  rfl

theorem State.takeLayout_unrecorded (s : State) (c : Channel) (p : PresetIx) (d : Nat)
    (cue : Option (Handle × PortId)) :
    ((s.takeLayout c p d cue).chan c).scheduler.unrecorded = (s.chan c).scheduler.unrecorded := by
  have kept : ∀ f : ChannelState → Window, ((s.modChan c fun x => x.setWindow (f x)).chan c).scheduler
      = (s.chan c).scheduler := fun f => by rw [State.modChan_chan_same]; rfl
  unfold State.takeLayout
  dsimp only
  split
  · split
    · rw [kept]
    · rw [State.addOutcome_unrecorded, kept]
  · rw [kept]

theorem State.request_unrecorded (s : State) (c : Channel) (on : Bool) (d : Nat) :
    ((s.request c on d).chan c).scheduler.unrecorded = (s.chan c).scheduler.unrecorded := by
  rw [State.request, State.modChan_chan_same]
  rfl

/-- An action leaves its channel's lists, holds and scan alone (R41). -/
theorem State.deliver_unrecorded (s : State) (c : Channel) (h : Handle) (k : Cue) :
    ((s.deliver c h k).chan c).scheduler.unrecorded = (s.chan c).scheduler.unrecorded := by
  unfold State.deliver
  split
  · unfold State.windowIn
    split
    · exact State.request_unrecorded ..
    · rw [State.request_unrecorded, State.takeLayout_unrecorded]
  · exact State.request_unrecorded ..
  · split
    · rfl
    · exact State.takeLayout_unrecorded ..
  · rw [State.setLag_chan_scheduler]

theorem State.retire_unrecorded (s : State) (c : Channel) (i : SlotIx) (k : Cue) (r : Result) :
    ((s.retire c i k r).chan c).scheduler.unrecorded = { (s.chan c).scheduler.unrecorded with
      timed := (s.chan c).scheduler.timed.filter (· ≠ i)
      contact := (s.chan c).scheduler.contact.filter (· ≠ i) } := by
  rw [State.retire_chan_same]
  rfl

section
variable {s : State} {c : Channel} {i : SlotIx} {k : Cue} (live : s.cue i = some k) (r : Result)
include live

theorem dealCue_cueDealt : s.CueDealt (dealCue c s (i, r)) c i r := by
  refine ⟨k, s.retire c i k r, live, .one s c r live, ?_, ?_⟩
  · rintro rfl
    exact State.missCue_live live c
  · intro fired
    rw [dealCue, if_neg fired, State.fireCue_live live]
    exact actionTook_deliver ..

theorem dealCue_slot (j : SlotIx) : (dealCue c s (i, r)).slot j
    = if j = i then { s.slot i with cue := none } else s.slot j := by
  unfold dealCue
  split
  · rw [State.missCue_live live, State.retire_slot]
  · rw [State.fireCue_live live, State.slot_of_cues (State.deliver_cues ..), State.retire_slot]

theorem dealCue_unrecorded : ((dealCue c s (i, r)).chan c).scheduler.unrecorded
    = { (s.chan c).scheduler.unrecorded with
      timed := (s.chan c).scheduler.timed.filter (· ≠ i)
      contact := (s.chan c).scheduler.contact.filter (· ≠ i) } := by
  unfold dealCue
  split
  · rw [State.missCue_live live, State.retire_unrecorded]
  · rw [State.fireCue_live live, State.deliver_unrecorded, State.retire_unrecorded]

end

/-- Live cues dealt with one after another: each whole, and of the slots and lists none but theirs is touched. -/
theorem dealCues_result (c : Channel) (l : List (SlotIx × Result)) {s : State} (nodup : (l.map (·.1)).Nodup)
    (live : ∀ i ∈ l.map (·.1), (s.cue i).isSome = true) :
    State.CuesDealt c s (l.foldl (dealCue c) s) l
      ∧ (∀ i, (l.foldl (dealCue c) s).slot i
        = if i ∈ l.map (·.1) then { s.slot i with cue := none } else s.slot i)
      ∧ ((l.foldl (dealCue c) s).chan c).scheduler.unrecorded = { (s.chan c).scheduler.unrecorded with
          timed := (s.chan c).scheduler.timed.filter (· ∉ l.map (·.1))
          contact := (s.chan c).scheduler.contact.filter (· ∉ l.map (·.1)) } := by
  induction l generalizing s with
  | nil => exact ⟨rfl, fun i => by simp, by simp [Scheduler.unrecorded]⟩
  | cons x l ih =>
    obtain ⟨i, r⟩ := x
    obtain ⟨fresh, nodup⟩ := List.nodup_cons.1 nodup
    obtain ⟨k, hk⟩ := Option.isSome_iff_exists.1 (live i (by simp))
    have slot := dealCue_slot (c := c) hk r
    have lists := dealCue_unrecorded (c := c) hk r
    obtain ⟨dealt, slots, rest⟩ := ih (s := dealCue c s (i, r)) nodup fun j hj => by
      have other : j ≠ i := fun same => fresh (same ▸ hj)
      rw [State.cue, slot, if_neg other]
      exact live j (by simp only [List.map_cons, List.mem_cons]; exact .inr hj)
    have timed := congrArg Scheduler.timed lists
    have contact := congrArg Scheduler.contact lists
    simp only [Scheduler.unrecorded] at timed contact
    refine ⟨⟨_, dealCue_cueDealt hk r, dealt⟩, fun j => ?_, ?_⟩
    · rw [List.foldl_cons, slots, slot]
      by_cases hj : j = i
      · subst hj; simp
      · rw [if_neg hj]
        exact if_congr (by rw [List.map_cons, List.mem_cons, or_iff_right hj]) rfl rfl
    · rw [List.foldl_cons, rest, lists, timed, contact]
      simp only [List.filter_filter, List.map_cons, List.mem_cons, not_or, Bool.decide_and, Bool.and_comm]

end Sys2Proof.Machine
end

section
/-! PROOFS. What a step report does to the plan, cues passed beyond the tolerance, and a FIRE edge (R36 to R41, R45). -/

namespace Sys2Proof.Machine

open Sys2Proof

theorem State.day_pos (s : State) (c : Channel) : 0 < s.day c := dayLength_pos _ _

/-! ## The step the scheduler uses (R37) -/

section
variable {s : State} {c : Channel} (r : StepReport)

theorem State.scanOf_resume {v : Nat} (resume : (s.chan c).scheduler.resume = true)
    (scan : (s.chan c).scheduler.scan = some v) : s.scanOf c r = {
      old := v, new := r.value, distance := distance (s.day c) v r.value
      kind := stepKind s.timing.format (s.chan c).clock.dropMode (distance (s.day c) v r.value) } := by
  simp only [State.scanOf, resume, scan]
  rfl

theorem State.scanOf_report (h : (s.chan c).scheduler.resume = false ∨ (s.chan c).scheduler.scan = none) :
    s.scanOf c r = {
      old := distance (s.day c) r.distance r.value, new := r.value, distance := r.distance, kind := r.kind } := by
  unfold State.scanOf
  dsimp only
  split
  · rename_i resume scan
    rcases h with h | h
    · rw [resume] at h; cases h
    · rw [scan] at h; cases h
  · rfl

/-- The old value, the distance and the kind in the words of the manual. -/
theorem State.scanOf_eq {old d : Nat} {kind : StepKind}
    (resumed : ∀ v, (s.chan c).scheduler.resume = true → (s.chan c).scheduler.scan = some v →
      old = v ∧ (d : Int) = ((r.value : Int) - (v : Int)) % (s.day c : Int)
        ∧ kind = stepKind s.timing.format (s.chan c).clock.dropMode d)
    (reported : (s.chan c).scheduler.resume = false ∨ (s.chan c).scheduler.scan = none →
      (old : Int) = ((r.value : Int) - (r.distance : Int)) % (s.day c : Int) ∧ d = r.distance ∧ kind = r.kind) :
    s.scanOf c r = { old := old, new := r.value, distance := d, kind := kind } := by
  have cast : ∀ {a b n : Nat}, (n : Int) = ((b : Int) - (a : Int)) % (s.day c : Int) → n = distance (s.day c) a b :=
    fun h => Int.natCast_inj.1 (h.trans (distance_cast (s.day_pos c) _ _).symm)
  by_cases h : (s.chan c).scheduler.resume = false ∨ (s.chan c).scheduler.scan = none
  · obtain ⟨place, rfl, rfl⟩ := reported h
    rw [State.scanOf_report r h, cast place]
  · obtain ⟨on, some⟩ := not_or.1 h
    obtain ⟨v, scan⟩ := Option.ne_none_iff_exists'.1 some
    have resume : (s.chan c).scheduler.resume = true := by simpa using on
    obtain ⟨rfl, length, rfl⟩ := resumed v resume scan
    rw [State.scanOf_resume r resume scan, cast length]

end

/-! ## The three groups (R38) -/

section
variable {s : State} {c : Channel} {x : Scan} {i : SlotIx}

theorem State.mem_lateCues : i ∈ s.lateCues c ↔ i ∈ (s.chan c).scheduler.timed ∧ s.lateAt i = true :=
  List.mem_filter

theorem State.mem_passedCues : i ∈ s.passedCues c x ↔ i ∈ (s.chan c).scheduler.timed ∧ s.lateAt i = false
    ∧ x.kind = .forward ∧ 0 < distance (s.day c) x.old (s.fireTimeAt i)
    ∧ distance (s.day c) x.old (s.fireTimeAt i) < x.distance := by
  unfold State.passedCues
  split
  · rename_i forward
    rw [(sortBy_perm _ _).mem_iff, List.mem_filter]
    simp [forward, and_assoc]
  · rename_i other
    simp [other]

theorem State.dueCues_eq : s.dueCues c x = (s.chan c).scheduler.timed.filter fun i =>
    !s.lateAt i && decide (s.fireTimeAt i = x.new) && decide (x.kind = .advance ∨ x.kind = .forward) := by
  unfold State.dueCues
  split
  · rename_i step; simp [step]
  · rename_i other; simp [other]

theorem State.mem_dueCues : i ∈ s.dueCues c x ↔ i ∈ (s.chan c).scheduler.timed ∧ s.lateAt i = false
    ∧ s.fireTimeAt i = x.new ∧ (x.kind = .advance ∨ x.kind = .forward) := by
  rw [State.dueCues_eq, List.mem_filter]
  simp [and_assoc]

theorem State.passedCues_nodup (nodup : (s.chan c).scheduler.timed.Nodup) : (s.passedCues c x).Nodup := by
  unfold State.passedCues
  split
  · exact (sortBy_perm _ _).nodup_iff.2 (nodup.filter _)
  · exact .nil

theorem State.passedCues_order : (s.passedCues c x).Pairwise
    (ComesBefore (fun i => distance (s.day c) x.old (s.fireTimeAt i)) (s.chan c).scheduler.timed) := by
  unfold State.passedCues
  split
  · exact (sortBy_comesBefore _ _).imp fun h => h.imp_right fun ⟨same, place⟩ =>
      ⟨same, place.trans List.filter_sublist⟩
  · exact .nil

end

/-- The cues a report deals with, in order, each with its result (R38 to R40). -/
def State.scanDeals (s : State) (c : Channel) (x : Scan) : List (SlotIx × Result) :=
  (s.lateCues c).map (·, .firedLate)
    ++ (s.passedCues c x).map
      (·, if x.distance ≤ (s.chan c).scheduler.lateTolerance + 1 then .firedLate else .missed)
    ++ (s.dueCues c x).map (·, .fired)

theorem State.scanDeals_slots (s : State) (c : Channel) (x : Scan) :
    (s.scanDeals c x).map (·.1) = s.lateCues c ++ s.passedCues c x ++ s.dueCues c x := by
  simp [State.scanDeals, Function.comp_def]

theorem State.fireCue_lateTolerance (s : State) (c : Channel) (r : Result) (i : SlotIx) :
    ((s.fireCue c r i).chan c).scheduler.lateTolerance = (s.chan c).scheduler.lateTolerance := by
  unfold State.fireCue
  split
  · rfl
  · rename_i k _
    have delivered := congrArg Scheduler.lateTolerance
      ((s.retire c i k r).deliver_unrecorded c (s.handle i) k)
    have retired := congrArg Scheduler.lateTolerance (s.retire_unrecorded c i k r)
    exact delivered.trans retired

/-- The scan is its deals one after another, then the scan value taken (R37 to R40). -/
theorem State.scanCues_eq (s : State) (c : Channel) (r : StepReport) : s.scanCues c r
    = ((s.scanDeals c (s.scanOf c r)).foldl (dealCue c) s).modScheduler c fun k =>
        { k with scan := some (s.scanOf c r).new, resume := false } := by
  have fire : ∀ (result : Result), result ≠ .missed → ∀ (l : List SlotIx) (t : State),
      (l.map (·, result)).foldl (dealCue c) t = l.foldl (fun u i => u.fireCue c result i) t := by
    intro result fired l t
    rw [List.foldl_map]
    exact congrArg (List.foldl · t l) (funext fun u => funext fun i => if_neg fired)
  have miss : ∀ (l : List SlotIx) (t : State),
      (l.map (·, Result.missed)).foldl (dealCue c) t = l.foldl (fun u i => u.missCue c i) t := by
    intro l t
    rw [List.foldl_map]
    rfl
  have tolerance : ((s.lateCues c).foldl (fun u i => u.fireCue c .firedLate i) s |>.chan c).scheduler.lateTolerance
      = (s.chan c).scheduler.lateTolerance :=
    foldl_keeps _ (fun t : State => (t.chan c).scheduler.lateTolerance)
      (fun t i => t.fireCue_lateTolerance c _ i) _ s
  rw [State.scanCues, State.scanDeals, List.foldl_append, List.foldl_append, fire .firedLate (by decide),
    fire .fired (by decide)]
  rw [State.dealPassed, tolerance]
  split
  · rw [fire .firedLate (by decide)]
  · rw [miss]

/-! ## No cue is dealt with twice (R38) -/

/-- A fire time at the reported value is not passed: its distance is the report's own (R17, R37). -/
theorem State.scanOf_reach {s : State} {c : Channel} {r : StepReport} (short : r.distance < s.day c) :
    distance (s.day c) (s.scanOf c r).old (s.scanOf c r).new = (s.scanOf c r).distance := by
  unfold State.scanOf
  dsimp only
  split
  · rfl
  · have pos := s.day_pos c
    apply Int.natCast_inj.1
    rw [distance_cast pos, distance_cast pos, Int.sub_emod_emod, sub_sub_cancel]
    exact Int.emod_eq_of_lt (by omega) (by omega)

section
variable {s : State} {c : Channel} {r : StepReport} (short : r.distance < s.day c)
include short

theorem State.scanDeals_nodup (sound : s.CuesSound) :
    ((s.scanDeals c (s.scanOf c r)).map (·.1)).Nodup := by
  obtain ⟨lists, -⟩ := s.cuesSound_iff.1 sound
  obtain ⟨nodup, -⟩ := lists c
  rw [State.scanDeals_slots, List.append_assoc, List.nodup_append', List.nodup_append']
  refine ⟨nodup.filter _, ⟨State.passedCues_nodup nodup, ?_, ?_⟩, ?_⟩
  · rw [State.dueCues_eq]; exact nodup.filter _
  · intro i passed due
    obtain ⟨-, -, -, -, before⟩ := State.mem_passedCues.1 passed
    obtain ⟨-, -, at_, -⟩ := State.mem_dueCues.1 due
    rw [at_, State.scanOf_reach short] at before
    omega
  · intro i late rest
    obtain ⟨-, marked⟩ := State.mem_lateCues.1 late
    rcases List.mem_append.1 rest with passed | due
    · obtain ⟨-, unmarked, -⟩ := State.mem_passedCues.1 passed
      rw [marked] at unmarked; cases unmarked
    · obtain ⟨-, unmarked, -⟩ := State.mem_dueCues.1 due
      rw [marked] at unmarked; cases unmarked

end

theorem State.CuesSound.timed_live {s : State} (sound : s.CuesSound) {c : Channel} {i : SlotIx}
    (h : i ∈ (s.chan c).scheduler.timed) : (s.cue i).isSome = true := by
  obtain ⟨lists, -⟩ := s.cuesSound_iff.1 sound
  obtain ⟨-, -, -, mem, -⟩ := lists c
  obtain ⟨k, hk, -⟩ := (mem i).1 h
  exact Option.isSome_iff_exists.2 ⟨k, hk⟩

theorem State.CuesSound.contact_live {s : State} (sound : s.CuesSound) {c : Channel} {i : SlotIx}
    (h : i ∈ (s.chan c).scheduler.contact) : (s.cue i).isSome = true := by
  obtain ⟨lists, -⟩ := s.cuesSound_iff.1 sound
  obtain ⟨-, -, -, -, mem⟩ := lists c
  obtain ⟨k, hk, -⟩ := (mem i).1 h
  exact Option.isSome_iff_exists.2 ⟨k, hk⟩

/-- No cue stands on both lists of a channel (R22, R23). -/
theorem State.CuesSound.timed_not_contact {s : State} (sound : s.CuesSound) {c : Channel} {i : SlotIx}
    (h : i ∈ (s.chan c).scheduler.timed) : i ∉ (s.chan c).scheduler.contact := by
  obtain ⟨lists, -⟩ := s.cuesSound_iff.1 sound
  obtain ⟨-, -, -, mem, mem'⟩ := lists c
  intro h'
  obtain ⟨k, hk, -, time⟩ := (mem i).1 h
  obtain ⟨k', hk', -, contact⟩ := (mem' i).1 h'
  obtain rfl := Option.mem_unique hk hk'
  rw [time] at contact
  cases contact

section
variable {s : State} {c : Channel} {r : StepReport} {old d : Nat} {kind : StepKind}
  (scan : s.scanOf c r = { old := old, new := r.value, distance := d, kind := kind })
include scan

/-- The cues a report deals with, in the words of the manual (R38). -/
theorem State.mem_scanDeals {i : SlotIx} : i ∈ (s.scanDeals c (s.scanOf c r)).map (·.1)
    ↔ i ∈ (s.chan c).scheduler.timed ∧ (s.lateAt i = true
      ∨ (kind = .forward ∧ 0 < ((s.fireTimeAt i : Int) - (old : Int)) % (s.day c : Int)
        ∧ ((s.fireTimeAt i : Int) - (old : Int)) % (s.day c : Int) < (d : Int))
      ∨ ((kind = .advance ∨ kind = .forward) ∧ s.fireTimeAt i = r.value)) := by
  rw [State.scanDeals_slots, scan, List.mem_append, List.mem_append, State.mem_lateCues, State.mem_passedCues,
    State.mem_dueCues, ← distance_cast (s.day_pos c), Nat.cast_pos, Nat.cast_lt]
  cases s.lateAt i
  · simp only [Bool.false_eq_true, and_false, false_or, true_and]
    tauto
  · simp

theorem State.scanDeals_eq : s.scanDeals c (s.scanOf c r)
    = ((s.chan c).scheduler.timed.filter fun i => s.lateAt i).map (·, .firedLate)
      ++ (s.passedCues c (s.scanOf c r)).map
        (·, if d ≤ (s.chan c).scheduler.lateTolerance + 1 then .firedLate else .missed)
      ++ ((s.chan c).scheduler.timed.filter fun i => !s.lateAt i && decide (s.fireTimeAt i = r.value)
        && decide (kind = .advance ∨ kind = .forward)).map (·, .fired) := by
  rw [State.scanDeals, State.dueCues_eq, scan]
  rfl

end

section
variable {s : State} {c : Channel} {r : StepReport}

theorem State.scheduleCues_passedOver (h : (s.chan c).scheduler.hold ≠ PortSet.empty ∨ r.status = .invalid) :
    s.scheduleCues c r = s := by
  refine if_pos (h.imp_left fun held => ?_)
  rwa [← Bool.not_eq_true, PortSet.isEmpty_iff]

theorem State.scheduleCues_taken (empty : (s.chan c).scheduler.hold = PortSet.empty)
    (valid : r.status ≠ .invalid) : s.scheduleCues c r = s.scanCues c r := by
  refine if_neg (not_or.2 ⟨?_, valid⟩)
  rw [Bool.not_eq_false, PortSet.isEmpty_iff, empty]

end

/-- Settles O20: the deals of `State.scanDeals` one after another, none of them of a cue dealt with before. -/
theorem reportScan : Obligations.ReportScan := by
  intro s c r sound bounded k t
  refine ⟨State.scheduleCues_passedOver, ?_⟩
  intro empty valid old d kind resumed reported ahead dealt
  have short : r.distance < s.day c := bounded.resolve_left valid
  have scan := State.scanOf_eq r resumed reported
  have mem : ∀ i, i ∈ (s.scanDeals c (s.scanOf c r)).map (·.1) ↔ i ∈ k.timed ∧ dealt i :=
    fun i => State.mem_scanDeals scan
  obtain ⟨deals, slots, lists⟩ := dealCues_result c (s.scanDeals c (s.scanOf c r))
    (State.scanDeals_nodup short sound) fun i hi => sound.timed_live ((mem i).1 hi).1
  have taken : t = ((s.scanDeals c (s.scanOf c r)).foldl (dealCue c) s).modScheduler c fun k =>
      { k with scan := some r.value, resume := false } := by
    show s.scheduleCues c r = _
    rw [State.scheduleCues_taken empty valid, State.scanCues_eq, scan]
  generalize (s.scanDeals c (s.scanOf c r)).foldl (dealCue c) s = u at deals slots lists taken
  have scheduler : (t.chan c).scheduler = { (u.chan c).scheduler with scan := some r.value, resume := false } := by
    rw [taken, State.modScheduler, State.modChan_chan_same]
    rfl
  have slot : ∀ i, t.slot i = u.slot i := fun i => by rw [taken]; rfl
  have timed : (u.chan c).scheduler.timed
      = k.timed.filter (· ∉ (s.scanDeals c (s.scanOf c r)).map (·.1)) := congrArg Scheduler.timed lists
  have contact : (u.chan c).scheduler.contact
      = k.contact.filter (· ∉ (s.scanDeals c (s.scanOf c r)).map (·.1)) := congrArg Scheduler.contact lists
  have hold : (u.chan c).scheduler.hold = k.hold := by
    have same := congrArg Scheduler.hold lists
    exact same
  refine ⟨?_, ?_, ?_, ?_, ?_, fun i => ?_, fun i own hit => ?_, fun i other => ?_,
    fun b hb => State.scheduleCues_chan_ne s c r hb, by simp [t], by simp [t], by simp [t], by simp [t], by simp [t],
    u, s.passedCues c (s.scanOf c r), ?_, fun i => ?_, ?_, ?_, taken⟩
  · rw [scheduler]
  · rw [scheduler]
  · rw [scheduler]; exact hold
  · rw [scheduler]
    refine contact.trans (List.filter_eq_self.2 fun i hi => decide_eq_true fun gone => ?_)
    exact sound.timed_not_contact ((mem i).1 gone).1 hi
  · rw [scheduler]; exact timed ▸ List.filter_sublist
  · rw [scheduler]
    show i ∈ (u.chan c).scheduler.timed ↔ _
    rw [timed, List.mem_filter, decide_eq_true_iff, mem]
    exact and_congr_right fun own => by simp [own]
  · rw [slot, slots, if_pos ((mem i).2 ⟨own, hit⟩)]
  · rw [slot, slots, if_neg fun h => other ((mem i).1 h)]
  · obtain ⟨nodup, -⟩ := (s.cuesSound_iff.1 sound).1 c
    exact State.passedCues_nodup nodup
  · rw [State.mem_passedCues, scan, ← Nat.cast_pos (α := Int), ← Nat.cast_lt (α := Int),
      distance_cast (s.day_pos c)]
  · refine State.passedCues_order.imp fun {i j} h => ?_
    rw [scan] at h
    simp only [ComesBefore, ← Nat.cast_lt (α := Int), ← Nat.cast_inj (R := Int), distance_cast (s.day_pos c)] at h
    exact h
  · rwa [State.scanDeals_eq scan] at deals

/-- Settles O21: with no late-marked cue and none at the new value, the deals of the report are those of the cues
passed. -/
theorem missedCues : Obligations.MissedCues := by
  intro s c r sound rings empty valid forward resume far none
  have scan := State.scanOf_report r (.inl resume)
  have late : s.lateCues c = [] := List.filter_eq_nil_iff.2 fun i hi => by simp [(none i hi).1]
  have due : s.dueCues c (s.scanOf c r) = [] := by
    rw [State.dueCues_eq]
    exact List.filter_eq_nil_iff.2 fun i hi => by simp [scan, (none i hi).2]
  obtain ⟨nodup, -⟩ := (s.cuesSound_iff.1 sound).1 c
  have gone := State.Retired.foldl (c := c) (r := .missed) (f := fun t i => t.missCue c i)
    (fun t i k live => State.missCue_live live c ▸ .one t c .missed live)
    (State.passedCues_nodup (x := s.scanOf c r) nodup)
    (fun i hi => sound.timed_live (State.mem_passedCues.1 hi).1) (rings c).1 (rings c).2
  have deals : s.scheduleCues c r = ((s.passedCues c (s.scanOf c r)).foldl (fun t i => t.missCue c i) s).modScheduler c
      fun k => { k with scan := some r.value, resume := false } := by
    have beyond : ¬ (s.scanOf c r).distance ≤ (s.chan c).scheduler.lateTolerance + 1 := by
      rw [scan]; exact Nat.not_le.2 far
    rw [State.scheduleCues_taken empty valid, State.scanCues_eq, State.scanDeals, late, due, if_neg beyond]
    simp only [List.map_nil, List.nil_append, List.append_nil, List.foldl_map]
    rw [scan]
    rfl
  have order := State.passedCues_order (s := s) (c := c) (x := s.scanOf c r)
  refine ⟨_, s.passedCues c (s.scanOf c r), gone, ?_, State.passedCues_nodup nodup, fun i => ?_,
    order.imp fun {i j} h => ?_⟩
  · have kept : (((s.passedCues c (s.scanOf c r)).foldl (fun t i => t.missCue c i) s).chan c).scheduler.resume
        = false := by
      obtain ⟨-, -, -, chan, -⟩ := gone
      rw [chan]
      exact resume
    rw [deals, State.modScheduler, State.modChan, ← kept]
  · rw [State.mem_passedCues, scan, ← Nat.cast_pos (α := Int), ← Nat.cast_lt (α := Int),
      distance_cast (s.day_pos c), distance_cast (s.day_pos c)]
    exact and_congr_right fun own => by simp [forward, (none i own).1]
  · rw [scan] at h
    have le : distance (s.day c) (distance (s.day c) r.distance r.value) (s.fireTimeAt i)
        ≤ distance (s.day c) (distance (s.day c) r.distance r.value) (s.fireTimeAt j) :=
      h.elim le_of_lt fun same => le_of_eq same.1
    rw [← Nat.cast_le (α := Int)] at le
    simpa only [distance_cast (s.day_pos c)] using le

/-! ## A FIRE edge (R41, R45) -/

theorem State.fireEdge_none {s : State} {g : GpiIx} {c : Channel}
    (none : ∀ i ∈ (s.chan c).scheduler.contact, ∀ k, s.cue i = some k → k.trigger ≠ .contact g) :
    s.fireEdge g c = s := by
  have unfound :
      ((s.chan c).scheduler.contact.find? fun i => ((s.cue i).map (·.names g)).getD false) = Option.none := by
    refine List.find?_eq_none.2 fun i hi => ?_
    cases live : s.cue i with
    | none => simp
    | some k => simpa [Cue.names] using none i hi k live
  unfold State.fireEdge
  rw [unfound]
  split <;> rfl

theorem State.fireEdge_first {s : State} {g : GpiIx} {c : Channel} {before after : List SlotIx} {i : SlotIx} {k : Cue}
    (empty : (s.chan c).scheduler.hold = PortSet.empty)
    (list : (s.chan c).scheduler.contact = before ++ i :: after)
    (first : ∀ j ∈ before, ∀ x, s.cue j = some x → x.trigger ≠ .contact g)
    (live : s.cue i = some k) (names : k.trigger = .contact g) : s.fireEdge g c = s.fireCue c .fired i := by
  have found : ((s.chan c).scheduler.contact.find? fun i => ((s.cue i).map (·.names g)).getD false) = some i := by
    refine List.find?_eq_some_iff_append.2 ⟨by simp [live, Cue.names, names], before, after, list, fun j hj => ?_⟩
    cases other : s.cue j with
    | none => simp
    | some x => simpa [Cue.names] using first j hj x other
  unfold State.fireEdge
  rw [found, empty]
  rfl

theorem State.PoolSound.retire {s : State} (sound : s.PoolSound) (c : Channel) (i : SlotIx) (k : Cue) (r : Result) :
    (s.retire c i k r).PoolSound := by
  simpa only [State.PoolSound, State.retire_free, State.retire_chan_delay] using sound

/-- Settles O22: the cue that `State.fireEdge` finds is retired, then its action delivered. -/
theorem fireEdgeResult : Obligations.FireEdgeResult := by
  intro s g c
  refine ⟨fun held => if_pos ?_, State.fireEdge_none, fun before after i k empty list first live names => ?_⟩
  · rwa [← Bool.not_eq_true, PortSet.isEmpty_iff]
  · refine ⟨s.retire c i k .fired, .one s c .fired live, fun sound => sound.retire c i k .fired, ?_⟩
    rw [State.fireEdge_first empty list first live names, State.fireCue_live live]
    exact actionTook_deliver ..

end Sys2Proof.Machine
end

section
/-! PROOFS. CUE_DELETE, CUE_CLEAR, CUE_SKIP_NEXT and CUE_HOLD (R21, R28, R30 to R32, R43, R44). -/

namespace Sys2Proof.Machine

open Sys2Proof

/-! ## Requests that every port may make -/

/-- A request of no supervisor, with room for its reply, is answered by its owner. -/
theorem exec_answered {s u : State} {p : PortId} {tag : Byte} {r : Request} (other : r ≠ .deviceReset)
    (plain : supervised r = false) (room : s.Room p tag) {completion : Completion} {payload : List Byte}
    (owner : requestOwner p r s = (u, { code := completion, payload := payload })) :
    exec (requestCommand p tag r) s = .next (u.replied p tag (requestCode r) completion payload) :=
  exec_replied rfl rfl other room (fun needs => absurd (plain.symm.trans needs) Bool.false_ne_true) owner

/-! ## Handles and owners (R21, R28) -/

section
variable {s : State} {h : HandleBytes}

theorem State.resolve_stale (stale : ¬ (h.generation.toNat ≠ 0
      ∧ (s.slot h.slot.toFin).generation = h.generation.toNat) ∨ s.cue h.slot.toFin = none) :
    s.resolve h = none := by
  unfold State.resolve
  dsimp only
  split
  · rfl
  · rename_i fresh
    obtain ⟨number, same⟩ := not_or.1 fresh
    rcases stale with stale | free
    · exact absurd ⟨number, not_not.1 same⟩ stale
    · rw [free]; rfl

theorem State.resolve_live {k : Cue} (live : h.generation.toNat ≠ 0
      ∧ (s.slot h.slot.toFin).generation = h.generation.toNat) (cue : s.cue h.slot.toFin = some k) :
    s.resolve h = some (h.slot.toFin, k) := by
  obtain ⟨number, same⟩ := live
  unfold State.resolve
  dsimp only
  rw [if_neg (not_or.2 ⟨number, not_not.2 same⟩), cue]
  rfl

theorem State.mayEdit_iff (s : State) (p : PortId) (k : Cue) :
    s.mayEdit p k = true ↔ k.origin = p ∨ (s.port p).supervisor = true := by
  simp [State.mayEdit]

theorem State.mayEdit_not {p : PortId} {k : Cue} (other : k.origin ≠ p) (plain : (s.port p).supervisor = false) :
    s.mayEdit p k = false := by
  simp [State.mayEdit, other, plain]

end

/-- Settles O16: a stale handle and a port that may not edit are refused, and any other cue is retired. -/
theorem cueDeleteResult : Obligations.CueDeleteResult := by
  intro s p tag h room i live
  have run : ∀ {u : State} {completion : Completion}, cueDelete p h s = (u, ⟨completion, []⟩) →
      exec (.cueDelete p tag h) s = .next (u.replied p tag 0x12 completion []) :=
    fun owner => exec_answered (r := .cueDelete h) (by simp) rfl room owner
  refine ⟨fun stale => run ?_, fun k fresh cue => ⟨fun other plain => run ?_, fun may =>
    ⟨s.retire k.channel i k .cancelled, run ?_, .one s k.channel .cancelled cue⟩⟩⟩
  · simp only [cueDelete, State.resolve_stale stale, refuse]
  · simp only [cueDelete, State.resolve_live fresh cue, State.mayEdit_not other plain, if_true, refuse]
  · simp only [cueDelete, State.resolve_live fresh cue, (s.mayEdit_iff p k).2 may]
    rfl

/-! ## CUE_CLEAR (R31) -/

theorem readFlag_none {b : Byte} (h : 2 ≤ b.toNat) : readFlag b = none := by
  unfold readFlag
  split
  · omega
  · omega
  · rfl

section
variable {s : State} (sound : s.CuesSound) (c : Channel)
include sound

theorem State.CuesSound.listed_live {i : SlotIx}
    (h : i ∈ (s.chan c).scheduler.timed ++ (s.chan c).scheduler.contact) : (s.cue i).isSome = true :=
  (List.mem_append.1 h).elim sound.timed_live sound.contact_live

theorem State.CuesSound.listed_nodup :
    ((s.chan c).scheduler.timed ++ (s.chan c).scheduler.contact).Nodup := by
  obtain ⟨nodup, nodup', -⟩ := (s.cuesSound_iff.1 sound).1 c
  exact List.nodup_append'.2 ⟨nodup, nodup', fun i h => sound.timed_not_contact h⟩

/-- The cues a clear removes, in the words of the manual: every listed cue is live (R22, R23). -/
theorem State.clearedCues_eq (p : PortId) (every : Bool) : s.clearedCues c p every
    = ((s.chan c).scheduler.timed ++ (s.chan c).scheduler.contact).filter fun i =>
      every || decide ((s.cue i).map (·.origin) = some p) := by
  refine List.filter_congr fun i hi => ?_
  obtain ⟨k, hk⟩ := Option.isSome_iff_exists.1 (sound.listed_live c hi)
  simp [hk]

/-- A clear retires its cues one after another (R31). -/
theorem clear_retired (rings : s.RingsSound) (p : PortId) (every : Bool) :
    s.Retired ((s.clearedCues c p every).foldl (fun t i => t.cancelCue c i) s) c (s.clearedCues c p every)
      .cancelled :=
  State.Retired.foldl (fun t _ _ live => State.cancelCue_live live c ▸ .one t c .cancelled live)
    ((sound.listed_nodup c).filter _) (fun _ hi => sound.listed_live c (List.mem_filter.1 hi).1)
    (rings c).1 (rings c).2

end

/-- Settles O17: the cues of the scope are retired one after another by `clear_retired`. -/
theorem cueClearResult : Obligations.CueClearResult := by
  intro s p tag ch scope room sound rings
  have run : ∀ {u : State} {completion : Completion} {payload : List Byte},
      cueClear p ch scope s = (u, ⟨completion, payload⟩) →
      exec (.cueClear p tag ch scope) s = .next (u.replied p tag 0x15 completion payload) :=
    fun owner => exec_answered (r := .cueClear ch scope) (by simp) rfl room owner
  refine ⟨fun wrong => run ?_, fun low every plain => run ?_, fun c hc may => ?_⟩
  · rcases wrong with high | unknown
    · simp only [cueClear, readChannel_none high, refuse]
    · unfold cueClear
      rw [readFlag_none unknown]
      cases readChannel ch <;> rfl
  · have known : readChannel ch = some ⟨ch.toNat, low⟩ := readChannel_some rfl
    subst every
    simp only [cueClear, known, readFlag, plain]
    rfl
  · obtain ⟨every, flag, meaning, allowed⟩ : ∃ every, readFlag scope = some every ∧ every = decide (scope = 1)
        ∧ ¬ (every = true ∧ (s.port p).supervisor = false) := by
      rcases may with rfl | ⟨rfl, supervisor⟩
      · exact ⟨false, rfl, rfl, by simp⟩
      · exact ⟨true, rfl, rfl, by simp [supervisor]⟩
    refine ⟨_, s.clearedCues c p every, run ?_, ?_, clear_retired sound c rings p every⟩
    · simp only [cueClear, readChannel_some hc, flag, if_neg allowed]
      rfl
    · rw [State.clearedCues_eq sound, meaning]

/-! ## CUE_SKIP_NEXT (R32) -/

/-- The first entry of least key, in its list. -/
theorem leastBy_some {key : SlotIx → Nat} {l : List SlotIx} (nodup : l.Nodup) {i : SlotIx}
    (h : leastBy key l = some i) : ∃ before after, l = before ++ i :: after
      ∧ (∀ j ∈ before, key i < key j) ∧ ∀ j ∈ after, key i ≤ key j := by
  obtain ⟨rest, sorted⟩ := List.head?_eq_some_iff.1 h
  have perm := sortBy_perm key l
  have order := sortBy_comesBefore key l
  rw [sorted] at perm order
  obtain ⟨before, after, rfl⟩ := List.append_of_mem (perm.mem_iff.1 (by simp) : i ∈ l)
  obtain ⟨-, fresh, apart⟩ := List.nodup_append'.1 nodup
  have first : ∀ j ∈ before ++ after, ComesBefore key (before ++ i :: after) i j := by
    intro j hj
    refine (List.pairwise_cons.1 order).1 j ?_
    have other : j ≠ i := by
      rintro rfl
      rcases List.mem_append.1 hj with hj | hj
      · exact apart hj (by simp)
      · exact (List.nodup_cons.1 fresh).1 hj
    have mem : j ∈ i :: rest := perm.mem_iff.2 (by simp at hj ⊢; tauto)
    exact (List.mem_cons.1 mem).resolve_left other
  refine ⟨before, after, rfl, fun j hj => ?_, fun j hj => ?_⟩
  · refine (first j (List.mem_append_left _ hj)).resolve_right fun ⟨_, place⟩ => ?_
    obtain ⟨front, back, rfl⟩ := List.append_of_mem hj
    rw [List.append_assoc, List.cons_append] at place nodup
    have ahead : i ∈ front := mem_of_sublist_pair nodup place
    exact (List.nodup_append'.1 nodup).2.2 ahead (by simp)
  · exact (first j (List.mem_append_right _ hj)).elim le_of_lt fun same => le_of_eq same.1

theorem distanceAhead_cast {day : Nat} (pos : 0 < day) (r f : Nat) : (distanceAhead day r f : Int)
    = if ((f : Int) - (r : Int)) % (day : Int) = 0 then (day : Int) else ((f : Int) - (r : Int)) % (day : Int) := by
  unfold distanceAhead
  simp only [← distance_cast pos, Int.natCast_eq_zero]
  split <;> rfl

section
variable {s : State} {c : Channel}

theorem State.nextTimed_empty (h : (s.chan c).scheduler.timed = []) : s.nextTimed c = none := by
  simp [State.nextTimed, h, leastBy, sortBy]

theorem State.nextTimed_some (h : (s.chan c).scheduler.timed ≠ []) : ∃ i, s.nextTimed c = some i := by
  unfold State.nextTimed
  dsimp only
  split
  · rename_i i _; exact ⟨i, rfl⟩
  · refine Option.ne_none_iff_exists'.1 fun none => h ?_
    have empty : sortBy _ _ = [] := List.head?_eq_none_iff.1 none
    exact List.nil_perm.1 (empty ▸ (sortBy_perm _ _))

/-- The next timed cue in the words of the manual: the first late-marked one, or the first of least distance ahead
(R32). -/
theorem State.nextTimed_place (nodup : (s.chan c).scheduler.timed.Nodup) {i : SlotIx} (h : s.nextTimed c = some i) :
    ∃ before after, (s.chan c).scheduler.timed = before ++ i :: after
      ∧ ((∃ j ∈ (s.chan c).scheduler.timed, s.lateAt j = true) →
          s.lateAt i = true ∧ ∀ j ∈ before, s.lateAt j = false)
      ∧ ((∀ j ∈ (s.chan c).scheduler.timed, s.lateAt j = false) →
          let key := fun j => distanceAhead (s.day c) ((s.chan c).scheduler.scan.getD (s.chan c).clock.value)
            (s.fireTimeAt j)
          (∀ j ∈ before, key i < key j) ∧ ∀ j ∈ after, key i ≤ key j) := by
  unfold State.nextTimed at h
  dsimp only at h
  split at h
  · rename_i first found
    cases h
    obtain ⟨late, before, after, place, none⟩ := List.find?_eq_some_iff_append.1 found
    refine ⟨before, after, place, fun _ => ⟨late, fun j hj => by simpa using none j hj⟩, fun unmarked => ?_⟩
    have mark := unmarked i (by simp [place])
    rw [late] at mark
    cases mark
  · rename_i unfound
    obtain ⟨before, after, place, least⟩ := leastBy_some nodup h
    refine ⟨before, after, place, fun ⟨j, hj, late⟩ => ?_, fun _ => least⟩
    exact absurd late (List.find?_eq_none.1 unfound j hj)

end

/-- Settles O18: `State.nextTimed` gives the cue that the manual names, which is retired. -/
theorem cueSkipNextResult : Obligations.CueSkipNextResult := by
  intro s p tag ch room sound
  have run : ∀ {u : State} {completion : Completion} {payload : List Byte},
      cueSkipNext ch s = (u, ⟨completion, payload⟩) →
      exec (.cueSkipNext p tag ch) s = .next (u.replied p tag 0x14 completion payload) :=
    fun owner => exec_answered (r := .cueSkipNext ch) (by simp) rfl room owner
  refine ⟨fun high => run ?_, fun c hc => ⟨fun empty => run ?_, fun full => ?_⟩⟩
  · simp only [cueSkipNext, readChannel_none high, refuse]
  · simp only [cueSkipNext, readChannel_some hc, State.nextTimed_empty empty, refuse]
  · obtain ⟨i, next⟩ := State.nextTimed_some full
    obtain ⟨nodup, -⟩ := (s.cuesSound_iff.1 sound).1 c
    obtain ⟨before, after, place, late, least⟩ := State.nextTimed_place nodup next
    obtain ⟨k, live⟩ := Option.isSome_iff_exists.1 (sound.timed_live (State.nextTimed_mem next))
    refine ⟨s.retire c i k .skipped, before, after, i, run ?_, .one s c .skipped live, place, late, fun unmarked => ?_⟩
    · simp only [cueSkipNext, readChannel_some hc, next, live]
      rfl
    · obtain ⟨ahead, behind⟩ := least unmarked
      refine ⟨fun j hj => ?_, fun j hj => ?_⟩
      · have less := Int.ofNat_lt.2 (ahead j hj)
        rwa [distanceAhead_cast (s.day_pos c), distanceAhead_cast (s.day_pos c)] at less
      · have le := Int.ofNat_le.2 (behind j hj)
        rwa [distanceAhead_cast (s.day_pos c), distanceAhead_cast (s.day_pos c)] at le

end Sys2Proof.Machine
end

section
/-! PROOFS. CUE_HOLD: the hold set of each channel of the mask, and the resume flag (R43, R44). -/

namespace Sys2Proof.Machine

open Sys2Proof

/-! ## The mask (R43, R197) -/

theorem readMask_none {b : Byte} (h : 16 ≤ b.toNat) : readMask b = none := if_neg (by omega)

/-- A channel mask read: its channels are the bits of the byte, and it is empty only as 0. -/
theorem readMask_some {b : Byte} (h : b.toNat < 16) : ∃ m, readMask b = some m
    ∧ (∀ c : Channel, m.pick c = b.getLsbD c) ∧ (maskEmpty m = true ↔ b = 0) := by
  have bits : ∀ c : Channel, Bank.pick #v[b.getLsbD 0, b.getLsbD 1, b.getLsbD 2, b.getLsbD 3] c
      = b.getLsbD c := by
    intro c
    fin_cases c <;> rfl
  refine ⟨_, if_pos h, bits, ?_⟩
  simp only [maskEmpty, Channel.all, List.all_cons, List.all_nil, bits, Bool.and_true, Bool.and_eq_true,
    Bool.not_eq_true']
  constructor
  · rintro ⟨b0, b1, b2, b3⟩
    refine BitVec.eq_of_getLsbD_eq fun i hi => ?_
    rw [show BitVec.getLsbD (0 : Byte) i = false from BitVec.getLsbD_zero]
    by_cases low : i < 4
    · interval_cases i
      exacts [b0, b1, b2, b3]
    · exact Nat.testBit_lt_two_pow (Nat.lt_of_lt_of_le h (Nat.pow_le_pow_right Nat.two_pos
        (Nat.not_lt.1 low)))
  · rintro rfl
    decide

/-! ## The hold set and the resume flag (R44) -/

theorem PortSet.isEmpty_eq (h : PortSet) : h.isEmpty = decide (h = PortSet.empty) := by
  rw [Bool.eq_iff_iff, PortSet.isEmpty_iff, decide_eq_true_iff]

/-- A hold set put in place, in the words of the manual and of the model's reading (notes/assumptions/31.md). -/
theorem Scheduler.setHold_record (k : Scheduler) (h : PortSet) : k.setHold h = { k with
    hold := h
    resume := if k.hold = PortSet.empty ∧ h ≠ PortSet.empty then true
      else if k.hold ≠ PortSet.empty ∧ h = PortSet.empty then k.resume && k.reported
      else k.resume
    reported := if k.hold = PortSet.empty ∧ h ≠ PortSet.empty then k.resume && k.reported
      else k.reported } := by
  unfold Scheduler.setHold
  rw [PortSet.isEmpty_eq, PortSet.isEmpty_eq]
  by_cases before : k.hold = PortSet.empty <;> by_cases after : h = PortSet.empty <;> simp [before, after]

theorem Scheduler.setHold_hold (k : Scheduler) (h : PortSet) : (k.setHold h).hold = h := by
  rw [Scheduler.setHold_record]

section
variable {k : Scheduler} {h : PortSet} (empty : k.hold = PortSet.empty) (held : h ≠ PortSet.empty)
include empty held

/-- A hold that begins with the resume flag clear. -/
theorem Scheduler.setHold_begin (resume : k.resume = false) :
    k.setHold h = { k with hold := h, resume := true, reported := false } := by
  rw [Scheduler.setHold_record, if_pos ⟨empty, held⟩, if_pos ⟨empty, held⟩, resume, Bool.false_and]

/-- A hold that ends with the resume flag set keeps the flag if the clock has reported. -/
theorem Scheduler.setHold_end {reported : Bool} :
    ({ k with hold := h, resume := true, reported := reported } : Scheduler).setHold PortSet.empty
      = { k with resume := reported, reported := reported } := by
  rw [Scheduler.setHold_record]
  simp [held, empty]

/-- A hold begun and released: without a report of the clock between, and with one (R44). -/
theorem hold_released (resume : k.resume = false) :
    (k.setHold h).setHold PortSet.empty = { k with reported := false }
      ∧ (k.setHold h).noteReport.setHold PortSet.empty = { k with resume := true, reported := true } := by
  have noted : ({ k with hold := h, resume := true, reported := false } : Scheduler).noteReport
      = { k with hold := h, resume := true, reported := true } := by
    rw [Scheduler.noteReport, PortSet.isEmpty_eq]
    simp [held]
  rw [Scheduler.setHold_begin empty held resume]
  refine ⟨?_, ?_⟩
  · rw [Scheduler.setHold_end empty held, ← resume]
  · rw [noted, Scheduler.setHold_end empty held]

end

theorem holdAfter_hold (h : PortSet) (p q : PortId) : (holdAfter h p 0).pick q = if q = p then true else h.pick q :=
  Trio.pick_put ..

theorem holdAfter_release (h : PortSet) (p q : PortId) :
    (holdAfter h p 1).pick q = if q = p then false else h.pick q :=
  Trio.pick_put ..

/-! ## One thing done to the channels of a mask -/

section
variable (s : State) (m : Bank 4 Bool) (f : Scheduler → Scheduler)

/-- The schedulers of the channels of a mask changed. -/
def State.modMasked : State := s.eachChannel fun c t => if m.pick c then t.modScheduler c f else t

theorem State.modMasked_frame : s.modMasked m f = { s with channels := (s.modMasked m f).channels } := by
  refine List.foldlRecOn (motive := fun t : State => t = { s with channels := t.channels }) _ _ rfl
    fun t ht c _ => ?_
  dsimp only
  split
  · rw [State.modScheduler, State.modChan, State.setChan, ht]
  · exact ht

theorem State.modMasked_chan (c : Channel) : (s.modMasked m f).chan c
    = if m.pick c then (s.chan c).setScheduler (f (s.chan c).scheduler) else s.chan c := by
  obtain ⟨t, -, same, result⟩ := eachChannel_chan
    (f := fun c (t : State) => if m.pick c then t.modScheduler c f else t) (R := fun _ _ => True) (fun _ => trivial)
    (fun _ _ _ _ _ => trivial) (fun _ _ => trivial)
    (fun c t d hd => by split; exacts [State.modScheduler_chan_ne t c f hd, rfl]) s c
  refine result.trans ?_
  rw [← same]
  split
  · rw [State.modScheduler, State.modChan_chan_same]
  · rfl

end

/-- Settles O19: each channel of the mask takes the hold set of `holdAfter` by `Scheduler.setHold_record`. -/
theorem cueHoldResult : Obligations.CueHoldResult := by
  intro s p tag mask action room
  have run : ∀ {u : State} {completion : Completion}, cueHold p mask action s = (u, ⟨completion, []⟩) →
      exec (.cueHold p tag mask action) s = .next (u.replied p tag 0x16 completion []) :=
    fun owner => exec_answered (r := .cueHold mask action) (by simp) rfl room owner
  refine ⟨fun wrong => run ?_, fun some low all plain => run ?_, fun some low known => ?_,
    fun k h empty resume held => hold_released empty held resume⟩
  · by_cases high : 16 ≤ mask.toNat
    · simp only [cueHold, readMask_none high, refuse]
    · obtain ⟨m, read, -, none⟩ := readMask_some (Nat.not_le.1 high)
      have refused : maskEmpty m = true ∨ 2 < action.toNat := by
        rcases wrong with empty | wide | unknown
        · exact .inl (none.2 empty)
        · exact absurd wide high
        · exact .inr unknown
      simp only [cueHold, read, if_pos refused, refuse]
  · obtain ⟨m, read, -, none⟩ := readMask_some low
    have present : ¬ (maskEmpty m = true ∨ 2 < action.toNat) := by
      rw [none, all]
      rintro (rfl | h)
      · exact absurd some (by decide)
      · exact absurd h (by decide)
    simp only [cueHold, read, if_neg present]
    exact if_pos ⟨by rw [all]; rfl, plain⟩
  · obtain ⟨m, read, bits, none⟩ := readMask_some low
    have present : ¬ (maskEmpty m = true ∨ 2 < action.toNat) := by
      rw [none]
      rintro (rfl | h)
      · exact absurd some (by decide)
      · rcases known with rfl | rfl | ⟨rfl, -⟩ <;> exact absurd h (by decide)
    have allowed : ¬ (action.toNat = 2 ∧ (s.port p).supervisor = false) := by
      rintro ⟨all, plain⟩
      rcases known with rfl | rfl | ⟨rfl, supervisor⟩
      · exact absurd all (by decide)
      · exact absurd all (by decide)
      · rw [supervisor] at plain; cases plain
    refine ⟨s.modMasked m fun k => k.setHold (holdAfter k.hold p action.toNat), run ?_, s.modMasked_frame m _,
      fun c => ⟨fun out => ?_, fun within => ?_⟩⟩
    · simp only [cueHold, read, if_neg present, if_neg allowed]
      rfl
    · rw [State.modMasked_chan, bits, out]; rfl
    · have chan := s.modMasked_chan m (fun k => k.setHold (holdAfter k.hold p action.toNat)) c
      rw [bits, within, if_pos rfl] at chan
      rw [chan]
      intro k h
      have hold : h = holdAfter k.hold p action.toNat := Scheduler.setHold_hold ..
      refine ⟨?_, ?_, ?_, ?_, ?_⟩
      · rw [hold]; exact congrArg _ (Scheduler.setHold_record ..)
      · rintro rfl; rw [hold]; exact (holdAfter_hold ..).trans (if_pos rfl)
      · rintro rfl; rw [hold]; exact (holdAfter_release ..).trans (if_pos rfl)
      · intro single q hq
        rcases known with rfl | rfl | ⟨all, -⟩
        · rw [hold]; exact (holdAfter_hold ..).trans (if_neg hq)
        · rw [hold]; exact (holdAfter_release ..).trans (if_neg hq)
        · exact absurd all single
      · rintro rfl; rw [hold]; rfl

end Sys2Proof.Machine
end

section
/-! PROOFS. The cue fields of a request: what is refused, and the record that the others make (R25, R197). -/

namespace Sys2Proof.Machine

open Sys2Proof

/-! ## The fields read one by one (R197) -/

theorem readFlag_eq_some {b : Byte} {x : Bool} : readFlag b = some x ↔ b = flagByte x := by
  unfold readFlag flagByte
  split
  · rename_i zero
    have : b = 0 := BitVec.eq_of_toNat_eq zero
    subst this
    cases x <;> simp
  · rename_i one
    have : b = 1 := BitVec.eq_of_toNat_eq one
    subst this
    cases x <;> simp
  · rename_i zero one
    constructor
    · intro h; cases h
    · rintro rfl
      cases x
      · exact absurd rfl zero
      · exact absurd rfl one

theorem flagByte_zero {x : Bool} : flagByte x = 0 ↔ x = false := by cases x <;> decide

theorem flagByte_one {x : Bool} : flagByte x = 1 ↔ x = true := by cases x <;> decide

theorem readAction_eq_some {b : Byte} {a : Action} : readAction b = some a ↔ b = actionByte a := by
  constructor
  · intro h
    unfold readAction at h
    apply BitVec.eq_of_toNat_eq
    split at h <;> cases h <;> assumption
  · rintro rfl
    cases a <;> rfl

theorem readFlag_defined {b : Byte} (h : b.toNat < 2) : ∃ x, b = flagByte x := by
  have cases_ : b.toNat = 0 ∨ b.toNat = 1 := by omega
  rcases cases_ with h | h
  · exact ⟨false, BitVec.eq_of_toNat_eq h⟩
  · exact ⟨true, BitVec.eq_of_toNat_eq h⟩

theorem readAction_defined {b : Byte} (h : b.toNat < 4) : ∃ a, b = actionByte a := by
  have cases_ : b.toNat = 0 ∨ b.toNat = 1 ∨ b.toNat = 2 ∨ b.toNat = 3 := by omega
  rcases cases_ with h | h | h | h
  · exact ⟨.windowIn, BitVec.eq_of_toNat_eq h⟩
  · exact ⟨.windowOut, BitVec.eq_of_toNat_eq h⟩
  · exact ⟨.layout, BitVec.eq_of_toNat_eq h⟩
  · exact ⟨.lag, BitVec.eq_of_toNat_eq h⟩

theorem readChannel_eq_some {b : Byte} {c : Channel} : readChannel b = some c ↔ b.toNat = c.val := by
  refine ⟨fun h => ?_, readChannel_some⟩
  unfold readChannel at h
  split at h <;> cases h
  rfl

theorem readGpi_eq_some {b : Byte} {g : GpiIx} : readGpi b = some g ↔ g.val = b.toNat := by
  unfold readGpi
  split
  · simp [Fin.ext_iff, eq_comm]
  · rename_i high
    simp only [reduceCtorEq, false_iff]
    omega

theorem readPreset_eq_some {b : Byte} {i : PresetIx} : readPreset b = some i ↔ i.val = b.toNat := readGpi_eq_some

/-! ## The record the fields make (R25) -/

/-- The trigger of a cue as its fields give it. -/
def State.triggerRead (s : State) (c : Channel) (contact : Bool) (l : LabelBytes) : Option Trigger :=
  if contact then (readGpi l.hh).map .contact else (s.readLabel c l).map .time

/-- The preset of a cue as its fields give it: LAYOUT needs one, WINDOW_OUT and LAG take none. -/
def presetRead? (present : Bool) (action : Action) (b : Byte) : Option (Option PresetIx) :=
  if present then
    if action = .windowOut ∨ action = .lag then none else (readPreset b).map some
  else if action = .layout then none else some none

/-- The record that the fields of a request make, its values clamped. -/
def cueOfFields (f : CueFields) (p : PortId) (c : Channel) (t : Trigger) (action : Action)
    (q : Option PresetIx) : Cue :=
  { channel := c, origin := p, trigger := t, action := action
    duration := if action = .lag then 0 else min 250 f.duration.toNat, preset := q
    lag := if action = .lag then min 50 f.lag.toNat else 0, late := false }

/-- The fields of a request, read: their channel, kind, action and preset flag, with trigger and preset. -/
structure State.FieldsRead (s : State) (f : CueFields) (c : Channel) (contact : Bool) (a : Action)
    (present : Bool) (t : Trigger) (q : Option PresetIx) : Prop where
  channel : f.channel.toNat = c.val
  kind : f.kind = flagByte contact
  action : f.action = actionByte a
  flag : f.presetFlag = flagByte present
  trigger : s.triggerRead c contact f.trigger = some t
  preset : presetRead? present a f.preset = some q

theorem actionByte_windowOut {a : Action} : actionByte a = 1 ↔ a = .windowOut := by cases a <;> decide

theorem actionByte_layout {a : Action} : actionByte a = 2 ↔ a = .layout := by cases a <;> decide

theorem actionByte_lag {a : Action} : actionByte a = 3 ↔ a = .lag := by cases a <;> decide

theorem cueFieldsClamped_eq {f : CueFields} {action : Action} (h : f.action = actionByte action) :
    cueFieldsClamped f = if action = .lag then decide (50 < f.lag.toNat) else decide (250 < f.duration.toNat) := by
  unfold cueFieldsClamped
  rw [h]
  exact if_congr actionByte_lag rfl rfl

section
variable {s : State} {p : PortId} {f : CueFields}

theorem State.FieldsRead.readCue {c : Channel} {contact present : Bool} {action : Action} {t : Trigger}
    {q : Option PresetIx} (h : s.FieldsRead f c contact action present t q) :
    s.readCue p f = some (cueOfFields f p c t action q, cueFieldsClamped f) := by
  have trigger := h.trigger
  have preset := h.preset
  unfold State.triggerRead at trigger
  unfold State.readCue
  simp only [readChannel_eq_some.2 h.channel, readFlag_eq_some.2 h.kind, readAction_eq_some.2 h.action,
    readFlag_eq_some.2 h.flag, trigger, cueFieldsClamped_eq h.action]
  cases present with
  | false =>
    cases action
    case layout => cases preset
    all_goals cases preset; rfl
  | true =>
    cases action
    case windowOut | lag => cases preset
    all_goals
      obtain ⟨i, read, rfl⟩ := Option.map_eq_some_iff.1 preset
      simp only [read]
      rfl

theorem State.readCue_fields {k : Cue} {clamped : Bool} (h : s.readCue p f = some (k, clamped)) :
    ∃ c contact action present t q, s.FieldsRead f c contact action present t q := by
  unfold State.readCue at h
  split at h
  case h_2 => cases h
  case h_1 c contact action present channel kind act flag =>
    dsimp only at h
    split at h
    case h_2 => cases h
    case h_1 t q trigger preset =>
      refine ⟨c, contact, action, present, t, q, readChannel_eq_some.1 channel, readFlag_eq_some.1 kind,
        readAction_eq_some.1 act, readFlag_eq_some.1 flag, trigger, ?_⟩
      rw [← preset]
      cases present <;> cases action <;> rfl

/-- The request is refused BAD_PARAM for the values the manual names, and for no others (R25, R197). -/
theorem State.cueRefused_iff : s.CueRefused f
    ↔ ¬ ∃ c contact action present t q, s.FieldsRead f c contact action present t q := by
  constructor
  · rintro refused ⟨c, contact, a, present, t, q, channel, kind, action, flag, trigger, preset⟩
    have low := c.isLt
    rcases refused with h | h | h | h | ⟨d, hd, timed, label⟩ | ⟨fires, high⟩ | ⟨layout, absent⟩ | ⟨plain, given⟩
      | ⟨given, high⟩
    · omega
    · rw [kind] at h; cases contact <;> exact absurd h (by decide)
    · rw [action] at h; cases a <;> exact absurd h (by decide)
    · rw [flag] at h; cases present <;> exact absurd h (by decide)
    · have same : d = c := Fin.ext (hd.trans channel)
      subst same
      have timed' : contact = false := flagByte_zero.1 (kind.symm.trans timed)
      simp [State.triggerRead, timed', State.readLabel_of_not_valid label] at trigger
    · have fires' : contact = true := flagByte_one.1 (kind.symm.trans fires)
      obtain ⟨g, hg, -⟩ := Option.map_eq_some_iff.1 ((if_pos fires').symm.trans trigger)
      have := readGpi_eq_some.1 hg
      have := g.isLt
      omega
    · have needs : a = .layout := actionByte_layout.1 (action.symm.trans layout)
      have none : present = false := flagByte_zero.1 (flag.symm.trans absent)
      subst needs none
      cases preset
    · have takes : a = .windowOut ∨ a = .lag := plain.imp (fun h => actionByte_windowOut.1 (action.symm.trans h))
        fun h => actionByte_lag.1 (action.symm.trans h)
      have some : present = true := flagByte_one.1 (flag.symm.trans given)
      rw [presetRead?, if_pos some, if_pos takes] at preset
      cases preset
    · have given' : present = true := flagByte_one.1 (flag.symm.trans given)
      have none : readPreset f.preset = none := by
        refine Option.eq_none_iff_forall_ne_some.2 fun i hi => ?_
        have := readPreset_eq_some.1 hi
        have := i.isLt
        omega
      simp [presetRead?, given', none] at preset
  · intro unread
    by_contra fine
    simp only [not_or, not_le] at fine
    obtain ⟨channel, kind, action, flag, label, gpi, layout, plain, index⟩ := fine
    obtain ⟨contact, kind⟩ := readFlag_defined kind
    obtain ⟨a, action⟩ := readAction_defined action
    obtain ⟨present, flag⟩ := readFlag_defined flag
    obtain ⟨t, trigger⟩ : ∃ t, s.triggerRead ⟨f.channel.toNat, channel⟩ contact f.trigger = some t := by
      cases contact with
      | false =>
        have valid := Bool.eq_true_of_not_eq_false fun h => label ⟨⟨f.channel.toNat, channel⟩, rfl, kind, h⟩
        exact ⟨_, by rw [State.triggerRead, if_neg (by simp), State.readLabel_of_valid valid]; rfl⟩
      | true =>
        have low : f.trigger.hh.toNat < 8 := Nat.not_le.1 fun high => gpi ⟨kind, high⟩
        have read : readGpi f.trigger.hh = some ⟨f.trigger.hh.toNat, low⟩ := readGpi_eq_some.2 rfl
        exact ⟨_, by rw [State.triggerRead, if_pos rfl, read]; rfl⟩
    obtain ⟨q, preset⟩ : ∃ q, presetRead? present a f.preset = some q := by
      cases present with
      | false =>
        refine ⟨none, ?_⟩
        rw [presetRead?, if_neg (by simp), if_neg]
        rintro rfl
        exact layout ⟨action, flag⟩
      | true =>
        have low : f.preset.toNat < 8 := Nat.not_le.1 fun high => index ⟨flag, high⟩
        have read : readPreset f.preset = some ⟨f.preset.toNat, low⟩ := readPreset_eq_some.2 rfl
        refine ⟨some ⟨f.preset.toNat, low⟩, ?_⟩
        rw [presetRead?, if_pos rfl, if_neg, read]
        · rfl
        rintro (rfl | rfl)
        · exact plain ⟨.inl action, flag⟩
        · exact plain ⟨.inr action, flag⟩
    exact unread ⟨_, contact, a, present, t, q, rfl, kind, action, flag, trigger, preset⟩

theorem State.readCue_refused (h : s.CueRefused f) : s.readCue p f = none :=
  Option.eq_none_iff_forall_ne_some.2 fun _ read => State.cueRefused_iff.1 h (State.readCue_fields read)

/-- A record read has what its fields say, whatever its origin and late mark become (R25). -/
theorem State.FieldsRead.cueRead {c : Channel} {contact present : Bool} {a : Action} {t : Trigger}
    {q : Option PresetIx} (h : s.FieldsRead f c contact a present t q) (o : PortId) (late : Bool) :
    s.CueRead f { cueOfFields f p c t a q with origin := o, late := late } := by
  obtain ⟨channel, kind, action, flag, trigger, preset⟩ := h
  refine ⟨channel.symm, fun timed => ?_, fun fires => ?_, action.symm, ?_, ?_, fun absent => ?_, fun given => ?_⟩
  · have plain : contact = false := flagByte_zero.1 (kind.symm.trans timed)
    rw [State.triggerRead, plain, if_neg (by simp)] at trigger
    obtain ⟨n, read, rfl⟩ := Option.map_eq_some_iff.1 trigger
    unfold State.readLabel at read
    split at read <;> cases read
    rfl
  · have on : contact = true := flagByte_one.1 (kind.symm.trans fires)
    rw [State.triggerRead, if_pos on] at trigger
    obtain ⟨g, read, rfl⟩ := Option.map_eq_some_iff.1 trigger
    exact ⟨g, readGpi_eq_some.1 read, rfl⟩
  · exact if_congr (by rw [action, actionByte_lag]) rfl rfl
  · exact if_congr (by rw [action, actionByte_lag]) rfl rfl
  · have off : present = false := flagByte_zero.1 (flag.symm.trans absent)
    rw [presetRead?, off, if_neg (by simp)] at preset
    split at preset <;> cases preset
    rfl
  · have on : present = true := flagByte_one.1 (flag.symm.trans given)
    rw [presetRead?, if_pos on] at preset
    split at preset
    · cases preset
    · obtain ⟨i, read, rfl⟩ := Option.map_eq_some_iff.1 preset
      exact ⟨i, readPreset_eq_some.1 read, rfl⟩

/-- The record of a request that is not refused. -/
theorem State.readCue_taken (p : PortId) (h : ¬ s.CueRefused f) :
    ∃ k, s.readCue p f = some (k, cueFieldsClamped f) ∧ k.origin = p ∧ k.channel.val = f.channel.toNat
      ∧ f.kind = flagByte (!k.isTime) ∧ ∀ o late, s.CueRead f { k with origin := o, late := late } := by
  obtain ⟨c, contact, a, present, t, q, fields⟩ := not_not.1 (mt State.cueRefused_iff.2 h)
  refine ⟨cueOfFields f p c t a q, fields.readCue, rfl, fields.channel.symm, ?_, fields.cueRead⟩
  obtain ⟨-, kind, -, -, trigger, -⟩ := fields
  rw [kind]
  cases contact with
  | false =>
    obtain ⟨n, -, rfl⟩ := Option.map_eq_some_iff.1 trigger
    rfl
  | true =>
    obtain ⟨g, -, rfl⟩ := Option.map_eq_some_iff.1 trigger
    rfl

end

end Sys2Proof.Machine
end

section
/-! PROOFS. CUE_ADD and CUE_MODIFY: a record placed or replaced, its place on its list and its late mark (R20 to R22,
R25 to R29). -/

namespace Sys2Proof.Machine

open Sys2Proof

/-! ## A place on a timed list (R22) -/

/-- What an ordered list keeps after its entries up to a key are dropped lies above the key. -/
theorem lt_of_mem_dropWhile {key : SlotIx → Nat} {n : Nat} {l : List SlotIx}
    (order : l.Pairwise fun a b => key a ≤ key b) : ∀ j ∈ l.dropWhile fun j => key j ≤ n, n < key j := by
  induction l with
  | nil => simp
  | cons a l ih =>
    obtain ⟨least, rest⟩ := List.pairwise_cons.1 order
    by_cases low : key a ≤ n
    · rw [List.dropWhile_cons_of_pos (by simpa using low)]
      exact ih rest
    · rw [List.dropWhile_cons_of_neg (by simpa using low)]
      intro j hj
      obtain rfl | later := List.mem_cons.1 hj
      · omega
      · have := least j later
        omega

/-- A slot put into an ordered list stands after the last entry not above its fire time. -/
theorem insertTimed_inserted {s : State} {time : SlotIx → Nat} {i : SlotIx} {l : List SlotIx}
    (same : ∀ j ∈ l, time j = s.fireTimeAt j) (order : l.Pairwise fun a b => s.fireTimeAt a ≤ s.fireTimeAt b) :
    s.Inserted l (insertTimed time i l) i (time i) := by
  refine ⟨l.takeWhile fun j => time j ≤ time i, l.dropWhile fun j => time j ≤ time i,
    List.takeWhile_append_dropWhile.symm, rfl, fun j hj => ?_, fun j hj => ?_⟩
  · have le := List.mem_takeWhile_imp (p := fun j => decide (time j ≤ time i)) hj
    rw [← same j (List.takeWhile_subset _ hj)]
    exact of_decide_eq_true le
  · have old : ∀ a ∈ l, ∀ b ∈ l, s.fireTimeAt a ≤ s.fireTimeAt b → time a ≤ time b := fun a ha b hb le => by
      rwa [same a ha, same b hb]
    rw [← same j (List.dropWhile_subset _ hj)]
    exact lt_of_mem_dropWhile (order.imp_of_mem fun ha hb => old _ ha _ hb) j hj

/-- The late-insert test in the words of the manual (R27). -/
theorem State.lateInsert_mark (s : State) (c : Channel) (n : Nat) : s.LateMark c n (s.lateInsert c n) := by
  unfold State.LateMark State.lateInsert
  cases scan : (s.chan c).scheduler.scan with
  | none => simp
  | some v =>
    rw [decide_eq_true_iff, ← Nat.cast_le (α := Int), distance_cast (s.day_pos c)]
    simp

/-! ## A cue put on its list -/

section
variable (s : State) (i : SlotIx) (k : Cue)

theorem State.enlist_record : s.enlist i k = { s with channels := (s.enlist i k).channels } := by
  unfold State.enlist
  split <;> rfl

theorem State.enlist_chan_other {d : Channel} (h : d ≠ k.channel) : (s.enlist i k).chan d = s.chan d := by
  unfold State.enlist
  split <;> exact State.modScheduler_chan_ne _ _ _ h

theorem State.enlist_own : (s.enlist i k).chan k.channel = (s.chan k.channel).setScheduler
    { (s.chan k.channel).scheduler with
      timed := ((s.enlist i k).chan k.channel).scheduler.timed
      contact := ((s.enlist i k).chan k.channel).scheduler.contact } := by
  unfold State.enlist
  split <;>
  · rw [State.modScheduler, State.modChan_chan_same]
    rfl

end

/-! ## CUE_ADD (R20, R25 to R27) -/

theorem nextGeneration_eq {g : Nat} (h : g ≤ 255) : nextGeneration g = if g = 255 then 1 else g + 1 :=
  if_congr (by omega) rfl rfl

theorem State.freeSlot_full {s : State} (full : ∀ i, (s.cue i).isSome = true) : s.freeSlot = none :=
  List.find?_eq_none.2 fun i _ => by simp [Option.isSome_iff_ne_none.1 (full i)]

theorem State.freeSlot_lowest {s : State} {i : SlotIx} (free : s.cue i = none)
    (lowest : ∀ j, j < i → (s.cue j).isSome = true) : s.freeSlot = some i := by
  refine List.find?_eq_some_iff_getElem.2 ⟨by simp [free], i, by simp [slotIndices], by simp [slotIndices],
    fun j hj => ?_⟩
  have before := lowest ⟨j, by omega⟩ hj
  simpa [slotIndices, Option.isSome_iff_ne_none] using before

theorem judged_record (s : State) (k : Cue) : ∃ late, s.judged k = { k with late := late } := by
  unfold State.judged
  split <;> exact ⟨_, rfl⟩

theorem judged_time {s : State} {k : Cue} {n : Nat} (h : k.trigger = .time n) :
    (s.judged k).late = s.lateInsert k.channel n := by
  simp only [State.judged, h]

theorem judged_contact {s : State} {k : Cue} {g : GpiIx} (h : k.trigger = .contact g) :
    (s.judged k).late = false := by
  simp only [State.judged, h]

section
variable {s : State} (sound : s.CuesSound) {i : SlotIx} (k : Cue)
include sound

/-- A cue placed in a free slot (R20, R22, R23, R26). -/
theorem placeCue_result (free : s.cue i = none) :
    let u := s.placeCue i k
    u = { s with cues := u.cues, channels := u.channels }
      ∧ u.slot i = {
          generation := if (s.slot i).generation = 255 then 1 else (s.slot i).generation + 1, cue := some k }
      ∧ (∀ j, j ≠ i → u.slot j = s.slot j) ∧ (∀ d, d ≠ k.channel → u.chan d = s.chan d)
      ∧ u.chan k.channel = (s.chan k.channel).setScheduler { (s.chan k.channel).scheduler with
          timed := (u.chan k.channel).scheduler.timed
          contact := (u.chan k.channel).scheduler.contact }
      ∧ (∀ n, k.trigger = .time n →
          s.Inserted (s.chan k.channel).scheduler.timed (u.chan k.channel).scheduler.timed i n
          ∧ (u.chan k.channel).scheduler.contact = (s.chan k.channel).scheduler.contact)
      ∧ (∀ x, k.trigger = .contact x →
          (u.chan k.channel).scheduler.contact = (s.chan k.channel).scheduler.contact ++ [i]
          ∧ (u.chan k.channel).scheduler.timed = (s.chan k.channel).scheduler.timed) := by
  intro u
  obtain ⟨lists, generations⟩ := s.cuesSound_iff.1 sound
  obtain ⟨t, ht⟩ : ∃ t, t = s.setSlot i {
    generation := nextGeneration (s.slot i).generation, cue := some k } := ⟨_, rfl⟩
  have hu : u = t.enlist i k := by rw [ht]; rfl
  have slot : ∀ j, u.slot j = if j = i
      then { generation := nextGeneration (s.slot i).generation, cue := some k } else s.slot j := fun j => by
    rw [hu, State.slot_of_cues (State.enlist_cues ..), ht, State.setSlot_slot]
  have chan : ∀ d, t.chan d = s.chan d := fun d => by rw [ht]; rfl
  refine ⟨?_, ?_, fun j hj => ?_, fun d hd => ?_, ?_, fun n time => ?_, fun x contact => ?_⟩
  · have enlisted := t.enlist_record i k
    rw [← hu] at enlisted
    rw [enlisted, ht]
    rfl
  · rw [slot, if_pos rfl, nextGeneration_eq (generations i).1]
  · rw [slot, if_neg hj]
  · rw [hu, State.enlist_chan_other _ _ _ hd, chan]
  · have own := t.enlist_own i k
    rw [← hu, chan] at own
    exact own
  · obtain ⟨timed, contact⟩ := t.enlist_timed (Cue.isTime_time time) (i := i) k.channel
    rw [← hu, chan] at timed contact
    rw [timed, contact, if_pos rfl]
    obtain ⟨-, -, order, mem, -⟩ := lists k.channel
    have cue : ∀ j, t.cue j = if j = i then some k else s.cue j := fun j => by rw [ht, State.setSlot_cue]
    have own : t.fireTimeAt i = n := by simp [State.fireTimeAt, cue, Cue.fireTime, time]
    refine ⟨own ▸ insertTimed_inserted (fun j hj => ?_) order, rfl⟩
    have other : j ≠ i := by
      rintro rfl
      obtain ⟨_, hk, -⟩ := (mem j).1 hj
      rw [free] at hk
      cases hk
    rw [State.fireTimeAt, cue, if_neg other]
    rfl
  · obtain ⟨timed, list⟩ := t.enlist_contact (Cue.isTime_contact contact) (i := i) k.channel
    rw [← hu, chan] at timed list
    rw [list, if_pos rfl]
    exact ⟨rfl, timed⟩

end

theorem taken_eq (clamped : Bool) (payload : List Byte) :
    taken clamped payload = { code := clampedCode clamped, payload := payload } := rfl

/-- Settles O14: a request is refused by `State.cueRefused_iff`, or its record is placed in the lowest free slot. -/
theorem cueAddResult : Obligations.CueAddResult := by
  intro s p tag f room sound
  have run : ∀ {u : State} {completion : Completion} {payload : List Byte},
      cueAdd p f s = (u, ⟨completion, payload⟩) →
      exec (.cueAdd p tag f) s = .next (u.replied p tag 0x10 completion payload) :=
    fun owner => exec_answered (r := .cueAdd f) (by simp) rfl room owner
  refine ⟨fun refused => run ?_, fun fine full => run ?_, fun fine i free lowest => ?_⟩
  · simp only [cueAdd, State.readCue_refused refused, refuse]
  · obtain ⟨k, read, -⟩ := State.readCue_taken p fine
    simp only [cueAdd, read, State.freeSlot_full full, refuse]
  · obtain ⟨k, read, origin, -, -, fields⟩ := State.readCue_taken p fine
    obtain ⟨late, record⟩ := judged_record s k
    obtain ⟨frame, own, others, elsewhere, chan, timed, contact⟩ := placeCue_result sound (s.judged k) free
    refine ⟨s.placeCue i (s.judged k), s.judged k, _, run ?_, ?_, ?_, rfl, frame, own, others, elsewhere, chan,
      fun n time => ⟨?_, timed n time⟩, fun x fires => ⟨?_, contact x fires⟩⟩
    · simp only [cueAdd, read, State.freeSlot_lowest free lowest, taken_eq, storedBytes, handleBytes, State.handle,
        own]
      rfl
    · rw [record]; exact fields _ _
    · rw [record]; exact origin
    · rw [judged_trigger] at time
      rw [judged_time time, judged_channel]
      exact s.lateInsert_mark k.channel n
    · rw [judged_trigger] at fires
      exact judged_contact fires

/-! ## CUE_MODIFY (R21, R28, R29) -/

theorem sameKind_iff {old new : Cue} : old.trigger.sameKind new.trigger = true ↔ new.isTime = old.isTime := by
  unfold Cue.isTime
  cases old.trigger <;> cases new.trigger <;> simp [Trigger.sameKind]

theorem modified_record (s : State) (old new : Cue) :
    ∃ late, s.modified old new = { new with origin := old.origin, late := late } := by
  unfold State.modified
  dsimp only
  split
  · exact ⟨_, rfl⟩
  · exact judged_record s { new with origin := old.origin }

section
variable {s : State} {old new : Cue}

theorem modified_late_kept (same : old.trigger = new.trigger) : (s.modified old new).late = old.late := by
  simp only [State.modified, if_pos same]

theorem modified_late_judged (other : old.trigger ≠ new.trigger) :
    s.modified old new = s.judged { new with origin := old.origin } := by
  simp only [State.modified, if_neg other]

variable {i : SlotIx}

/-- A cue whose trigger stays, or that is a CONTACT cue, stays where it stands (R29). -/
theorem State.replaceCue_stays (h : old.trigger = new.trigger ∨ new.isTime = false) :
    s.replaceCue i old new = s.setSlot i { s.slot i with cue := some new } := by
  unfold State.replaceCue
  dsimp only
  split
  · rfl
  · rename_i other
    have contact := h.resolve_left other
    split
    · rename_i n time
      rw [Cue.isTime_time time] at contact
      cases contact
    · rfl

/-- A TIME cue whose fire time changes is taken off its list and put on it anew (R29). -/
theorem State.replaceCue_moves (other : old.trigger ≠ new.trigger) {n : Nat} (time : new.trigger = .time n) :
    s.replaceCue i old new = ((s.setSlot i { s.slot i with cue := some new }).modScheduler new.channel
      fun x => { x with timed := x.timed.filter (· ≠ i) }).enlist i new := by
  unfold State.replaceCue
  rw [if_neg other]
  simp only [time]

/-- A cue replaced in its slot, and moved where its fire time changes (R29). -/
theorem replaceCue_result (sound : s.CuesSound) (kind : new.isTime = old.isTime) :
    let u := s.replaceCue i old new
    u = { s with cues := u.cues, channels := u.channels }
      ∧ (∀ d, d ≠ new.channel → u.chan d = s.chan d)
      ∧ u.chan new.channel = (s.chan new.channel).setScheduler
          { (s.chan new.channel).scheduler with timed := (u.chan new.channel).scheduler.timed }
      ∧ (new.trigger = old.trigger ∨ old.isTime = false →
          (u.chan new.channel).scheduler.timed = (s.chan new.channel).scheduler.timed)
      ∧ (∀ n, new.trigger = .time n → new.trigger ≠ old.trigger →
          s.Inserted ((s.chan new.channel).scheduler.timed.filter (· ≠ i))
            (u.chan new.channel).scheduler.timed i n) := by
  intro u
  by_cases stays : old.trigger = new.trigger ∨ new.isTime = false
  · have hu : u = s.setSlot i { s.slot i with cue := some new } := State.replaceCue_stays stays
    rw [hu]
    refine ⟨rfl, fun _ _ => rfl, rfl, fun _ => rfl, fun n time moved => absurd stays ?_⟩
    rintro (same | contact)
    · exact moved same.symm
    · rw [Cue.isTime_time time] at contact
      cases contact
  · obtain ⟨other, isTime⟩ := not_or.1 stays
    obtain ⟨n, time⟩ : ∃ n, new.trigger = .time n := by
      cases trigger : new.trigger with
      | time n => exact ⟨n, rfl⟩
      | contact g => exact absurd (Cue.isTime_contact trigger) isTime
    obtain ⟨t, ht⟩ : ∃ t, t = (s.setSlot i { s.slot i with cue := some new }).modScheduler new.channel
      fun x => { x with timed := x.timed.filter (· ≠ i) } := ⟨_, rfl⟩
    have hu : u = t.enlist i new := by rw [ht]; exact State.replaceCue_moves other time
    have chan : t.chan new.channel = (s.chan new.channel).setScheduler { (s.chan new.channel).scheduler with
        timed := (s.chan new.channel).scheduler.timed.filter (· ≠ i) } := by
      rw [ht, State.modScheduler, State.modChan_chan_same]
      rfl
    obtain ⟨timed, contact⟩ := t.enlist_timed (Cue.isTime_time time) (i := i) new.channel
    have own := t.enlist_own i new
    rw [← hu, chan] at timed contact own
    rw [contact] at own
    have moved : ¬ (new.trigger = old.trigger ∨ old.isTime = false) := by
      rintro (same | fires)
      · exact other same.symm
      · exact isTime (kind.trans fires)
    refine ⟨?_, fun d hd => ?_, own, fun h => absurd h moved, fun n' time' _ => ?_⟩
    · have enlisted := t.enlist_record i new
      rw [← hu] at enlisted
      rw [enlisted, ht]
      rfl
    · rw [hu, State.enlist_chan_other _ _ _ hd, ht, State.modScheduler_chan_ne _ _ _ hd]
      rfl
    · rw [time] at time'
      cases time'
      have cue : ∀ j, t.cue j = if j = i then some new else s.cue j := fun j => by
        rw [ht]; exact State.setSlot_cue ..
      have reached : t.fireTimeAt i = n := by simp [State.fireTimeAt, cue, Cue.fireTime, time]
      obtain ⟨-, -, order, -⟩ := (s.cuesSound_iff.1 sound).1 new.channel
      rw [timed, if_pos rfl, ← reached]
      refine insertTimed_inserted (fun j hj => ?_) (order.sublist List.filter_sublist)
      have apart : j ≠ i := by simpa using (List.mem_filter.1 hj).2
      rw [State.fireTimeAt, cue, if_neg apart]
      rfl

end

section
variable {s : State} {p : PortId} {h : HandleBytes} {f : CueFields} {i : SlotIx} {old : Cue}
  (found : s.resolve h = some (i, old)) (may : s.mayEdit p old = true)
include found may

/-- Fields that do not fit the cue are refused (R29). -/
theorem cueModify_misfit (misfit : s.CueRefused f ∨ f.channel.toNat ≠ old.channel.val
      ∨ f.kind ≠ (if old.isTime then 0 else 1)) : cueModify p h f s = (s, refuse .badParam) := by
  by_cases refused : s.CueRefused f
  · simp only [cueModify, found, may, State.readCue_refused refused]
    rfl
  · obtain ⟨k, read, -, channel, kind, -⟩ := State.readCue_taken p refused
    have unfit : k.channel ≠ old.channel ∨ old.trigger.sameKind k.trigger = false := by
      rcases misfit.resolve_left refused with elsewhere | other
      · exact .inl fun same => elsewhere (by rw [← channel, same])
      · refine .inr (Bool.eq_false_of_not_eq_true fun same => other ?_)
        rw [kind, sameKind_iff.1 same]
        cases old.isTime <;> rfl
    simp only [cueModify, found, may, read, if_pos unfit]
    rfl

/-- Fields that fit the cue replace it (R29). -/
theorem cueModify_fits (fits : ¬ (s.CueRefused f ∨ f.channel.toNat ≠ old.channel.val
      ∨ f.kind ≠ (if old.isTime then 0 else 1))) : ∃ k, k.channel = old.channel ∧ k.isTime = old.isTime
    ∧ (∀ o late, s.CueRead f { k with origin := o, late := late })
    ∧ cueModify p h f s = (s.replaceCue i old (s.modified old k),
        { code := clampedCode (cueFieldsClamped f), payload := storedBytes (s.modified old k) }) := by
  simp only [not_or, not_not] at fits
  obtain ⟨fine, here, kind'⟩ := fits
  obtain ⟨k, read, -, channel, kind, fields⟩ := State.readCue_taken p (f := f) (by simpa only [not_or] using fine)
  have same : k.channel = old.channel := Fin.ext (channel.trans here)
  have isTime : k.isTime = old.isTime := by
    rw [kind] at kind'
    revert kind'
    cases old.isTime <;> cases k.isTime <;> simp [flagByte]
  have fit : ¬ (k.channel ≠ old.channel ∨ old.trigger.sameKind k.trigger = false) := by
    rw [sameKind_iff.2 isTime]
    simp [same]
  refine ⟨k, same, isTime, fields, ?_⟩
  simp only [cueModify, found, may, read, if_neg fit]
  rfl

end

/-- Settles O15: the request is refused at the handle, at the owner or by `cueModify_misfit`, and otherwise the record
is replaced as `replaceCue_result` says. -/
theorem cueModifyResult : Obligations.CueModifyResult := by
  intro s p tag h f room sound records i live
  have run : ∀ {u : State} {completion : Completion} {payload : List Byte},
      cueModify p h f s = (u, ⟨completion, payload⟩) →
      exec (.cueModify p tag h f) s = .next (u.replied p tag 0x11 completion payload) :=
    fun owner => exec_answered (r := .cueModify h f) (by simp) rfl room owner
  refine ⟨fun stale => run ?_, fun old fresh cue => ⟨fun other plain => run ?_, fun may => ?_⟩⟩
  · simp only [cueModify, State.resolve_stale stale, refuse]
  · simp only [cueModify, State.resolve_live fresh cue, State.mayEdit_not other plain, if_true, refuse]
  have found := State.resolve_live fresh cue
  have edits := (s.mayEdit_iff p old).2 may
  refine ⟨fun misfit => run (cueModify_misfit found edits misfit), fun fits => ?_⟩
  obtain ⟨k, channel, kind, fields, answer⟩ := cueModify_fits found edits fits
  obtain ⟨late, record⟩ := modified_record s old k
  have trigger := modified_trigger s old k
  have place : (s.modified old k).channel = old.channel := (modified_channel s old k).trans channel
  have isTime : (s.modified old k).isTime = old.isTime := by rw [← kind, record]; rfl
  obtain ⟨frame, elsewhere, own, stays, moves⟩ := replaceCue_result (i := i) sound isTime
  rw [place] at elsewhere own stays moves
  refine ⟨s.replaceCue i old (s.modified old k), s.modified old k, run answer, ?_, ?_, frame, ?_, fun j hj => ?_,
    elsewhere, own, fun same => ⟨?_, stays same⟩, fun n time moved => ⟨?_, moves n time moved⟩⟩
  · rw [record]; exact fields _ _
  · rw [record]
  · rw [State.replaceCue_slot, if_pos rfl]
  · rw [State.replaceCue_slot, if_neg hj]
  · by_cases still : old.trigger = k.trigger
    · exact modified_late_kept still
    · have contact : old.isTime = false := same.resolve_left fun e => still (trigger ▸ e.symm)
      obtain ⟨g, fires⟩ : ∃ g, k.trigger = .contact g := by
        cases t : k.trigger with
        | time n => rw [← kind, Cue.isTime_time t] at contact; cases contact
        | contact g => exact ⟨g, rfl⟩
      rw [modified_late_judged still, judged_contact (k := { k with origin := old.origin }) fires]
      exact ((records i old cue).2.1 contact).symm
  · have still : old.trigger ≠ k.trigger := fun e => moved (trigger.trans e.symm)
    rw [trigger] at time
    rw [modified_late_judged still, judged_time (k := { k with origin := old.origin }) time, ← channel]
    exact s.lateInsert_mark k.channel n

end Sys2Proof.Machine
end

section
/-! PROOFS. The reading requests: the layouts of their replies and their refusals (R33, R49, R66, R89, R132,
R189, R190). -/

namespace Sys2Proof.Machine

open Sys2Proof

/-! ## Fields of a payload (R196) -/

/-- The two bytes of a number side by side are the number of two bytes. -/
theorem bytes2_append (n : Nat) : BitVec.ofNat 8 (n / 256) ++ BitVec.ofNat 8 n = BitVec.ofNat 16 n := by
  apply BitVec.eq_of_toNat_eq
  rw [BitVec.toNat_append, ← Nat.shiftLeft_add_eq_or_of_lt (BitVec.isLt _)]
  simp only [BitVec.toNat_ofNat, Nat.shiftLeft_eq]
  omega

theorem byteAt_of_append_left {l r : List Byte} {i : Nat} (h : i < l.length) : byteAt (l ++ r) i = byteAt l i :=
  List.getD_append _ _ _ _ h

theorem byteAt_of_append_right {l r : List Byte} {i : Nat} (h : l.length ≤ i) :
    byteAt (l ++ r) i = byteAt r (i - l.length) :=
  List.getD_append_right _ _ _ _ h

/-- The two-byte field behind a part of known length. -/
theorem halfAt_of_append_bytes2 {l : List Byte} {i : Nat} (h : l.length = i) (n : Nat) :
    halfAt (l ++ bytes2 n) i = BitVec.ofNat 16 n := by
  subst h
  rw [halfAt, byteAt_of_append_right (Nat.le_refl _), byteAt_of_append_right (Nat.le_add_right _ _), Nat.sub_self,
    Nat.add_sub_cancel_left]
  exact bytes2_append n

/-! ## The parts of the replies -/

theorem labelBytes?_some (x : Option Label) : ∃ a b c d, labelBytes? x = [a, b, c, d] := by
  cases x <;> exact ⟨_, _, _, _, rfl⟩

theorem handleBytes?_some (x : Option Handle) : ∃ a b, handleBytes? x = [a, b] := by
  cases x <;> exact ⟨_, _, rfl⟩

/-- The move and the pending layout of a status record take three and four bytes, present or absent (11.4). -/
theorem Window.statusBytes_eq (w : Window) : ∃ requested last m0 m1 m2 q0 q1 q2 q3 contact,
    w.statusBytes = [windowStateByte w.state, BitVec.ofNat 8 (w.opacity / 256), BitVec.ofNat 8 w.opacity, requested,
      last, m0, m1, m2, q0, q1, q2, q3, suppressionByte w.suppression, contact] := by
  unfold Window.statusBytes
  cases w.move <;> cases w.pendingLayout with
  | none => exact ⟨_, _, _, _, _, _, _, _, _, _, rfl⟩
  | some q =>
    obtain ⟨a, b, handle⟩ := handleBytes?_some (q.cue.map (·.1))
    dsimp only
    rw [handle]
    exact ⟨_, _, _, _, _, _, _, _, _, _, rfl⟩

theorem layoutBytes_length (l : Layout) : (layoutBytes l).length = 46 := rfl

theorem outcomeBytes_length (r : OutcomeRecord) : (outcomeBytes r).length = 9 := by
  obtain ⟨a, b, c, d, label⟩ := labelBytes?_some r.label
  simp only [outcomeBytes, label]
  rfl

theorem Synchroniser.statsBytes_length (x : Synchroniser) : x.statsBytes.length = 19 := by
  have four : ∀ n, (bytes4? n).length = 4 := fun n => by cases n <;> rfl
  simp only [Synchroniser.statsBytes, List.length_append, four]
  rfl

theorem State.triggerBytes_length (s : State) (k : Cue) : (s.triggerBytes k).length = 4 := by
  unfold State.triggerBytes
  split <;> rfl

theorem State.summaryBytes_length {s : State} {i : SlotIx} (live : (s.cue i).isSome = true) :
    (s.summaryBytes i).length = 12 := by
  obtain ⟨k, cue⟩ := Option.isSome_iff_exists.1 live
  simp only [State.summaryBytes, cue, List.length_append, State.triggerBytes_length]
  rfl

/-- The status record: its length and its principal fields at their offsets (11.4). -/
theorem State.statusBytes_fields (s : State) (c : Channel) :
    let x := s.chan c
    let b := s.statusBytes c
    b.length = 43 ∧ byteAt b 0 = windowStateByte x.window.state
      ∧ halfAt b 1 = BitVec.ofNat 16 x.window.opacity
      ∧ byteAt b 12 = suppressionByte x.window.suppression
      ∧ byteAt b 14 = holdByte x.scheduler.hold
      ∧ byteAt b 15 = clockStatusByte x.clock.status
      ∧ (x.clock.status = .invalid → labelAt b 16 = ⟨0xFF, 0xFF, 0xFF, 0xFF⟩)
      ∧ byteAt b 20 = byte1 x.delay.actual
      ∧ byteAt b 25 = byte1 s.free
      ∧ byteAt b 26 = byte1 x.calibration.latency
      ∧ halfAt b 32 = BitVec.ofNat 16 x.calibration.runCount
      ∧ byteAt b 42 = lockByte x.sync.lock := by
  obtain ⟨r, p, m0, m1, m2, q0, q1, q2, q3, k, window⟩ := (s.chan c).window.statusBytes_eq
  obtain ⟨h0, h1, h2, h3, label⟩ := labelBytes?_some (s.clockLabel c)
  have absent : (s.chan c).clock.status = .invalid → labelBytes? (s.clockLabel c) = [0xFF, 0xFF, 0xFF, 0xFF] :=
    fun invalid => by rw [State.clockLabel, if_pos invalid]; rfl
  rw [label] at absent
  dsimp only [State.statusBytes]
  rw [window, label]
  refine ⟨rfl, rfl, bytes2_append _, rfl, rfl, rfl, fun invalid => ?_, rfl, rfl, rfl, bytes2_append _, rfl⟩
  obtain ⟨rfl, rfl, rfl, rfl⟩ : h0 = 0xFF ∧ h1 = 0xFF ∧ h2 = 0xFF ∧ h3 = 0xFF := by
    simpa only [List.cons.injEq, and_true] using absent invalid
  rfl

/-- The geometry reply (R89): the layout, the last preset, and 34 bytes that end in the opacity. -/
theorem geometryBytes_eq (g : PeriodGeometry) (last : PresetIx) :
    ∃ body, geometryBytes g last = layoutBytes g.layout ++ [byte1 last] ++ body ∧ body.length = 34
      ∧ halfAt body 32 = BitVec.ofNat 16 g.opacity :=
  ⟨rectBytes g.inner ++ rectBytes g.effective ++ bytes4 g.stepX ++ bytes4 g.stepY ++ bytes4 g.programmeStepX
      ++ bytes4 g.programmeStepY ++ bytes2 g.opacity, by simp only [geometryBytes, List.append_assoc], rfl,
    halfAt_of_append_bytes2 rfl _⟩

/-- The four span entries of 11 bytes (R66). -/
theorem State.spans_fields (s : State) (c : Channel) (w : Window) :
    let body := spanIndices.flatMap fun i => s.spanBytes c (w.spans.pick i)
    body.length = 44 ∧ ∀ i : SpanIx, byteAt body (11 * i.val) = flagByte (w.spans.pick i).enabled
      ∧ byteAt body (11 * i.val + 10) = portByte? (w.spans.pick i).writer := by
  refine ⟨rfl, fun i => ?_⟩
  fin_cases i <;> exact ⟨rfl, rfl⟩

/-- The eight GPI records of 5 bytes (R190). -/
theorem State.gpis_fields (s : State) :
    let body := gpiIndices.flatMap fun g => (s.gpi g).bytes
    body.length = 40 ∧ ∀ g : GpiIx, byteAt body (5 * g.val) = gpiModeByte (s.gpi g).mode
      ∧ byteAt body (5 * g.val + 4) = flagByte (s.gpi g).level := by
  refine ⟨rfl, fun g => ?_⟩
  fin_cases g <;> exact ⟨rfl, rfl⟩

/-- The four tally records of 5 bytes (R190). -/
theorem State.tallies_fields (s : State) :
    let body := tallyIndices.flatMap fun t => (s.tally t).bytes
    body.length = 20 ∧ ∀ k : TallyIx, byteAt body (5 * k.val + 4) = flagByte (s.tally k).active := by
  refine ⟨rfl, fun k => ?_⟩
  fin_cases k <;> rfl

/-! ## The owners -/

section
variable {s : State} {ch b : Byte} {c : Channel}

theorem statusRead_eq (here : ch.toNat = c.val) : statusRead ch s = (s, taken false (s.statusBytes c)) := by
  simp only [statusRead, readChannel_some here]

theorem outcomeRead_eq (here : ch.toNat = c.val) : outcomeRead ch s = (s, taken false
    (bytes2 (s.chan c).scheduler.total ++ [byte1 (s.chan c).scheduler.ring.length]
      ++ (s.chan c).scheduler.ring.flatMap outcomeBytes)) := by
  simp only [outcomeRead, readChannel_some here]

theorem spanRead_eq (here : ch.toNat = c.val) : spanRead ch s = (s, taken false
    (spanIndices.flatMap (fun i => s.spanBytes c ((s.chan c).window.spans.pick i))
      ++ [flagByte (s.chan c).window.spanMatch])) := by
  simp only [spanRead, readChannel_some here]

theorem readFlag_flagByte (x : Bool) : readFlag (flagByte x) = some x := readFlag_eq_some.2 rfl

theorem readPreset_none (undefined : 8 ≤ b.toNat) : readPreset b = none := dif_neg (Nat.not_lt.2 undefined)

theorem presetRead_stored {i : PresetIx} (here : ch.toNat = c.val) (index : b.toNat = i.val) :
    presetRead ch b s = (s, taken false (presetBytes ((s.chan c).presets.pick i))) := by
  simp only [presetRead, readChannel_some here, readPreset_eq_some.2 index.symm]

theorem presetRead_latched (here : ch.toNat = c.val) : presetRead ch 8 s =
    (s, taken false (geometryBytes (s.chan c).latches.geometry (s.chan c).window.lastPreset)) := by
  simp only [presetRead, readChannel_some here, readPreset_none (b := 8) (Nat.le_refl 8), if_true]

theorem presetRead_undefined (here : ch.toNat = c.val) (undefined : 9 ≤ b.toNat) :
    presetRead ch b s = (s, refuse .badParam) := by
  have other : b ≠ 8 := by rintro rfl; exact absurd undefined (by decide)
  simp only [presetRead, readChannel_some here, readPreset_none (show 8 ≤ b.toNat by omega), if_neg other]

theorem syncStatsRead_eq (here : ch.toNat = c.val) (wipe : Bool) : syncStatsRead ch (flagByte wipe) s =
    (if wipe then s.setChan c ((s.chan c).setSync { (s.chan c).sync with repeats := 0, drops := 0 }) else s,
      taken false (s.chan c).sync.statsBytes) := by
  simp only [syncStatsRead, readChannel_some here, readFlag_flagByte]
  rfl

theorem syncStatsRead_refused (undefined : 4 ≤ ch.toNat ∨ 2 ≤ b.toNat) :
    syncStatsRead ch b s = (s, refuse .badParam) := by
  unfold syncStatsRead
  split
  · rename_i c wipe channel flag
    rcases undefined with none | none
    · cases (readChannel_none none).symm.trans channel
    · cases (readFlag_none none).symm.trans flag
  · rfl

theorem cueListRead_eq (here : ch.toNat = c.val) (contact : Bool) (start : Byte) :
    let list := if contact then (s.chan c).scheduler.contact else (s.chan c).scheduler.timed
    let shown := (list.drop start.toNat).take 5
    cueListRead ch (flagByte contact) start s = (s, taken false
      (bytes2 list.length ++ [start, byte1 shown.length] ++ shown.flatMap s.summaryBytes)) := by
  simp only [cueListRead, readChannel_some here, readFlag_flagByte]

theorem cueListRead_refused {start : Byte} (undefined : 4 ≤ ch.toNat ∨ 2 ≤ b.toNat) :
    cueListRead ch b start s = (s, refuse .badParam) := by
  unfold cueListRead
  split
  · rename_i c contact channel flag
    rcases undefined with none | none
    · cases (readChannel_none none).symm.trans channel
    · cases (readFlag_none none).symm.trans flag
  · rfl

theorem configRead_channel {p : PortId} (here : ch.toNat = c.val) :
    configRead p 1 ch s = (s, taken false (s.chan c).configuration.bytes) := by
  unfold configRead
  simp only [readChannel_some here]
  rfl

theorem configRead_refused {p : PortId} {part : Byte} (undefined : 4 ≤ part.toNat ∨ (part = 1 ∧ 4 ≤ ch.toNat)) :
    configRead p part ch s = (s, refuse .badParam) := by
  rcases undefined with high | ⟨rfl, high⟩
  · unfold configRead
    split
    · omega
    · omega
    · omega
    · omega
    · rfl
  · unfold configRead
    simp only [readChannel_none high]
    rfl

end

/-- Settles O48: every refusal by `exec_answered` and the owner's refusal, every reply by the owner's answer and
the layout of its payload. -/
theorem readReplies : Obligations.ReadReplies := by
  intro s p tag ch room
  have run : ∀ r : Request, r ≠ .deviceReset → supervised r = false →
      ∀ ⦃u : State⦄ ⦃x : Completion⦄ ⦃payload : List Byte⦄, requestOwner p r s = (u, ⟨x, payload⟩) →
      exec (requestCommand p tag r) s = .next (u.replied p tag (requestCode r) x payload) :=
    fun _ other plain _ _ _ owner => exec_answered other plain room owner
  have status := run (.statusRead ch) nofun rfl
  have outcome := run (.outcomeRead ch) nofun rfl
  have span := run (.spanRead ch) nofun rfl
  have preset := fun b => run (.presetRead ch b) nofun rfl
  have sync := fun b => run (.syncStatsRead ch b) nofun rfl
  have list := fun b start => run (.cueListRead ch b start) nofun rfl
  have config := fun part => run (.configRead part ch) nofun rfl
  refine ⟨fun high => ?_, fun c here => ?_, ?_, ?_, ?_,
    fun part undefined => config part (configRead_refused (p := p) undefined)⟩
  · have none := readChannel_none high
    refine ⟨status ?_, outcome ?_, span ?_, fun b => ⟨preset b ?_, sync b (syncStatsRead_refused (.inl high)),
      fun start => list b start (cueListRead_refused (.inl high))⟩⟩
    · simp only [requestOwner, statusRead, none, refuse]
    · simp only [requestOwner, outcomeRead, none, refuse]
    · simp only [requestOwner, spanRead, none, refuse]
    · simp only [requestOwner, presetRead, none, refuse]
  · obtain ⟨body, latched, length, opacity⟩ :=
      geometryBytes_eq (s.chan c).latches.geometry (s.chan c).window.lastPreset
    refine ⟨⟨status (statusRead_eq here), s.statusBytes_fields c⟩, ⟨outcome (outcomeRead_eq here), outcomeBytes_length⟩,
      ⟨_, span (spanRead_eq here), s.spans_fields c (s.chan c).window⟩,
      fun b i index => preset b (presetRead_stored here index),
      ⟨body, preset 8 ?_, length, opacity⟩, fun b undefined => preset b (presetRead_undefined here undefined),
      ⟨sync 0 (syncStatsRead_eq here false), sync 1 (syncStatsRead_eq here true),
        (s.chan c).sync.statsBytes_length, fun b undefined => sync b (syncStatsRead_refused (.inr undefined))⟩,
      ?_, fun selector start undefined => list selector start (cueListRead_refused (.inr undefined)),
      fun i => State.summaryBytes_length, config 1 (configRead_channel (p := p) here)⟩
    · rw [← latched]
      exact presetRead_latched here
    · rintro selector start contact rfl
      exact list _ start (cueListRead_eq here contact start)
  · exact ⟨PortId.all.flatMap fun q => (s.port q).bytes (decide (q = p)), config 0 rfl, rfl⟩
  · exact ⟨_, config 2 rfl, s.gpis_fields⟩
  · exact ⟨_, config 3 rfl, s.tallies_fields⟩

end Sys2Proof.Machine
end

section
/-! PROOFS. CHANNEL_RESET: what the channel's blocks, the pool and the ports hold after it (R51, R79, R80, R135,
R152, R163, R167, R192). -/

namespace Sys2Proof.Machine

open Sys2Proof

/-! ## The delay line and the pool (R152) -/

/-- A delay line after its channel's reset, when it holds a slot: the target that the slots held and free allow. -/
theorem DelayLine.channelReset_result (d : DelayLine) (latency : Nat) {free : Nat} (some_ : 0 < free)
    (length : d.ring.length = d.held) :
    let e := d.channelReset latency free
    e = { d with
          lag := 0, requested := min 60 ((latency + 1) / 2), actual := min e.requested (free - 1), target := e.actual
          held := e.actual + 1, ring := e.ring, slewCount := 0 }
      ∧ e.ring.length = e.held
      ∧ (∀ i, i < e.held → e.ring[i]? = if i < d.held then d.ring[i]? else some none)
      ∧ e.held ≤ free := by
  have actual : (d.channelReset latency free).actual = min (min 60 ((latency + 1) / 2)) (free - 1) := by
    show (if requestedTarget latency 0 + 1 ≤ free then requestedTarget latency 0 else free - 1) = _
    have requested : requestedTarget latency 0 = min 60 ((latency + 1) / 2) := rfl
    rw [requested]
    split <;> omega
  have held : (d.channelReset latency free).held = (d.channelReset latency free).actual + 1 := rfl
  refine ⟨?_, resizeRing_length .., fun i hi => ?_, by omega⟩
  · show _ = { d with lag := 0, requested := _, actual := min (min 60 ((latency + 1) / 2)) (free - 1), target := _
                      held := _, ring := _, slewCount := 0 }
    rw [← actual]
    rfl
  · rw [← length]
    exact resizeRing_get _ _ hi

section
variable (s : State) (c : Channel)

theorem State.abortRun_free : (s.abortRun c).free = s.free := by
  unfold State.abortRun
  split
  · rw [State.postDone_free, State.modChan_free]
  · rfl

theorem State.resetChannelDelay_delay : ((s.resetChannelDelay c).chan c).delay
    = (s.chan c).delay.channelReset (s.chan c).calibration.latency (s.free + (s.chan c).delay.held) := by
  unfold State.resetChannelDelay
  dsimp only
  rw [State.setFree_chan, State.modChan_chan_same]
  rfl

theorem State.resetChannelDelay_free : (s.resetChannelDelay c).free = s.free + (s.chan c).delay.held
    - ((s.chan c).delay.channelReset (s.chan c).calibration.latency (s.free + (s.chan c).delay.held)).held := rfl

theorem State.resetBlocks_delay (w : Window) : ((s.resetBlocks c w).chan c).delay = (s.chan c).delay := by
  rw [State.resetBlocks, State.modChan_chan_same]
  rfl

theorem State.resetBlocks_calibration (w : Window) :
    ((s.resetBlocks c w).chan c).calibration = (s.chan c).calibration := by
  rw [State.resetBlocks, State.modChan_chan_same]
  rfl

theorem State.resetBlocks_free (w : Window) : (s.resetBlocks c w).free = s.free := rfl

theorem State.cleared_free : ((s.clearLatches c).freeCues c).free = s.free := by
  have same : ∀ t : State, (t.freeCues c).free = t.free := fun _ => rfl
  rw [same, State.clearLatches_free]

/-- The slots a channel may hold after its reset are its own and those that are free. -/
theorem State.resetOne_delay : ((s.resetOne c).chan c).delay = (s.chan c).delay.channelReset
    (s.chan c).calibration.latency (s.free + (s.chan c).delay.held) := by
  have aborted : ∀ t : State, ((t.abortRun c).chan c).delay = (t.chan c).delay := fun t => by
    rw [State.abortRun_chan, if_pos rfl]; rfl
  rw [State.resetOne_eq, aborted, State.resetChannelDelay_delay, State.resetBlocks_delay,
    State.resetBlocks_calibration, State.resetBlocks_free, State.cleared_chan, State.cleared_free]

theorem State.resetOne_free : (s.resetOne c).free
    = s.free + (s.chan c).delay.held - ((s.resetOne c).chan c).delay.held := by
  rw [State.resetOne_delay, State.resetOne_eq, State.abortRun_free, State.resetChannelDelay_free,
    State.resetBlocks_delay, State.resetBlocks_calibration, State.resetBlocks_free, State.cleared_chan,
    State.cleared_free]

/-- A channel after its own reset, its delay line apart. -/
theorem State.resetOne_own : (s.resetOne c).chan c
    = (s.chan c).channelReset (s.windowAfterReset c) ((s.resetOne c).chan c).delay := by
  obtain ⟨e, -, chan⟩ := s.resetOne_chan c
  rw [chan, if_pos rfl]
  rfl

/-- The latches a port holds after a channel reset: the channel's own go, and a run that was aborted is posted (R163,
R192). -/
theorem State.resetOne_latches (q : PortId) (l : Latch) : ((s.resetOne c).port q).holds l = (match l with
    | .channel k d =>
      if d = c then
        decide (k = .calibrationDone) && ((s.chan c).calibration.running
          && (decide ((s.chan c).calibration.origin = some q) && (s.port q).enables l))
      else (s.port q).holds l
    | .replyOverrun => (s.port q).holds l
    | .referenceChange => (s.port q).holds l) := by
  rw [Bool.eq_iff_iff, State.resetOne_holds, State.RunDone]
  cases l with
  | replyOverrun => simp
  | referenceChange => simp
  | channel k d =>
    by_cases own : d = c
    · subst own
      simp
    · simp [own]

end

/-- Settles O5: the refusal of a channel byte above 3, and otherwise the reset of one channel, block by block. -/
theorem channelResetValues : Obligations.ChannelResetValues := by
  intro s p tag ch supervisor room
  have run : ∀ {u : State} {completion : Completion}, channelReset ch s = (u, ⟨completion, []⟩) →
      exec (.channelReset p tag ch) s = .next (u.replied p tag 0x3C completion []) := by
    intro u completion owner
    have command : requestCommand p tag (.channelReset ch) = .channelReset p tag ch := rfl
    have number : requestCode (.channelReset ch) = 0x3C := rfl
    exact exec_replied command number (by simp) room (fun _ => supervisor) owner
  refine ⟨fun high => run (by simp only [channelReset, readChannel_none high, refuse]), fun c here pool => ?_⟩
  obtain ⟨timing, gpis, tallies, pending⟩ := State.Inner.resetOne s c
  obtain ⟨held, length, -⟩ := pool.2 c
  obtain ⟨delay, ring, entries, fits⟩ := (s.chan c).delay.channelReset_result (s.chan c).calibration.latency
    (show 0 < s.free + (s.chan c).delay.held by omega) length
  have free := s.resetOne_free c
  rw [← s.resetOne_delay c] at delay ring entries fits
  refine ⟨s.resetOne c, run ?_, timing, gpis, tallies, pending, fun d other => s.resetOne_chan_ne c other,
    s.resetOne_slot c, ?_⟩
  · simp only [channelReset, readChannel_some here]
    rfl
  have own := s.resetOne_own c
  refine ⟨?_, ?_, ?_, ?_, ?_, ?_, ?_, ⟨delay, ring, entries, by omega⟩, ?_, fun q => ⟨?_, s.resetOne_latches c q⟩⟩
  · rw [own]; rfl
  · rw [own]; rfl
  · rw [own]; rfl
  · rw [own]; rfl
  · rw [own]; rfl
  · rw [own]; rfl
  · rw [own]; rfl
  · rw [own]; rfl
  · exact (Port.unlatched_iff _ _).1 (s.resetOne_unlatched q c)

end Sys2Proof.Machine
end

section
/-! PROOFS. The window record under its own operations: the state machine and the ramp (R52 to R56), the moves (R68 to
R70) and the settings that both leave. -/

namespace Sys2Proof.Machine

open Sys2Proof

/-! ## Entry to OFF (R56) -/

/-- The working geometry and the last preset of a window that enters OFF: those of the pending layout, or else the
target of the move (R56). -/
def Window.settled (w : Window) (presets : Bank 8 Preset) : Layout × PresetIx :=
  match w.pendingLayout with
  | some q => ((presets.pick q.preset).layout, q.preset)
  | none => ((w.move.map (·.target)).getD w.geometry, w.lastPreset)

theorem Window.enterOff_eq (w : Window) (presets : Bank 8 Preset) : w.enterOff presets = { w with
    state := .off, opacity := 0, move := none, pendingLayout := none
    geometry := (w.settled presets).1, lastPreset := (w.settled presets).2 } := by
  unfold Window.enterOff Window.applyPending Window.endMove Window.settled
  cases w.pendingLayout <;> cases w.move <;> simp [Window.cut]

/-! ## The state machine, cause by cause (R53) -/

section
variable {w : Window} (presets : Bank 8 Preset) (n : Nat)

theorem Window.react_rise (on : w.effectiveOn = true) (off : w.state = .off) (long : 0 < n) :
    w.react presets n = { w with state := .rising, opacity := 0, ramp := { start := 0, length := n, count := 0 } } := by
  simp only [Window.react, off, on, if_pos long]

theorem Window.react_rise_again (on : w.effectiveOn = true) (falling : w.state = .falling) (long : 0 < n)
    (part : w.opacity < 1024) : w.react presets n
      = { w with state := .rising, ramp := { start := w.opacity, length := n, count := 0 } } := by
  simp only [Window.react, falling, on, if_pos (And.intro long part)]

theorem Window.react_on (on : w.effectiveOn = true) (h : w.state = .off ∧ n = 0 ∨ w.state = .falling
    ∧ (n = 0 ∨ 1024 ≤ w.opacity)) : w.react presets n = { w with state := .on, opacity := 1024 } := by
  rcases h with ⟨off, rfl⟩ | ⟨falling, short⟩
  · simp only [Window.react, off, on, if_neg (Nat.lt_irrefl 0)]
  · simp only [Window.react, falling, on, if_neg (show ¬ (0 < n ∧ w.opacity < 1024) by omega)]

theorem Window.react_fall (off : w.effectiveOn = false) (up : w.state = .rising ∨ w.state = .on) (long : 0 < n)
    (seen : 0 < w.opacity) : w.react presets n
      = { w with state := .falling, ramp := { start := w.opacity, length := n, count := 0 } } := by
  rcases up with up | up <;> simp only [Window.react, up, off, if_pos (And.intro long seen)]

theorem Window.react_off (off : w.effectiveOn = false) (up : w.state = .rising ∨ w.state = .on)
    (cut : n = 0 ∨ w.opacity = 0) : w.react presets n = w.enterOff presets := by
  rcases up with up | up <;>
    simp only [Window.react, up, off, if_neg (show ¬ (0 < n ∧ 0 < w.opacity) by omega)]

/-- A window whose state agrees with effective on stays as it is. -/
theorem Window.react_stay (agree : w.effectiveOn = true ↔ w.state = .rising ∨ w.state = .on) :
    w.react presets n = w := by
  unfold Window.react
  split
  all_goals simp_all

end

/-! ## A window's course: state, ramp and moves -/

/-- What the state machine, the ramp and the moves read of a window and write to it, its geometry and last preset
aside. -/
def Window.course (w : Window) : WindowState × Nat × Ramp × Option Move × Option PendingLayout :=
  (w.state, w.opacity, w.ramp, w.move, w.pendingLayout)

/-- The condition of `Window.Sound`, effective on aside. -/
def Window.Steady (w : Window) : Prop :=
  w.RampSound ∧ (w.state = .off → w.move = none ∧ w.pendingLayout = none) ∧ ∀ m ∈ w.move, m.count < m.length

theorem Window.sound_iff (w : Window) :
    w.Sound ↔ w.Steady ∧ (w.effectiveOn = true ↔ w.state = .rising ∨ w.state = .on) := by
  constructor
  · rintro ⟨ramp, on, off, moves⟩
    exact ⟨⟨ramp, off, moves⟩, on⟩
  · rintro ⟨⟨ramp, off, moves⟩, on⟩
    exact ⟨ramp, on, off, moves⟩

theorem Window.steady_congr {v w : Window} (same : v.course = w.course) : v.Steady ↔ w.Steady := by
  simp only [Window.course, Prod.mk.injEq] at same
  obtain ⟨state, opacity, ramp, move, pending⟩ := same
  simp only [Window.Steady, Window.RampSound, state, opacity, ramp, move, pending]

theorem Window.sound_congr {v w : Window} (same : v.course = w.course) (on : v.effectiveOn = w.effectiveOn) :
    v.Sound ↔ w.Sound := by
  have state : v.state = w.state := congrArg (·.1) same
  rw [Window.sound_iff, Window.sound_iff, Window.steady_congr same, on, state]

theorem Window.effectiveOn_of_settings {v w : Window} (same : v.settings = w.settings) :
    v.effectiveOn = w.effectiveOn := by
  simp only [Window.settings, Prod.mk.injEq] at same
  obtain ⟨requested, suppression, -⟩ := same
  simp only [Window.effectiveOn, requested, suppression]

section
variable {w : Window} (presets : Bank 8 Preset)

theorem Window.enterOff_sound (off : w.effectiveOn = false) : (w.enterOff presets).Sound := by
  have off : (w.enterOff presets).effectiveOn = false :=
    (Window.effectiveOn_of_settings (w.enterOff_settings presets)).trans off
  rw [Window.enterOff_eq] at off ⊢
  exact ⟨⟨fun _ => rfl, nofun, nofun, nofun⟩, by simp [off], fun _ => ⟨rfl, rfl⟩, nofun⟩

theorem Window.Steady.opacity_le (steady : w.Steady) : w.opacity ≤ 1024 := by
  obtain ⟨⟨off, on, rising, falling⟩, -⟩ := steady
  cases state : w.state with
  | off => rw [off state]; omega
  | on => rw [on state]
  | rising =>
    obtain ⟨count, start, opacity⟩ := rising state
    have part : (1024 - w.ramp.start) * w.ramp.count / w.ramp.length ≤ 1024 - w.ramp.start :=
      Nat.div_le_of_le_mul (by rw [Nat.mul_comm]; exact Nat.mul_le_mul_right _ count.le)
    omega
  | falling =>
    obtain ⟨-, -, start, opacity⟩ := falling state
    rw [opacity]
    exact (Nat.sub_le _ _).trans start

/-- The state machine brings a window's state to agree with effective on (R53). -/
theorem Window.Steady.react (steady : w.Steady) (n : Nat) : (w.react presets n).Sound := by
  have most := steady.opacity_le
  obtain ⟨ramp, off, moves⟩ := steady
  by_cases agree : w.effectiveOn = true ↔ w.state = .rising ∨ w.state = .on
  · rw [Window.react_stay presets n agree]
    exact ⟨ramp, agree, off, moves⟩
  cases on : w.effectiveOn with
  | true =>
    have down : w.state = .off ∨ w.state = .falling := by
      cases state : w.state <;> simp_all
    rcases down with down | down
    · rcases Nat.eq_zero_or_pos n with rfl | long
      · rw [Window.react_on presets 0 on (.inl ⟨down, rfl⟩)]
        exact ⟨⟨nofun, fun _ => rfl, nofun, nofun⟩, iff_of_true on (.inr rfl), nofun, moves⟩
      · rw [Window.react_rise presets n on down long]
        exact ⟨⟨nofun, nofun, fun _ => ⟨long, by simp, by simp⟩, nofun⟩, iff_of_true on (.inl rfl), nofun, moves⟩
    · by_cases short : n = 0 ∨ 1024 ≤ w.opacity
      · rw [Window.react_on presets n on (.inr ⟨down, short⟩)]
        exact ⟨⟨nofun, fun _ => rfl, nofun, nofun⟩, iff_of_true on (.inr rfl), nofun, moves⟩
      · obtain ⟨long, part⟩ : 0 < n ∧ w.opacity < 1024 := by omega
        rw [Window.react_rise_again presets n on down long part]
        exact ⟨⟨nofun, nofun, fun _ => ⟨long, part, by simp⟩, nofun⟩, iff_of_true on (.inl rfl), nofun, moves⟩
  | false =>
    have up : w.state = .rising ∨ w.state = .on := by
      cases state : w.state <;> simp_all
    by_cases cut : n = 0 ∨ w.opacity = 0
    · rw [Window.react_off presets n on up cut]
      exact Window.enterOff_sound presets on
    · obtain ⟨long, seen⟩ : 0 < n ∧ 0 < w.opacity := by omega
      rw [Window.react_fall presets n on up long seen]
      exact ⟨⟨nofun, nofun, nofun, fun _ => ⟨long, seen, most, by simp⟩⟩,
        iff_of_false (Bool.eq_false_iff.1 on) (by simp), nofun, moves⟩

/-- A window that follows a change of its requested state or suppression set stays sound (R52). -/
theorem Window.Sound.follow (sound : w.Sound) {v : Window} (same : v.course = w.course) (n : Nat) :
    (w.follow v presets n).Sound := by
  unfold Window.follow
  split
  · rename_i on
    exact (Window.sound_congr same on.symm).2 sound
  · exact ((Window.steady_congr same).2 (w.sound_iff.1 sound).1).react presets n

/-! ## The ramp and the moves (R54, R69, R70) -/

theorem Window.Sound.stepRamp (sound : w.Sound) : (w.stepRamp presets).Sound := by
  obtain ⟨⟨off, on, rising, falling⟩, agree, none, moves⟩ := sound
  unfold Window.stepRamp
  dsimp only
  split
  · rename_i state
    obtain ⟨-, start, -⟩ := rising state
    have up : w.effectiveOn = true := agree.2 (.inl state)
    split
    · rename_i part
      exact ⟨⟨by simp [state], by simp [state], fun _ => ⟨part, start, rfl⟩, by simp [state]⟩, agree, none, moves⟩
    · exact ⟨⟨nofun, fun _ => rfl, nofun, nofun⟩, iff_of_true up (.inr rfl), nofun, moves⟩
  · rename_i state
    obtain ⟨-, start, most, -⟩ := falling state
    have down : w.effectiveOn = false := by
      rw [Bool.eq_false_iff, Ne, agree, state]; simp
    split
    · rename_i part
      exact ⟨⟨by simp [state], by simp [state], by simp [state], fun _ => ⟨part, start, most, rfl⟩⟩, agree, none,
        moves⟩
    · exact Window.enterOff_sound presets down
  · exact ⟨⟨off, on, rising, falling⟩, agree, none, moves⟩
  · exact ⟨⟨off, on, rising, falling⟩, agree, none, moves⟩

theorem Window.Sound.advanceRamp (sound : w.Sound) : (w.advanceRamp presets).Sound := by
  unfold Window.advanceRamp
  split
  · exact sound.stepRamp presets
  · exact sound

/-- A layout taken at once leaves no move without steps, and begins none in a window that is OFF (R68). -/
theorem Window.Sound.takeNow (sound : w.Sound) (p : PresetIx) (d : Nat) : (w.takeNow presets p d).Sound := by
  by_cases cut : w.opacity = 0 ∨ d = 0
  · rw [Window.takeNow_cut p d presets cut]
    exact sound
  · obtain ⟨seen, long⟩ : 0 < w.opacity ∧ 0 < d := by omega
    obtain ⟨⟨off, rest⟩, agree, -, -⟩ := sound
    rw [Window.takeNow_move p d presets seen long]
    refine ⟨⟨off, rest⟩, agree, fun h => absurd (off h) seen.ne', fun m hm => ?_⟩
    cases hm
    exact long

theorem Window.Sound.takePending (sound : w.Sound) : (w.takePending presets).Sound := by
  unfold Window.takePending
  split
  · obtain ⟨ramp, agree, off, moves⟩ := sound
    have taken : ({ w with pendingLayout := none } : Window).Sound :=
      ⟨ramp, agree, fun h => ⟨(off h).1, rfl⟩, moves⟩
    exact taken.takeNow presets _ _
  · exact sound

theorem Window.Sound.advanceMove (sound : w.Sound) : w.advanceMove.Sound := by
  obtain ⟨ramp, agree, off, moves⟩ := sound
  unfold Window.advanceMove
  split
  · exact ⟨ramp, agree, off, moves⟩
  · rename_i m move
    have up : w.state ≠ .off := fun h => by rw [(off h).1] at move; cases move
    split
    · exact ⟨ramp, agree, off, moves⟩
    · split
      · rename_i part
        refine ⟨ramp, agree, fun h => absurd h up, fun m' hm => ?_⟩
        cases hm
        exact part
      · simp only [Window.endMove, move]
        exact ⟨ramp, agree, fun h => absurd h up, nofun⟩

end

end Sys2Proof.Machine
end

section
/-! PROOFS. Layouts fitted to the raster (R83 to R87), and windows whose geometry and moves are made of such layouts
(R68 to R71). -/

namespace Sys2Proof.Machine

open Sys2Proof

/-! ## Fitting (R83 to R87) -/

section
variable (f : Format)

theorem width_even : width f % 2 = 0 := by cases f <;> rfl

theorem height_even : height f % 2 = 0 := by cases f <;> rfl

theorem evenDown_even (n : Nat) : evenDown n % 2 = 0 := by unfold evenDown; omega

theorem evenUp_even (n : Nat) : evenUp n % 2 = 0 := by unfold evenUp; omega

theorem roundLine_even (interlace : interlaced f = true) (n : Nat) : roundLine f n % 2 = 0 := by
  rw [roundLine, if_pos interlace, evenDown_even]

theorem roundLine_le (n : Nat) : roundLine f n ≤ n := by
  unfold roundLine evenDown
  split <;> omega

/-- Rounding keeps a height at a least height that is itself rounded. -/
theorem le_roundLine {least n : Nat} (even : interlaced f = true → least % 2 = 0) (h : least ≤ n) :
    least ≤ roundLine f n := by
  unfold roundLine evenDown
  split
  · rename_i interlace; have := even interlace; omega
  · exact h

/-- A position and a size brought onto the raster stay on it (R83). -/
theorem fitAxis_fits {least limit : Nat} (h : least ≤ limit) (x w : Nat) :
    least ≤ (fitAxis least limit x w).2 ∧ (fitAxis least limit x w).1 + (fitAxis least limit x w).2 ≤ limit := by
  simp only [fitAxis]
  omega

theorem fitRect_fits {lw lh : Nat} (wide : lw ≤ width f) (even : lw % 2 = 0) (high : lh ≤ height f)
    (line : interlaced f = true → lh % 2 = 0) (r : Rect) : (fitRect f lw lh r).Fits f lw lh := by
  obtain ⟨least, onto⟩ := fitAxis_fits wide r.x r.w
  obtain ⟨low, down⟩ := fitAxis_fits high r.y r.h
  have position := roundLine_le f (fitAxis lh (height f) r.y r.h).1
  have size := roundLine_le f (fitAxis lh (height f) r.y r.h).2
  refine ⟨?_, ?_, evenDown_even _, evenDown_even _, le_roundLine f line low, ?_, fun interlace =>
    ⟨roundLine_even f interlace _, roundLine_even f interlace _⟩⟩
  · simp only [fitRect, evenDown]; omega
  · simp only [fitRect, evenDown]; omega
  · simp only [fitRect]; omega

/-- The border leaves an inner rectangle of 32 × 18 (R84). -/
theorem fitBorder_fits {r : Rect} (wide : 32 ≤ r.w) (high : 18 ≤ r.h) (b : Nat) :
    fitBorder r b ≤ b ∧ fitBorder r b % 2 = 0 ∧ 32 + 2 * fitBorder r b ≤ r.w ∧ 18 + 2 * fitBorder r b ≤ r.h := by
  refine ⟨?_, evenDown_even _, ?_, ?_⟩ <;> simp only [fitBorder, evenDown] <;> omega

/-- One direction of a crop, brought to its inner size and drawn back onto the raster (R85). -/
theorem fitCropAxis_fits {limit least inner : Nat} (fits : least ≤ limit) (room : least ≤ 8 * inner) {x w : Nat}
    (onto : x + w ≤ limit) :
    let t := fitCropAxis limit least inner x w
    least ≤ t.2 ∧ t.2 ≤ 8 * inner ∧ t.1 + t.2 ≤ limit := by
  simp only [fitCropAxis]
  omega

theorem fitCropAxis_even {limit least inner x w : Nat} (limits : limit % 2 = 0) (leasts : least % 2 = 0)
    (xs : x % 2 = 0) (ws : w % 2 = 0) :
    (fitCropAxis limit least inner x w).1 % 2 = 0 ∧ (fitCropAxis limit least inner x w).2 % 2 = 0 := by
  simp only [fitCropAxis]
  omega

/-- A fitted crop lies on the raster, between half and eight times the size of the inner rectangle (R85). -/
theorem fitCrop_fits {inner : Rect} (wide : 0 < inner.w) (onto : inner.w ≤ width f) (even : inner.w % 2 = 0)
    (high : 0 < inner.h) (down : inner.h ≤ height f) (line : interlaced f = true → inner.h % 2 = 0) (crop : Rect) :
    let t := fitCrop f inner crop
    t.Fits f 0 0 ∧ inner.w ≤ 2 * t.w ∧ t.w ≤ 8 * inner.w ∧ inner.h ≤ 2 * t.h ∧ t.h ≤ 8 * inner.h := by
  obtain ⟨-, right, xs, ws, -, bottom, lines⟩ := fitRect_fits f (Nat.zero_le (width f)) rfl (Nat.zero_le (height f))
    (fun _ => rfl) crop
  have widths := width_even f
  have heights := height_even f
  obtain ⟨leastw, mostw, halfw⟩ : evenUp ((inner.w + 1) / 2) ≤ width f ∧ evenUp ((inner.w + 1) / 2) ≤ 8 * inner.w
      ∧ inner.w ≤ 2 * evenUp ((inner.w + 1) / 2) := by
    unfold evenUp; omega
  obtain ⟨leasth, mosth, halfh⟩ : leastCropHeight f inner.h ≤ height f ∧ leastCropHeight f inner.h ≤ 8 * inner.h
      ∧ inner.h ≤ 2 * leastCropHeight f inner.h := by
    unfold leastCropHeight evenUp
    split
    · rename_i interlace; have := line interlace; omega
    · omega
  obtain ⟨leastw, mostw, fitsw⟩ := fitCropAxis_fits leastw mostw right
  obtain ⟨leasth, mosth, fitsh⟩ := fitCropAxis_fits leasth mosth bottom
  obtain ⟨evenx, evenw⟩ := fitCropAxis_even (inner := inner.w) widths (evenUp_even ((inner.w + 1) / 2)) xs ws
  refine ⟨⟨Nat.zero_le _, fitsw, evenx, evenw, Nat.zero_le _, fitsh, fun interlace => ?_⟩, ?_, mostw, ?_, mosth⟩
  · have leasts : leastCropHeight f inner.h % 2 = 0 := by rw [leastCropHeight, if_pos interlace, evenUp_even]
    exact fitCropAxis_even heights leasts (lines interlace).1 (lines interlace).2
  · exact halfw.trans (Nat.mul_le_mul_left 2 leastw)
  · exact halfh.trans (Nat.mul_le_mul_left 2 leasth)

theorem clampTo_range {lo hi : Nat} (h : lo ≤ hi) (n : Nat) : lo ≤ clampTo lo hi n ∧ clampTo lo hi n ≤ hi := by
  unfold clampTo; omega

theorem fitColour_legal (c : Colour) : (fitColour c).Legal :=
  have range := fun lo hi (h : lo ≤ hi) n => clampTo_range h n
  ⟨(range 64 940 (by decide) _).1, (range 64 940 (by decide) _).2, (range 64 960 (by decide) _).1,
    (range 64 960 (by decide) _).2, (range 64 960 (by decide) _).1, (range 64 960 (by decide) _).2⟩

/-- The thresholds of a fitted key stand in order (R86). -/
theorem fitOuter_range (i o : Nat) : fitInner i < fitOuter (fitInner i) o ∧ fitOuter (fitInner i) o ≤ 1792 := by
  unfold fitOuter fitInner
  split <;> omega

/-- Whatever is written, what is stored fits the raster (R82 to R87). -/
theorem fitLayout_fitted (l : Layout) : (fitLayout f l).Fitted f := by
  have sizes : 64 ≤ width f ∧ 36 ≤ height f ∧ width f / 4 % 2 = 0 ∧ width f / 4 ≤ width f
      ∧ height f / 4 ≤ height f ∧ (interlaced f = true → height f / 4 % 2 = 0) := by
    cases f <;> decide
  obtain ⟨wide, high, quarter, quarterw, quarterh, line⟩ := sizes
  have programme := fitRect_fits f quarterw quarter quarterh line l.programme
  have window := fitRect_fits f wide rfl high (fun _ => rfl) l.window
  set r := fitRect f 64 36 l.window
  obtain ⟨leastw, right, -, evenw, leasth, bottom, lines⟩ := id window
  obtain ⟨border, bordered, innerw, innerh⟩ := fitBorder_fits (r := r) (by omega) (by omega) (min 16 l.border)
  set b := fitBorder r (min 16 l.border)
  have inner : (inset r b).w = r.w - 2 * b ∧ (inset r b).h = r.h - 2 * b := ⟨rfl, rfl⟩
  obtain ⟨crop, leastx, mostx, leasty, mosty⟩ := fitCrop_fits f (inner := inset r b) (by omega) (by omega) (by omega)
    (by omega) (by omega) (fun interlace => by have := lines interlace; omega) l.crop
  obtain ⟨thresholds, outer⟩ := fitOuter_range l.inner l.outer
  have kb := clampTo_range (show 64 ≤ 960 by decide) l.kb
  have kr := clampTo_range (show 64 ≤ 960 by decide) l.kr
  exact ⟨window, border.trans (Nat.min_le_left _ _), bordered, innerw, innerh, crop, leastx, mostx, leasty, mosty,
    fitColour_legal _, fitColour_legal _, kb.1, kb.2, kr.1, kr.2, thresholds, outer, programme⟩

end

/-! ## Windows made of fitted layouts (R71) -/

/-- The working geometry and the ends of a move fit the raster. -/
def Window.Fitted (w : Window) (f : Format) : Prop :=
  w.geometry.Fitted f ∧ ∀ m ∈ w.move, m.source.Fitted f ∧ m.target.Fitted f

section
variable {w : Window} {f : Format} {presets : Bank 8 Preset} (fitted : w.Fitted f)
  (stored : ∀ i, (presets.pick i).layout.Fitted f)
include fitted

theorem Window.Fitted.endMove : w.endMove.Fitted f := by
  unfold Window.endMove
  split
  · exact fitted
  · rename_i m move
    exact ⟨(fitted.2 m move).2, nofun⟩

theorem Window.Fitted.advanceMove : w.advanceMove.Fitted f := by
  unfold Window.advanceMove
  split
  · exact fitted
  · rename_i m move
    split
    · exact fitted
    · split
      · refine ⟨fitted.1, fun m' hm => ?_⟩
        cases hm
        exact fitted.2 m move
      · exact fitted.endMove

include stored

theorem Window.Fitted.enterOff : (w.enterOff presets).Fitted f := by
  rw [Window.enterOff_eq]
  refine ⟨?_, nofun⟩
  unfold Window.settled
  dsimp only
  split
  · exact stored _
  · cases move : w.move with
    | none => exact fitted.1
    | some m => exact (fitted.2 m move).2

theorem Window.Fitted.react (n : Nat) : (w.react presets n).Fitted f := by
  unfold Window.react
  repeat' split
  case' h_2.isFalse | h_3.isFalse => exact fitted.enterOff stored
  all_goals exact fitted

theorem Window.Fitted.stepRamp : (w.stepRamp presets).Fitted f := by
  have falling := Window.Fitted.enterOff (w := { w with ramp := { w.ramp with count := w.ramp.count + 1 } })
    fitted stored
  unfold Window.stepRamp
  dsimp only
  repeat' split
  case' h_2.isFalse => exact falling
  all_goals exact fitted

theorem Window.Fitted.advanceRamp : (w.advanceRamp presets).Fitted f := by
  unfold Window.advanceRamp
  split
  · exact fitted.stepRamp stored
  · exact fitted

theorem Window.Fitted.takeNow (p : PresetIx) (d : Nat) : (w.takeNow presets p d).Fitted f := by
  unfold Window.takeNow
  split
  · exact ⟨stored p, fitted.2⟩
  · refine ⟨fitted.1, fun m hm => ?_⟩
    cases hm
    exact ⟨fitted.1, stored p⟩

theorem Window.Fitted.takePending : (w.takePending presets).Fitted f := by
  unfold Window.takePending
  split
  · exact Window.Fitted.takeNow (w := { w with pendingLayout := none }) fitted stored _ _
  · exact fitted

end

theorem Window.Fitted.follow {v : Window} {f : Format} {presets : Bank 8 Preset} (fitted : v.Fitted f)
    (stored : ∀ i, (presets.pick i).layout.Fitted f) (w : Window) (n : Nat) :
    (w.follow v presets n).Fitted f := by
  unfold Window.follow
  split
  · exact fitted
  · exact fitted.react stored n

/-! ## What the ramp and the moves leave of a window -/

section
variable (w : Window) (presets : Bank 8 Preset)

theorem Window.endMove_settings : w.endMove.settings = w.settings := by
  unfold Window.endMove
  split <;> rfl

theorem Window.advanceMove_settings : w.advanceMove.settings = w.settings := by
  unfold Window.advanceMove
  repeat' split
  case' h_2.isFalse.isFalse => exact w.endMove_settings
  all_goals rfl

theorem Window.advanceRamp_settings : (w.advanceRamp presets).settings = w.settings := by
  have falling : ∀ v : Window, v.settings = w.settings → (v.enterOff presets).settings = w.settings :=
    fun v same => (v.enterOff_settings presets).trans same
  unfold Window.advanceRamp Window.stepRamp
  dsimp only
  repeat' split
  case' h_2.isFalse => exact falling _ rfl
  all_goals rfl

theorem Window.takeNow_settings (p : PresetIx) (d : Nat) : (w.takeNow presets p d).settings = w.settings := by
  unfold Window.takeNow
  split <;> rfl

theorem Window.takePending_settings : (w.takePending presets).settings = w.settings := by
  unfold Window.takePending
  split
  · exact Window.takeNow_settings _ presets _ _
  · rfl

end

end Sys2Proof.Machine
end

section
/-! PROOFS. What can come about in a channel's window controller, said once: the acts that its window record, its preset
store and the levels its suppression set follows are made of, and the operations that come down to such acts. -/

namespace Sys2Proof.Machine

open Sys2Proof

/-! ## What leaves the SIGNER level and a run alone -/

theorem Calibration.raise_running (x : Calibration) : x.raise.running = x.running := by
  unfold Calibration.raise
  dsimp only
  split <;> rfl

section
variable (x : Synchroniser)

theorem Synchroniser.enter_level (new : LockState) : (x.enter new).level = x.level := by
  unfold Synchroniser.enter
  split <;> rfl

theorem Synchroniser.discard_level : x.discard.level = x.level := by
  unfold Synchroniser.discard
  split <;> rfl

theorem Synchroniser.beginWrite_level : x.beginWrite.level = x.level := by
  unfold Synchroniser.beginWrite
  repeat' split
  all_goals rfl

theorem Synchroniser.measureStart_level (f : Format) (now : Nat) (fresh : Bool) :
    (x.measureStart f now fresh).level = x.level := by
  unfold Synchroniser.measureStart
  repeat' split
  all_goals rfl

theorem Synchroniser.complete_level (n : Nat) (new : LockState) (right : Bool) (p : Picture) :
    (x.complete n new right p).level = x.level := by
  unfold Synchroniser.complete Synchroniser.countUnread Synchroniser.store
  dsimp only
  repeat' split
  all_goals rfl

theorem Synchroniser.choose_level : x.choose.level = x.level := by
  unfold Synchroniser.choose
  repeat' split
  all_goals rfl

end

/-! ## The acts of one channel -/

/-- One act upon a channel's window record, preset store, SIGNER level or running calibration, in a device of the
format given whose contact inputs raise the levels `hold` and `suppress` on it. The rest of the channel is not spoken
of: `aside` is whatever leaves these four alone. -/
inductive ChannelState.WindowAct (f : Format) (hold suppress : Bool) : ChannelState → ChannelState → Prop
  | aside {x y : ChannelState} (window : y.window = x.window) (presets : y.presets = x.presets)
      (level : y.sync.level = x.sync.level) (running : y.calibration.running = x.calibration.running) :
      x.WindowAct f hold suppress y
  /-- The requested state set (R52, R53). -/
  | request (x : ChannelState) (on : Bool) (d : Nat) : x.WindowAct f hold suppress
      (x.setWindow (x.window.follow { x.window with requested := on } x.presets d))
  /-- A port's member joins or leaves the suppression set (R60). -/
  | port (x : ChannelState) (p : PortId) (b : Bool) : x.WindowAct f hold suppress
      (x.setWindow (x.window.follow
        { x.window with suppression := x.window.suppression.put (portMember p) b } x.presets x.window.fade))
  /-- The span result set (R64). -/
  | span (x : ChannelState) (b : Bool) :
      x.WindowAct f hold suppress (x.setWindow (x.window.spanned x.presets b))
  /-- The SIGNER level set (R128). -/
  | signer (x : ChannelState) (b : Bool) : x.WindowAct f hold suppress
      ((x.setSync { x.sync with level := b }).setWindow (x.window.signed x.presets b))
  /-- A calibration run begun or ended (R156, R159). -/
  | run (x : ChannelState) (k : Calibration) : x.WindowAct f hold suppress
      ((x.setCalibration k).setWindow (x.window.follow
        { x.window with suppression := x.window.suppression.put .calibration k.running } x.presets x.window.fade))
  /-- The contact levels taken (R171). -/
  | contact (x : ChannelState) : x.WindowAct f hold suppress (x.contacted hold suppress)
  /-- A layout taken at once (R68). -/
  | take (x : ChannelState) (p : PresetIx) (d : Nat) :
      x.WindowAct f hold suppress (x.setWindow (x.window.takeNow x.presets p d))
  /-- A layout that waits (R70). -/
  | wait (x : ChannelState) (q : PendingLayout)
      (waits : x.window.move.isSome = true ∨ x.window.pendingLayout.isSome = true) :
      x.WindowAct f hold suppress (x.setWindow { x.window with pendingLayout := some q })
  /-- The spans and the suppression fade written (R61, R65, R67). -/
  | write (x : ChannelState) (spans : Bank 4 Span) (fade : Nat) :
      x.WindowAct f hold suppress (x.setWindow { x.window with spans := spans, fade := fade })
  | advanceRamp (x : ChannelState) :
      x.WindowAct f hold suppress (x.setWindow (x.window.advanceRamp x.presets))
  | takePending (x : ChannelState) :
      x.WindowAct f hold suppress (x.setWindow (x.window.takePending x.presets))
  | advanceMove (x : ChannelState) : x.WindowAct f hold suppress (x.setWindow x.window.advanceMove)
  /-- A preset written (R82). -/
  | preset (x : ChannelState) (i : PresetIx) (l : Layout) (p : Option PortId) :
      x.WindowAct f hold suppress (x.setPresets (x.presets.put i { layout := fitLayout f l, writer := p }))
  /-- The channel reset (R79, R163, R192). -/
  | reset (x : ChannelState) (d : DelayLine) : x.WindowAct f hold suppress (x.channelReset
      (Window.afterReset (x.presets.pick 0).layout x.window.fade suppress x.sync.level hold) d)

/-- Any number of acts upon one channel. -/
abbrev ChannelState.WindowActs (f : Format) (hold suppress : Bool) : ChannelState → ChannelState → Prop :=
  Relation.ReflTransGen (ChannelState.WindowAct f hold suppress)

/-- The hand-off at a period start: the ramp, the pending layout and the move, each by its act (R77). -/
theorem ChannelState.WindowActs.advance (f : Format) (hold suppress : Bool) (x : ChannelState) :
    x.WindowActs f hold suppress (x.setWindow (x.window.advance x.presets)) :=
  have ramp : x.WindowAct f hold suppress (x.setWindow (x.window.advanceRamp x.presets)) := .advanceRamp x
  have pending : (x.setWindow (x.window.advanceRamp x.presets)).WindowAct f hold suppress
      (x.setWindow ((x.window.advanceRamp x.presets).takePending x.presets)) :=
    .takePending (x.setWindow (x.window.advanceRamp x.presets))
  ((Relation.ReflTransGen.single ramp).tail pending).tail
    (.advanceMove (x.setWindow ((x.window.advanceRamp x.presets).takePending x.presets)))

/-- The slew interval and the suppression fade stored (R61, R148). -/
theorem ChannelState.WindowActs.configure (f : Format) (hold suppress : Bool) (x : ChannelState) (slew fade : Nat) :
    x.WindowActs f hold suppress
      ((x.setDelay { x.delay with slewInterval := slew }).setWindow { x.window with fade := fade }) :=
  have slewing : x.WindowAct f hold suppress (x.setDelay { x.delay with slewInterval := slew }) :=
    .aside rfl rfl rfl rfl
  Relation.ReflTransGen.tail (.single slewing)
    (.write (x.setDelay { x.delay with slewInterval := slew }) x.window.spans fade)

/-- Between two states the format and the contact inputs stay, and each channel has gone through acts upon it. -/
structure State.WindowActs (s t : State) : Prop where
  format : t.format = s.format
  gpis : t.gpis = s.gpis
  chan : ∀ c, (s.chan c).WindowActs s.format (s.contactLevel .hold c) (s.contactLevel .suppress c) (t.chan c)

/-- One act upon a channel, with the format and the contact levels of the state. -/
abbrev State.ActsOn (s : State) (c : Channel) : ChannelState → ChannelState → Prop :=
  ChannelState.WindowAct s.format (s.contactLevel .hold c) (s.contactLevel .suppress c)

namespace State.WindowActs

section
variable {s t u : State}

theorem refl (s : State) : s.WindowActs s := ⟨rfl, rfl, fun _ => .refl⟩

theorem trans (h : s.WindowActs t) (g : t.WindowActs u) : s.WindowActs u := by
  refine ⟨g.format.trans h.format, g.gpis.trans h.gpis, fun c => (h.chan c).trans ?_⟩
  have acts := g.chan c
  rwa [h.format, State.contactLevel_congr h.gpis, State.contactLevel_congr h.gpis] at acts

theorem foldl {α : Type} {f : State → α → State} (h : ∀ (s : State) a, s.WindowActs (f s a)) (l : List α)
    (s : State) : s.WindowActs (l.foldl f s) := by
  induction l generalizing s with
  | nil => exact .refl s
  | cons a l ih => exact (h s a).trans (ih _)

theorem eachChannel {f : Channel → State → State} (h : ∀ c (s : State), s.WindowActs (f c s)) (s : State) :
    s.WindowActs (s.eachChannel f) :=
  State.WindowActs.foldl (fun s c => h c s) _ s

/-- What leaves the window controller's part of every channel alone. -/
theorem aside (timing : t.timing = s.timing) (gpis : t.gpis = s.gpis)
    (window : ∀ c, (t.chan c).window = (s.chan c).window)
    (presets : ∀ c, (t.chan c).presets = (s.chan c).presets)
    (sync : ∀ c, (t.chan c).sync.level = (s.chan c).sync.level)
    (running : ∀ c, (t.chan c).calibration.running = (s.chan c).calibration.running) : s.WindowActs t :=
  ⟨congrArg Timing.format timing, gpis, fun c => .single (.aside (window c) (presets c) (sync c) (running c))⟩

/-- What changes one channel by acts upon it. -/
theorem of_chan {c : Channel} {x : ChannelState} (timing : t.timing = s.timing) (gpis : t.gpis = s.gpis)
    (chan : ∀ d, t.chan d = if d = c then x else s.chan d)
    (acts : Relation.ReflTransGen (s.ActsOn c) (s.chan c) x) : s.WindowActs t := by
  refine ⟨congrArg Timing.format timing, gpis, fun d => ?_⟩
  rw [chan]
  split
  · rename_i own; subst own; exact acts
  · exact .refl

theorem of_became {c : Channel} {x : ChannelState} {posted : Latch → Prop} (h : s.Became t c x posted)
    (act : s.ActsOn c (s.chan c) x) : s.WindowActs t :=
  .of_chan h.timing h.inner.2.1 h.chan (.single act)

theorem modChan {c : Channel} {f : ChannelState → ChannelState} (act : s.ActsOn c (s.chan c) (f (s.chan c))) :
    s.WindowActs (s.modChan c f) :=
  .of_became (.modChan s c f) act

/-- A change of one channel that leaves its window controller's part alone. -/
theorem modAside (c : Channel) {f : ChannelState → ChannelState} (window : (f (s.chan c)).window = (s.chan c).window)
    (presets : (f (s.chan c)).presets = (s.chan c).presets)
    (level : (f (s.chan c)).sync.level = (s.chan c).sync.level)
    (running : (f (s.chan c)).calibration.running = (s.chan c).calibration.running) : s.WindowActs (s.modChan c f) :=
  .modChan (.aside window presets level running)

end

theorem postAll (s : State) (l : Latch) : s.WindowActs (s.postAll l) :=
  .aside rfl rfl (fun _ => by simp) (fun _ => by simp) (fun _ => by simp) fun _ => by simp

/-! ## The window controller's own operations -/

section
variable (s : State) (c : Channel)

theorem port (p : PortId) (b : Bool) : s.WindowActs (s.setMember c (portMember p) b) :=
  .of_became (.setMember s c _ b) (.port (s.chan c) p b)

theorem suppressChannel (p : PortId) (action : Nat) : s.WindowActs (s.suppressChannel p action c) := by
  unfold State.suppressChannel
  split
  · exact .port s c p true
  · exact .port s c p false
  · exact .trans (.trans (.port s c .a false) (.port _ c .b false)) (.port _ c .c false)

theorem setSpanResult (b : Bool) : s.WindowActs (s.setSpanResult c b) :=
  .of_became (.setSpanResult s c b) (.span (s.chan c) b)

theorem matchSpans (r : StepReport) : s.WindowActs (s.matchSpans c r) := by
  unfold State.matchSpans
  split
  · exact .refl s
  · exact .setSpanResult s c _

theorem respan : s.WindowActs (s.respan c) := by
  unfold State.respan
  dsimp only
  repeat' split
  · exact .refl s
  · exact .setSpanResult s c _
  · exact .setSpanResult s c _

theorem request (on : Bool) (d : Nat) : s.WindowActs (s.request c on d) := .modChan (.request (s.chan c) on d)

theorem addOutcome (h : Handle) (a : Action) (o : PortId) (r : Result) : s.WindowActs (s.addOutcome c h a o r) :=
  .aside (by simp) (by simp) (by simp) (by simp) (by simp) (by simp)

theorem takeLayout (p : PresetIx) (d : Nat) (cue : Option (Handle × PortId)) :
    s.WindowActs (s.takeLayout c p d cue) := by
  by_cases waits : (s.chan c).window.move.isSome = true ∨ (s.chan c).window.pendingLayout.isSome = true
  · have waiting : s.WindowActs (s.layoutWaits c p d cue) :=
      .modChan (.wait (s.chan c) { preset := p, duration := d, cue := cue } waits)
    cases old : (s.chan c).window.pendingLayout.bind (·.cue) with
    | none =>
      rw [State.takeLayout_wait p d cue waits old]
      exact waiting
    | some x =>
      rw [State.takeLayout_supersede p d cue waits old]
      exact waiting.trans (.addOutcome ..)
  · obtain ⟨move, pending⟩ := not_or.1 waits
    rw [Option.not_isSome_iff_eq_none] at move pending
    rw [State.takeLayout_now p d cue move pending]
    exact .modChan (.take (s.chan c) p d)

theorem windowIn (d : Nat) (p : Option PresetIx) : s.WindowActs (s.windowIn c d p) := by
  unfold State.windowIn
  split
  · exact .request s c true d
  · exact (State.WindowActs.takeLayout s c _ d none).trans (.request _ c true d)

theorem takeContact : s.WindowActs (s.takeContact c) :=
  .of_became (.modChan_setMember s c
    (fun x => x.setWindow { x.window with contactHold := s.contactLevel .hold c }) .contact _) (.contact (s.chan c))

theorem takeContacts : s.WindowActs s.takeContacts := .eachChannel (fun c t => .takeContact t c) s

/-! ## The calibration unit (R159) -/

theorem postDone : s.WindowActs (s.postDone c) :=
  .aside (by simp) (by simp) (by simp) (by simp) (by simp) (by simp)

theorem endRun (r : RunResult) : s.WindowActs (s.endRun c r) := by
  have ended : s.WindowActs ((s.modChan c fun x => x.setCalibration (x.calibration.finish r)).setMember c
      .calibration false) :=
    .of_became (.modChan_setMember s c (fun x => x.setCalibration (x.calibration.finish r)) .calibration false)
      (.run (s.chan c) ((s.chan c).calibration.finish r))
  exact ended.trans (.postDone _ c)

theorem endRunOk : s.WindowActs (s.endRunOk c) := by
  have measured : s.WindowActs (s.modChan c fun x => x.setCalibration
      { x.calibration with lastMeasured := some x.calibration.largest, latency := x.calibration.largest }) :=
    .modAside c rfl rfl rfl rfl
  have retargeted : ∀ t : State, t.WindowActs (t.targetEvent c) := fun t =>
    .aside (by simp) (by simp) (by simp) (by simp) (by simp) (by simp)
  exact (measured.trans (retargeted _)).trans (.endRun _ c .ok)

theorem countRun : s.WindowActs (s.countRun c) := by
  unfold State.countRun
  dsimp only
  repeat' split
  · exact .modAside c rfl rfl rfl rfl
  · exact .trans (.modAside c rfl rfl rfl rfl) (.endRun _ c .timeout)
  · exact .modAside c rfl rfl rfl (Calibration.raise_running _)

theorem receiveMarker (ch seq : Nat) : s.WindowActs (s.receiveMarker c ch seq) := by
  unfold State.receiveMarker
  dsimp only
  repeat' split
  · exact .refl s
  · exact .refl s
  · exact .trans (.modAside c rfl rfl rfl rfl) (.endRunOk _ c)
  · exact .modAside c rfl rfl rfl rfl

/-! ## The signer synchroniser (R122, R128) -/

theorem setLevel (b : Bool) : s.WindowActs (s.setLevel c b) :=
  .of_became (.setLevel s c b) (.signer (s.chan c) b)

theorem endOnLoss (old new : LockState) : s.WindowActs (s.endOnLoss c old new) := by
  unfold State.endOnLoss
  split
  · exact .endRun s c .signal
  · exact .refl s

theorem setLock (new : LockState) (h : HandOver) : s.WindowActs (s.setLock c new h) := by
  have began : s.WindowActs ((s.modChan c fun y => y.setSync ((s.chan c).sync.enter new)).postAll
      (.channel .signerChange c)) :=
    .trans (.modAside c rfl rfl (Synchroniser.enter_level _ new) rfl) (.postAll _ _)
  unfold State.setLock
  dsimp only
  split
  · exact .refl s
  · cases h with
    | windowFirst => exact (began.trans (.setLevel _ c _)).trans (.endOnLoss _ c _ new)
    | calibrationFirst => exact (began.trans (.endOnLoss _ c _ new)).trans (.setLevel _ c _)

theorem signalUp : s.WindowActs (s.signalUp c) := by
  have up : s.WindowActs (s.modChan c fun x => x.setSync { x.sync with signal := true }) :=
    .modAside c rfl rfl rfl rfl
  unfold State.signalUp
  dsimp only
  split
  · exact up.trans (.setLock _ c _ _)
  · exact up

theorem resumeSignals (present : Channel → Bool) : s.WindowActs (s.resumeSignals present) := by
  refine .eachChannel (fun c t => ?_) s
  split
  · exact .signalUp t c
  · exact .refl t

theorem signalDown : s.WindowActs (s.modChan c fun x =>
    x.setSync { x.sync.discard with signal := false, lastStart := none }) :=
  .modAside c rfl rfl (Synchroniser.discard_level _) rfl

theorem pictureStart (now : Nat) (fresh : Bool) : s.WindowActs
    ((if fresh then
      (s.modChan c fun x => x.setSync x.sync.discard).setLock c .acquiring .windowFirst
      else s.modChan c fun x => x.setSync x.sync.discard).modChan c
        fun x => x.setSync (x.sync.measureStart s.format now fresh).beginWrite) := by
  have discard : s.WindowActs (s.modChan c fun x => x.setSync x.sync.discard) :=
    .modAside c rfl rfl (Synchroniser.discard_level _) rfl
  have begun : ∀ x : Synchroniser, (x.measureStart s.format now fresh).beginWrite.level = x.level := fun x =>
    (Synchroniser.beginWrite_level _).trans (x.measureStart_level s.format now fresh)
  refine .trans ?_ (.modAside c rfl rfl (begun _) rfl)
  split
  · exact discard.trans (.setLock _ c _ _)
  · exact discard

theorem completePicture (right : Bool) (p : Picture) (h : HandOver) (i : Incoming) :
    s.WindowActs (s.completePicture c right p h i) :=
  .trans (.modAside c rfl rfl (Synchroniser.complete_level _ _ _ right p) rfl) (.setLock _ c _ h)

theorem chooseSigner (h : HandOver) : s.WindowActs (s.chooseSigner c h) := by
  refine .trans (.modAside c rfl rfl ?_ rfl) (.setLock _ c _ h)
  split
  · exact Synchroniser.choose_level _
  · exact Synchroniser.choose_level _

theorem raiseHolding (h : HandOver) : s.WindowActs (s.raiseHolding c h) := by
  have raised : s.WindowActs (s.modChan c fun y =>
      y.setSync { (s.chan c).sync with holding := (s.chan c).sync.holding + 1 }) :=
    .modAside c rfl rfl rfl rfl
  unfold State.raiseHolding
  dsimp only
  split
  · exact raised.trans (.setLock _ c .lost h)
  · exact raised

theorem syncPeriod (picture : Bool) (h : HandOver) : s.WindowActs (s.syncPeriod c picture h) := by
  have latched : ∀ t : State, s.WindowActs t → s.WindowActs
      ((if (s.chan c).sync.lock = .holding ∧ (t.chan c).sync.lock = .holding then t.raiseHolding c h else t).modChan c
        fun x => x.setLatches { x.latches with signer := x.sync.current }) := by
    intro t chosen
    refine .trans ?_ (.modAside c rfl rfl rfl rfl)
    split
    · exact chosen.trans (.raiseHolding t c h)
    · exact chosen
  refine latched _ ?_
  split
  · exact .chooseSigner s c h
  · exact .refl s

/-! ## The cue table (R36 to R45) -/

theorem modScheduler (f : Scheduler → Scheduler) : s.WindowActs (s.modScheduler c f) :=
  .aside rfl rfl (by simp) (by simp) (by simp) (by simp)

theorem retire (i : SlotIx) (k : Cue) (r : Result) : s.WindowActs (s.retire c i k r) :=
  .aside (by simp) (by simp) (by simp) (by simp) (by simp) (by simp)

theorem deliver (h : Handle) (k : Cue) : s.WindowActs (s.deliver c h k) := by
  unfold State.deliver
  split
  · exact .windowIn s c _ _
  · exact .request s c false _
  · split
    · exact .refl s
    · exact .takeLayout s c _ _ _
  · exact .aside (by simp) (by simp) (by simp) (by simp) (by simp) (by simp)

theorem fireCue (r : Result) (i : SlotIx) : s.WindowActs (s.fireCue c r i) := by
  unfold State.fireCue
  split
  · exact .refl s
  · exact (State.WindowActs.retire s c i _ r).trans (.deliver _ c _ _)

theorem scanCues (r : StepReport) : s.WindowActs (s.scanCues c r) := by
  have fired : ∀ (l : List SlotIx) (result : Result) (t : State),
      t.WindowActs (l.foldl (fun u i => u.fireCue c result i) t) :=
    fun l result t => .foldl (fun u i => .fireCue u c result i) l t
  have dealt : ∀ (t : State) x l, t.WindowActs (t.dealPassed c x l) := fun t x l => by
    unfold State.dealPassed
    split
    · exact fired l _ t
    · exact .foldl (fun u i => .aside (by simp) (by simp) (by simp) (by simp) (by simp) (by simp)) l t
  unfold State.scanCues
  dsimp only
  exact (((fired _ _ s).trans (dealt _ _ _)).trans (fired _ _ _)).trans (.modAside c rfl rfl rfl rfl)

theorem reportCues : s.WindowActs (s.reportCues c) := by
  unfold State.reportCues State.scheduleCues
  split
  · exact .refl s
  · split
    · exact .refl s
    · exact .scanCues s c _

theorem reportSpans : s.WindowActs (s.reportSpans c) := by
  unfold State.reportSpans
  split
  · exact .refl s
  · exact .matchSpans s c _

theorem reportClock (new : CueClock) (kind : FrameKind) : s.WindowActs (s.reportClock c new kind) :=
  .aside (by simp) (by simp) (by simp) (by simp) (by simp) (by simp)

theorem deliverReport (order : ReportOrder) : s.WindowActs (s.deliverReport c order) := by
  cases order with
  | cuesFirst => exact (State.WindowActs.reportCues s c).trans (.reportSpans _ c)
  | spansFirst => exact (State.WindowActs.reportSpans s c).trans (.reportCues _ c)

theorem fireEdge (g : GpiIx) : s.WindowActs (s.fireEdge g c) := by
  unfold State.fireEdge
  repeat' split
  · exact .refl s
  · exact .refl s
  · exact .fireCue s c _ _

theorem fireEdges (g : GpiIx) (edges : List Channel) : s.WindowActs (s.fireEdges g edges) := by
  unfold State.fireEdges
  split
  · exact .foldl (fun t c => .fireEdge t c g) _ s
  · exact .refl s

/-! ## The output frame start and the period start (R1, R77) -/

theorem frameTask (inputs : Bank 4 (List InputFrame)) (k : FrameTask) : s.WindowActs (s.frameTask inputs k) := by
  cases k with
  | delay c => exact .aside (by simp) (by simp) (by simp [State.frameTask]) (by simp) (by simp) (by simp)
  | cues c => exact .reportCues s c
  | spans c => exact .reportSpans s c

theorem windowPeriod : s.WindowActs (s.windowPeriod c) := by
  have advanced := (ChannelState.WindowActs.advance s.format (s.contactLevel .hold c) (s.contactLevel .suppress c)
    (s.chan c)).tail (.aside (y := ((s.chan c).setWindow ((s.chan c).window.advance (s.chan c).presets)).latch
      s.format s.timing.secondPeriod) rfl rfl rfl rfl)
  refine .of_chan (c := c) (by simp) (by simp) (fun d => ?_) advanced
  unfold State.windowPeriod
  rw [State.updateTallies_chan, State.modChan_chan]

/-! ## CHANNEL_CONFIG and CHANNEL_RESET (R191, R192) -/

theorem setSource (source : Source) : s.WindowActs (s.setSource c source) :=
  .of_became (.setSource s c source) (.aside rfl rfl rfl rfl)

theorem convertCues (old new : DropMode) : s.WindowActs (s.convertCues c old new) := by
  have one : ∀ (t : State) (i : SlotIx), t.WindowActs (t.convertCue old new i) := fun t i => by
    unfold State.convertCue
    repeat' split
    all_goals exact .aside rfl rfl (fun _ => rfl) (fun _ => rfl) (fun _ => rfl) fun _ => rfl
  have converted := State.WindowActs.foldl (fun t i => one t i) (s.chan c).scheduler.timed s
  unfold State.convertCues
  exact converted.trans (.modScheduler _ c _)

theorem changeDropMode (mode : DropMode) : s.WindowActs (s.changeDropMode c mode) := by
  have changed : ∀ k, s.WindowActs (s.modChan c fun x => x.setClock k) := fun k => .modAside c rfl rfl rfl rfl
  unfold State.changeDropMode
  dsimp only
  split
  · exact changed _
  · exact (changed _).trans (.postAll _ _)

theorem convertSpans (old new : DropMode) : s.WindowActs (s.convertSpans c old new) := by
  have converted : s.WindowActs (s.modChan c fun x => x.setWindow
      { x.window with spans := x.window.spans.map fun y => y.convert s.format old new }) :=
    .modChan (.write (s.chan c) _ (s.chan c).window.fade)
  unfold State.convertSpans
  dsimp only
  split
  · exact converted
  · exact converted.trans (.setSpanResult _ c _)

theorem setDropMode (mode : DropMode) : s.WindowActs (s.setDropMode c mode) := by
  unfold State.setDropMode
  dsimp only
  repeat' split
  · exact .refl s
  · exact ((State.WindowActs.convertCues s c _ mode).trans (.changeDropMode _ c mode)).trans
      (.convertSpans _ c _ mode)
  · exact .modAside c rfl rfl rfl rfl

theorem configure (k : Configuration) : s.WindowActs (s.configure c k) := by
  have moded := (State.WindowActs.setSource s c k.source).trans (.setDropMode _ c k.dropMode)
  have policy : ∀ t : State, t.WindowActs (t.setPolicy c k.policy) := fun t =>
    .trans (.modAside c rfl rfl rfl rfl) (.setLevel _ c _)
  have limited : ∀ t : State, t.WindowActs (t.modChan c fun x =>
      ((x.setClock { x.clock with freewheelLimit := k.freewheelLimit }).setScheduler
        { x.scheduler with lateTolerance := k.lateTolerance }).setSync { x.sync with holdLimit := k.holdLimit }) :=
    fun t => .modAside c rfl rfl rfl rfl
  have stored : ∀ t : State, t.WindowActs (t.modChan c fun x =>
      (x.setDelay { x.delay with slewInterval := k.slewInterval }).setWindow { x.window with fade := k.fade }) :=
    fun t => .of_chan (c := c) rfl rfl (fun d => State.modChan_chan ..)
      (ChannelState.WindowActs.configure _ _ _ (t.chan c) k.slewInterval k.fade)
  unfold State.configure
  exact ((moded.trans (limited _)).trans (policy _)).trans (stored _)

theorem resetOne : s.WindowActs (s.resetOne c) := by
  obtain ⟨timing, gpis, -, -⟩ := State.Inner.resetOne s c
  obtain ⟨e, -, chan⟩ := s.resetOne_chan c
  exact .of_chan timing gpis chan (.single (.reset (s.chan c) e))

end

end State.WindowActs

end Sys2Proof.Machine
end

section
/-! PROOFS. What a step can do to the window controllers, said once: acts upon the channels, contact inputs sampled or
bound, the format set, and a reset of the device. -/

namespace Sys2Proof.Machine

open Sys2Proof

namespace State.WindowActs

/-! ## Timing -/

theorem setTiming (s : State) {k : Timing} (format : k.format = s.timing.format) : s.WindowActs (s.setTiming k) :=
  ⟨format, rfl, fun _ => .refl⟩

theorem setReference (s : State) {k : Timing} (format : k.format = s.timing.format) :
    s.WindowActs (s.setReference k) := by
  unfold State.setReference
  split
  · exact .setTiming s format
  · exact (State.WindowActs.setTiming s format).trans (.postAll _ _)

theorem relock (s : State) : s.WindowActs s.relock := by
  have stepped := State.WindowActs.setTiming s s.timing.relockStep_format
  unfold State.relock
  dsimp only
  split
  · exact stepped.trans (.postAll _ _)
  · exact stepped

/-! ## The requests -/

section
variable (s : State) (p : PortId)

theorem windowSet (ch direction : Byte) (duration : Half) (flag preset : Byte) :
    s.WindowActs (windowSet ch direction duration flag preset s).1 := by
  unfold Machine.windowSet
  repeat' split
  all_goals dsimp only
  · exact .refl s
  · exact .refl s
  · exact .windowIn s _ _ _
  · exact .request s _ false _
  · exact .windowIn s _ _ none
  · exact .refl s

theorem suppress (mask action : Byte) : s.WindowActs (suppress p mask action s).1 := by
  have each : ∀ m : Bank 4 Bool, s.WindowActs (s.eachChannel fun c t =>
      if m.pick c then t.suppressChannel p action.toNat c else t) := by
    refine fun m => .eachChannel (fun c t => ?_) s
    split
    · exact .suppressChannel t c p _
    · exact .refl t
  unfold Machine.suppress
  repeat' split
  · exact .refl s
  · exact .refl s
  · exact .refl s
  · exact each _

theorem spanSet (ch index enable mode : Byte) (start stop : LabelBytes) :
    s.WindowActs (spanSet p ch index enable mode start stop s).1 := by
  unfold Machine.spanSet
  repeat' split
  · exact .trans (.modChan (.write (s.chan _) _ (s.chan _).window.fade)) (.respan _ _)
  · exact .refl s
  · exact .refl s

theorem calibrate (ch : Byte) : s.WindowActs (calibrate p ch s).1 := by
  unfold Machine.calibrate
  dsimp only
  repeat' split
  · exact .refl s
  · exact .refl s
  · exact .refl s
  · exact .refl s
  · rename_i c _ _ _ _
    exact .of_became (.modChan_setMember s c (fun y => y.setCalibration (y.calibration.accept p)) .calibration true)
      (.run (s.chan c) ((s.chan c).calibration.accept p))

theorem cueClear (ch scope : Byte) : s.WindowActs (cueClear p ch scope s).1 := by
  unfold Machine.cueClear
  repeat' split
  · exact .refl s
  · exact .foldl (fun t i => .aside (by simp) (by simp) (by simp) (by simp) (by simp) (by simp)) _ s
  · exact .refl s

theorem cueHold (mask action : Byte) : s.WindowActs (cueHold p mask action s).1 := by
  have each : ∀ m : Bank 4 Bool, s.WindowActs (s.eachChannel fun c t =>
      if m.pick c then t.modScheduler c fun k => k.setHold (holdAfter k.hold p action.toNat) else t) := by
    refine fun m => .eachChannel (fun c t => ?_) s
    split
    · exact .modScheduler t c _
    · exact .refl t
  unfold Machine.cueHold
  repeat' split
  · exact .refl s
  · exact .refl s
  · exact .refl s
  · exact each _

theorem presetWrite (ch index : Byte) (f : PresetFields) : s.WindowActs (presetWrite p ch index f s).1 := by
  unfold Machine.presetWrite
  split
  · exact .modChan (f := fun x => x.setPresets (x.presets.put _ _)) (.preset (s.chan _) _ _ (some p))
  · exact .refl s

/-- Every request but FORMAT_SET and GPI_BIND comes down to acts upon the channels. -/
theorem requestOwner {r : Request} (format : ∀ f, r ≠ .formatSet f) (gpi : ∀ g m k o d, r ≠ .gpiBind g m k o d) :
    s.WindowActs (requestOwner p r s).1 := by
  cases r
  case formatSet f => exact absurd rfl (format f)
  case gpiBind g m k o d => exact absurd rfl (gpi g m k o d)
  case windowSet ch direction duration flag preset => exact .windowSet s ch direction duration flag preset
  case layoutSelect ch preset duration =>
    simp only [Machine.requestOwner, layoutSelect]
    split
    · exact .takeLayout s _ _ _ none
    · exact .refl s
  case suppress mask action => exact .suppress s p mask action
  case spanSet ch index enable mode start stop => exact .spanSet s p ch index enable mode start stop
  case calibrate ch => exact .calibrate s p ch
  case cueClear ch scope => exact .cueClear s p ch scope
  case cueHold mask action => exact .cueHold s p mask action
  case presetWrite ch index f => exact .presetWrite s p ch index f
  case syncStatsRead ch clear =>
    simp only [Machine.requestOwner]
    obtain same | ⟨c, cleared⟩ := syncStatsRead_cases ch clear s
    · rw [same]; exact .refl s
    · rw [cleared]; exact .modAside c rfl rfl rfl rfl
  case channelConfig ch f =>
    simp only [Machine.requestOwner]
    obtain same | ⟨c, k, -, -, stored⟩ := channelConfig_cases ch f s
    · rw [same]; exact .refl s
    · rw [stored]; exact .configure s c k
  case channelReset ch =>
    simp only [Machine.requestOwner]
    obtain same | ⟨c, reset⟩ := channelReset_cases ch s
    · rw [same]; exact .refl s
    · rw [reset]; exact .resetOne s c
  all_goals
    simp only [Machine.requestOwner, statusRead, attentionRead, attentionMask, cueAdd, cueModify, cueDelete,
      cueListRead, cueSkipNext, outcomeRead, presetRead, spanRead, lagSet, boothLatencySet, clockPreset, tallySet,
      configRead, State.placeCue, State.replaceCue]
    repeat' split
    all_goals refine .aside (by simp) (by simp) (fun c => ?_) (fun c => ?_) (fun c => ?_) fun c => ?_
    all_goals simp [State.modChan_chan]
    all_goals split
    all_goals simp_all

end

end State.WindowActs

/-! ## The events -/

/-- A channel whose window controller's part is as a reset of the device leaves it (R79, R91, R135, R167). -/
def ChannelState.Cleared (x : ChannelState) (f : Format) : Prop :=
  x.window = resetWindow (defaultPreset f) 12 ∧ x.presets = defaultPresets f ∧ x.sync.level = false
    ∧ x.calibration.running = false

/-- What comes about in the window controllers of the device: acts upon the channels; a contact input replaced, which
either changes no level or is followed by acts and the taking of the levels; the format put in force; and a reset that
leaves every window controller as at power-on and every contact input unbound. -/
inductive State.WindowEvent : State → State → Prop
  | acts {s t : State} (acts : s.WindowActs t) : s.WindowEvent t
  | sampled (s : State) (g : GpiIx) (x : Gpi)
      (levels : ∀ m c, (s.setGpi g x).contactLevel m c = s.contactLevel m c) : s.WindowEvent (s.setGpi g x)
  | contacts (s : State) (g : GpiIx) (x : Gpi) {t : State} (acts : (s.setGpi g x).WindowActs t) :
      s.WindowEvent t.takeContacts
  | format (s : State) (f : Format) : s.WindowEvent (s.formatted f)
  | reset (s : State) {t : State} (unbound : ∀ g, (t.gpi g).mode = .none) (cleared : ∀ c, (t.chan c).Cleared t.format) :
      s.WindowEvent t

/-- Any number of such events, one after another. -/
abbrev State.WindowEvents : State → State → Prop := Relation.ReflTransGen State.WindowEvent

theorem State.WindowActs.events {s t : State} (h : s.WindowActs t) : s.WindowEvents t := .single (.acts h)

theorem State.WindowEvents.foldl {α : Type} {f : State → α → State} (h : ∀ (s : State) a, s.WindowEvents (f s a))
    (l : List α) (s : State) : s.WindowEvents (l.foldl f s) := by
  induction l generalizing s with
  | nil => exact .refl
  | cons a l ih => exact (h s a).trans (ih _)

section
variable (s : State)

/-- A sample that leaves the debounced state leaves every level (R169, R171). -/
theorem State.contactLevel_setGpi {g : GpiIx} {x : Gpi} (mode : x.mode = (s.gpi g).mode)
    (mask : x.mask = (s.gpi g).mask) (level : x.level = (s.gpi g).level) (m : GpiMode) (c : Channel) :
    (s.setGpi g x).contactLevel m c = s.contactLevel m c := by
  unfold State.contactLevel
  refine congrArg (gpiIndices.any ·) (funext fun h => ?_)
  rw [State.setGpi_gpi]
  split
  · rename_i own; rw [own, mode, mask, level]
  · rfl

theorem sampleGpi_windowEvent (g : GpiIx) (v : Contact) (edges : List Channel) :
    s.WindowEvent (s.sampleGpi g v edges) := by
  have edge : (s.setGpi g ((s.gpi g).sample v)).WindowActs ((s.setGpi g ((s.gpi g).sample v)).fireEdges g edges) :=
    .fireEdges _ g edges
  unfold State.sampleGpi
  dsimp only
  split
  · rename_i same
    have level : ((s.gpi g).sample v).level = (s.gpi g).level := by
      simp only [Gpi.level, same]
      rfl
    have levels := s.contactLevel_setGpi (g := g) (x := (s.gpi g).sample v) rfl rfl level
    exact State.WindowEvent.sampled s g _ levels
  · exact State.WindowEvent.contacts s g _ edge

theorem periodTask_windowEvent (contacts : Bank 8 Contact) (picture : Bool) (k : PeriodTask) :
    s.WindowEvent (s.periodTask contacts picture k) := by
  cases k with
  | synchronise c h => exact .acts (.syncPeriod s c picture h)
  | contact g edges => exact sampleGpi_windowEvent s g _ edges
  | calibrate c => exact .acts (.countRun s c)
  | window c => exact .acts (.windowPeriod s c)

theorem gpiBind_windowEvents (gpi mode mask polarity debounce : Byte) :
    s.WindowEvents (gpiBind gpi mode mask polarity debounce s).1 := by
  have bound : ∀ g x, s.WindowEvents (s.setGpi g x).takeContacts := fun g x =>
    .single (State.WindowEvent.contacts s g x (.refl _))
  unfold gpiBind
  repeat' split
  all_goals dsimp only
  · exact .refl
  · exact bound _ _
  · exact .refl

/-- The format put in force, and then signal up where a stream is present (R5, R119). -/
theorem setFormat_windowEvents (f : Format) : s.WindowEvents (s.setFormat f) := by
  have posted : (s.formatted f).WindowActs ((s.formatted f).postClockChanges s (s.formatted f)) := by
    refine .eachChannel (fun c v => ?_) _
    split
    · exact .refl v
    · exact .postAll v _
  rw [State.setFormat_eq]
  exact .head (.format s f) ((posted.trans (.postAll _ _)).trans (.resumeSignals _ _)).events

theorem requestOwner_windowEvents (p : PortId) (r : Request) : s.WindowEvents (requestOwner p r s).1 := by
  cases r
  case gpiBind g m k o d => exact gpiBind_windowEvents s g m k o d
  case formatSet f =>
    simp only [requestOwner]
    obtain same | ⟨f', set⟩ := formatSet_cases f s
    · rw [same]
    · rw [set]; exact setFormat_windowEvents s f'
  all_goals exact (State.WindowActs.requestOwner s p (by simp) (by simp)).events

theorem powerOn_windowEvents (straps : Straps) :
    s.WindowEvents ((s.powerOnBase straps).resumeSignals fun c => (s.chan c).sync.signal) := by
  refine .head (.reset s (t := s.powerOnBase straps) (fun g => ?_) fun c => ?_)
    (State.WindowActs.resumeSignals _ _).events
  · have unbound : ((State.powerOn straps).gpi g).mode = .none := by rw [State.powerOn_gpi]; rfl
    exact unbound
  · rw [State.powerOnBase_chan]
    exact ⟨rfl, rfl, rfl, rfl⟩

theorem resetDevice_windowEvents : s.WindowEvents s.resetDevice := by
  rw [State.resetDevice_eq]
  refine .head (.reset s (t := s.deviceBase) (fun g => ?_) fun c => ?_) (State.WindowActs.resumeSignals _ _).events
  · simp [State.deviceBase, State.gpi, resetGpi]
  · rw [State.deviceBase_chan]
    exact ⟨rfl, rfl, rfl, rfl⟩

end

theorem State.Event.windowEvents {s t : State} (event : s.Event t) : s.WindowEvents t := by
  have acts : ∀ {t : State}, s.WindowActs t → s.WindowEvents t := fun h => h.events
  cases event
  case stay => exact .refl
  case powerOn straps => exact powerOn_windowEvents s straps
  case judge now => exact acts (.setReference s (s.timing.judge_format now))
  case timeout locked => exact acts (.setReference s s.timing.free_format)
  case frame now inputs order =>
    have done : s.WindowActs ((frameOrder order).foldl (State.frameTask inputs) s.relock) :=
      (State.WindowActs.relock s).trans (.foldl (fun t k => .frameTask t inputs k) _ _)
    exact acts (done.trans (.setTiming _ rfl))
  case relockEnd => exact acts (.relock s)
  case expire c source => exact acts (.reportClock s c _ _)
  case applyPreset c order n pending =>
    exact acts ((State.WindowActs.reportClock s c _ _).trans (.deliverReport _ c order))
  case slewStep c due => exact acts (.aside (by simp) (by simp) (by simp) (by simp) (by simp) (by simp))
  case blank => exact acts (.setTiming s rfl)
  case period contacts order =>
    have begun : s.WindowActs (s.setTiming s.timing.nextPeriod) := .setTiming s rfl
    exact begun.events.trans
      (State.WindowEvents.foldl (fun u k => .single (periodTask_windowEvent u contacts _ k)) _ _)
  case advanceRamp c => exact acts (.modChan (.advanceRamp (s.chan c)))
  case advanceMove c => exact acts (.modChan (.advanceMove (s.chan c)))
  case takePending c => exact acts (.modChan (.takePending (s.chan c)))
  case raiseHolding c h _ => exact acts (.raiseHolding s c h)
  case sampleGpi g v edges => exact .single (sampleGpi_windowEvent s g v edges)
  case updateTally k => exact acts (.aside (by simp) (by simp) (by simp) (by simp) (by simp) (by simp))
  case countRun c => exact acts (.countRun s c)
  case receiveMarker c ch seq => exact acts (.receiveMarker s c ch seq)
  case signalUp c => exact acts (.signalUp s c)
  case signalDown c => exact acts (.signalDown s c)
  case signalAbsent c => exact acts ((State.WindowActs.signalDown s c).trans (.setLock _ c _ _))
  case pictureStart c now fresh => exact acts (.pictureStart s c now fresh)
  case completePicture c right p h i => exact acts (.completePicture s c right p h i)
  case request p r => exact requestOwner_windowEvents s p r
  case resetDevice => exact resetDevice_windowEvents s

/-- What the window controllers' events keep, and what has no part in ports and queue, every step keeps. -/
theorem step_keeps_window {P : State → Prop} (queue : ∀ (s : State) q, P s → P (s.setPending q))
    (ports : ∀ (s : State) (x : Trio Port), P s → P { s with ports := x })
    (event : ∀ s t : State, s.WindowEvent t → P s → P t) {s t : State} (h : step s = .next t) (keep : P s) : P t := by
  refine step_keeps queue (fun a b act ha => ?_) (fun a b happens ha => ?_) h keep
  · rw [act.same]
    exact ports a b.ports ha
  · have events := happens.windowEvents
    clear happens
    induction events with
    | refl => exact ha
    | tail _ one ih => exact event _ _ one ih

end Sys2Proof.Machine
end

section
/-! PROOFS. What every step keeps of the window controllers: each window's state, ramp and moves (R52 to R56, R69), the
members and the hold that follow a level (R55, R59, R171), and the layouts fitted to the raster (R71, R82 to R92). -/

namespace Sys2Proof.Machine

open Sys2Proof

/-! ## The windows (R52 to R56, R69) -/

theorem Window.afterReset_sound (geometry : Layout) (fade : Nat) (contact signer hold : Bool) :
    (Window.afterReset geometry fade contact signer hold).Sound := by
  refine ⟨⟨fun _ => rfl, ?_, ?_, ?_⟩, ?_, fun _ => ⟨rfl, rfl⟩, ?_⟩ <;>
    simp [Window.afterReset, Window.effectiveOn]

section
variable {f : Format} {hold suppress : Bool} {x y : ChannelState}

theorem ChannelState.WindowAct.window_sound (act : x.WindowAct f hold suppress y) (sound : x.window.Sound) :
    y.window.Sound := by
  have follow : ∀ (w v : Window) n, w.Sound → v.course = w.course → (w.follow v x.presets n).Sound :=
    fun w v n sound same => sound.follow x.presets same n
  cases act with
  | aside window _ _ _ => rw [window]; exact sound
  | request on d => exact follow _ _ _ sound rfl
  | port p b => exact follow _ _ _ sound rfl
  | span b => exact follow { x.window with spanMatch := b } _ _ sound rfl
  | signer b => exact follow _ _ _ sound rfl
  | run k => exact follow _ _ _ sound rfl
  | contact => exact follow { x.window with contactHold := hold } _ _ sound rfl
  | take p d => exact sound.takeNow x.presets p d
  | wait q waits =>
    obtain ⟨ramp, agree, off, moves⟩ := sound
    refine ⟨ramp, agree, fun h => ?_, moves⟩
    obtain ⟨move, pending⟩ := off h
    rw [move, pending] at waits
    simp at waits
  | write spans fade => exact sound
  | advanceRamp => exact sound.advanceRamp x.presets
  | takePending => exact sound.takePending x.presets
  | advanceMove => exact sound.advanceMove
  | preset i l p => exact sound
  | reset d => exact Window.afterReset_sound ..

/-- What every act upon a channel keeps, any number of them keep. -/
theorem ChannelState.WindowActs.keeps {P : ChannelState → Prop} (acts : x.WindowActs f hold suppress y)
    (step : ∀ {x y : ChannelState}, x.WindowAct f hold suppress y → P x → P y) (h : P x) : P y := by
  induction acts with
  | refl => exact h
  | tail _ act ih => exact step act ih

end

/-- The window of a channel taken to the FORMAT_SET values is OFF, as its reset left it. -/
theorem formatSet_window_sound (x : ChannelState) (geometry : Layout) (fade : Nat) (contact signer hold : Bool)
    (d : DelayLine) (old new : Format) :
    ((x.channelReset (Window.afterReset geometry fade contact signer hold) d).formatSet old new).window.Sound :=
  Window.afterReset_sound _ fade contact false hold

theorem State.WindowEvent.windowsSound {s t : State} (event : s.WindowEvent t) (sound : s.WindowsSound) :
    t.WindowsSound := by
  have keep : ∀ {s t : State}, s.WindowActs t → s.WindowsSound → t.WindowsSound := fun acts sound c =>
    (acts.chan c).keeps (P := fun x => x.window.Sound) (fun act => act.window_sound) (sound c)
  cases event with
  | acts acts => exact keep acts sound
  | sampled g x levels => exact sound
  | contacts g x acts => exact keep (.takeContacts _) (keep acts sound)
  | format f =>
    intro c
    obtain ⟨e, -, chan⟩ := s.formatted_channel f c
    rw [chan]
    exact formatSet_window_sound ..
  | reset unbound cleared =>
    intro c
    obtain ⟨window, -⟩ := cleared c
    rw [window]
    exact resetWindow_sound _ 12

/-- Settles O55: every act upon a window keeps it sound, and every reset leaves it so. -/
theorem windowsKept : Obligations.WindowsKept := fun _ _ sound h =>
  step_keeps_window (fun _ _ h => h) (fun _ _ h => h) (fun _ _ event => event.windowsSound) h sound

/-! ## The levels (R55, R59, R171) -/

/-- The members whose level is the channel's own follow it: SPAN, SIGNER and CALIBRATION. -/
def ChannelState.MembersFollow (x : ChannelState) : Prop :=
  x.window.suppression.span = x.window.spanMatch ∧ x.window.suppression.signer = x.sync.level
    ∧ x.window.suppression.calibration = x.calibration.running

/-- What follows the contact inputs does: contact hold and CONTACT. -/
def ChannelState.ContactsFollow (hold suppress : Bool) (x : ChannelState) : Prop :=
  x.window.suppression.contact = suppress ∧ x.window.contactHold = hold

theorem State.levelsFollowed_iff (s : State) : s.LevelsFollowed ↔ ∀ c, (s.chan c).MembersFollow
    ∧ (s.chan c).ContactsFollow (s.contactLevel .hold c) (s.contactLevel .suppress c) := by
  refine forall_congr' fun c => ⟨?_, ?_⟩
  · rintro ⟨span, contact, signer, calibration, hold⟩
    exact ⟨⟨span, signer, calibration⟩, contact, hold⟩
  · rintro ⟨⟨span, signer, calibration⟩, contact, hold⟩
    exact ⟨span, contact, signer, calibration, hold⟩

/-- The suppression set, contact hold and span result of a window that follows a change are those of the change. -/
theorem Window.follow_levels (w v : Window) (presets : Bank 8 Preset) (n : Nat) :
    (w.follow v presets n).suppression = v.suppression ∧ (w.follow v presets n).contactHold = v.contactHold
      ∧ (w.follow v presets n).spanMatch = v.spanMatch :=
  Window.levels_of_settings (Window.follow_settings w v presets n)

section
variable {f : Format} {hold suppress : Bool} {x y : ChannelState}

theorem membersFollow_of_settings (follow : x.MembersFollow) {v : Window} (same : v.settings = x.window.settings) :
    (x.setWindow v).MembersFollow := by
  obtain ⟨members, -, result⟩ := Window.levels_of_settings same
  obtain ⟨span, signer, calibration⟩ := follow
  simp only [ChannelState.MembersFollow, ChannelState.setWindow_window, members, result]
  exact ⟨span, signer, calibration⟩

theorem contactsFollow_of_settings (follow : x.ContactsFollow hold suppress) {v : Window}
    (same : v.settings = x.window.settings) : (x.setWindow v).ContactsFollow hold suppress := by
  obtain ⟨members, held, -⟩ := Window.levels_of_settings same
  obtain ⟨contact, hold⟩ := follow
  simp only [ChannelState.ContactsFollow, ChannelState.setWindow_window, members, held]
  exact ⟨contact, hold⟩

theorem ChannelState.WindowAct.membersFollow (act : x.WindowAct f hold suppress y) (follow : x.MembersFollow) :
    y.MembersFollow := by
  obtain ⟨span, signer, calibration⟩ := id follow
  cases act with
  | aside window presets level running =>
    rw [ChannelState.MembersFollow, window, level, running]
    exact follow
  | request on d =>
    obtain ⟨members, -, result⟩ := x.window.follow_levels { x.window with requested := on } x.presets d
    simp only [ChannelState.MembersFollow, ChannelState.setWindow_window, members, result]
    exact follow
  | port p b =>
    obtain ⟨members, -, result⟩ := x.window.follow_levels
      { x.window with suppression := x.window.suppression.put (portMember p) b } x.presets x.window.fade
    simp only [ChannelState.MembersFollow, ChannelState.setWindow_window, members, result]
    cases p <;> exact ⟨span, signer, calibration⟩
  | span b =>
    obtain ⟨members, -, result⟩ := Window.levels_of_settings (x.window.spanned_settings x.presets b)
    simp only [ChannelState.MembersFollow, ChannelState.setWindow_window, members, result]
    exact ⟨trivial, signer, calibration⟩
  | signer b =>
    obtain ⟨members, -, result⟩ := Window.levels_of_settings (x.window.signed_settings x.presets b)
    simp only [ChannelState.MembersFollow, ChannelState.setWindow_window, members, result]
    exact ⟨span, rfl, calibration⟩
  | run k =>
    obtain ⟨members, -, result⟩ := x.window.follow_levels
      { x.window with suppression := x.window.suppression.put .calibration k.running } x.presets x.window.fade
    simp only [ChannelState.MembersFollow, ChannelState.setWindow_window, members, result]
    exact ⟨span, signer, rfl⟩
  | contact =>
    obtain ⟨members, -, result⟩ := ({ x.window with contactHold := hold } : Window).follow_levels
      { x.window with contactHold := hold, suppression := { x.window.suppression with contact := suppress } }
      x.presets x.window.fade
    simp only [ChannelState.MembersFollow, ChannelState.contacted, ChannelState.setWindow_window, members, result]
    exact ⟨span, signer, calibration⟩
  | take p d => exact membersFollow_of_settings follow (x.window.takeNow_settings x.presets p d)
  | wait q _ => exact follow
  | write spans fade => exact follow
  | advanceRamp => exact membersFollow_of_settings follow (x.window.advanceRamp_settings x.presets)
  | takePending => exact membersFollow_of_settings follow (x.window.takePending_settings x.presets)
  | advanceMove => exact membersFollow_of_settings follow x.window.advanceMove_settings
  | preset i l p => exact follow
  | reset d =>
    refine ⟨rfl, rfl, ?_⟩
    simp only [ChannelState.channelReset]
    split
    · rfl
    · rename_i idle
      exact (Bool.eq_false_iff.2 idle).symm

/-- The contact levels taken make the channel follow them (R171). -/
theorem contacted_contactsFollow (x : ChannelState) (hold suppress : Bool) :
    (x.contacted hold suppress).ContactsFollow hold suppress := by
  obtain ⟨members, held, -⟩ := ({ x.window with contactHold := hold } : Window).follow_levels
    { x.window with contactHold := hold, suppression := { x.window.suppression with contact := suppress } }
    x.presets x.window.fade
  exact ⟨congrArg Suppression.contact members, held⟩

theorem ChannelState.WindowAct.contactsFollow (act : x.WindowAct f hold suppress y)
    (follow : x.ContactsFollow hold suppress) : y.ContactsFollow hold suppress := by
  have at_ : ∀ {z : ChannelState} (w v : Window) (n : Nat), z.window = w.follow v x.presets n →
      v.suppression.contact = x.window.suppression.contact → v.contactHold = x.window.contactHold →
      z.ContactsFollow hold suppress := by
    intro z w v n window contact held
    obtain ⟨members, hold, -⟩ := w.follow_levels v x.presets n
    rw [ChannelState.ContactsFollow, window, members, hold, contact, held]
    exact follow
  cases act with
  | aside window _ _ _ => rw [ChannelState.ContactsFollow, window]; exact follow
  | request on d => exact at_ _ _ _ rfl rfl rfl
  | port p b => exact at_ _ _ _ rfl (by cases p <;> rfl) rfl
  | span b => exact at_ _ _ _ rfl rfl rfl
  | signer b => exact at_ _ _ _ rfl rfl rfl
  | run k => exact at_ _ _ _ rfl rfl rfl
  | contact => exact contacted_contactsFollow x hold suppress
  | take p d => exact contactsFollow_of_settings follow (x.window.takeNow_settings x.presets p d)
  | wait q _ => exact follow
  | write spans fade => exact follow
  | advanceRamp => exact contactsFollow_of_settings follow (x.window.advanceRamp_settings x.presets)
  | takePending => exact contactsFollow_of_settings follow (x.window.takePending_settings x.presets)
  | advanceMove => exact contactsFollow_of_settings follow x.window.advanceMove_settings
  | preset i l p => exact follow
  | reset d => exact ⟨rfl, rfl⟩

end

theorem State.takeContact_chan (s : State) (c : Channel) : (s.takeContact c).chan c
    = (s.chan c).contacted (s.contactLevel .hold c) (s.contactLevel .suppress c) :=
  (State.Became.modChan_setMember s c (fun x => x.setWindow { x.window with contactHold := s.contactLevel .hold c })
    .contact (s.contactLevel .suppress c)).own

/-- Every channel takes the contact levels as they stand (R171). -/
theorem State.takeContacts_chan (s : State) (c : Channel) : s.takeContacts.chan c
    = (s.chan c).contacted (s.contactLevel .hold c) (s.contactLevel .suppress c) := by
  obtain ⟨t, gpis, same, result⟩ := eachChannel_chan (f := fun c t => t.takeContact c)
    (R := fun s t : State => t.gpis = s.gpis) (fun _ => rfl) (fun _ _ _ h g => g.trans h) (fun c t => by simp)
    (fun c t d h => by simp [h]) s c
  rw [State.takeContacts, result, State.takeContact_chan, same, State.contactLevel_congr gpis,
    State.contactLevel_congr gpis]

theorem State.WindowActs.membersFollow {s t : State} (acts : s.WindowActs t) {c : Channel}
    (follow : (s.chan c).MembersFollow) : (t.chan c).MembersFollow :=
  (acts.chan c).keeps (P := ChannelState.MembersFollow) (fun act => act.membersFollow) follow

/-- What leaves the contact inputs alone keeps what follows them, where the acts keep it. -/
theorem State.WindowActs.contactsFollow {s t : State} (acts : s.WindowActs t) {c : Channel}
    (follow : (s.chan c).ContactsFollow (s.contactLevel .hold c) (s.contactLevel .suppress c)) :
    (t.chan c).ContactsFollow (t.contactLevel .hold c) (t.contactLevel .suppress c) := by
  rw [State.contactLevel_congr acts.gpis, State.contactLevel_congr acts.gpis]
  exact (acts.chan c).keeps (P := ChannelState.ContactsFollow _ _) (fun act => act.contactsFollow) follow

theorem State.WindowEvent.levelsFollowed {s t : State} (event : s.WindowEvent t) (followed : s.LevelsFollowed) :
    t.LevelsFollowed := by
  rw [State.levelsFollowed_iff] at followed ⊢
  intro c
  obtain ⟨members, contacts⟩ := followed c
  cases event with
  | acts acts => exact ⟨acts.membersFollow members, acts.contactsFollow contacts⟩
  | sampled g x levels =>
    rw [levels, levels]
    exact ⟨members, contacts⟩
  | @contacts g x t acts =>
    have taken : t.WindowActs t.takeContacts := .takeContacts t
    refine ⟨taken.membersFollow (acts.membersFollow members), ?_⟩
    rw [State.contactLevel_congr taken.gpis, State.contactLevel_congr taken.gpis, State.takeContacts_chan]
    exact contacted_contactsFollow ..
  | format f =>
    obtain ⟨e, -, chan⟩ := s.formatted_channel f c
    obtain ⟨-, gpis, -, -⟩ := s.formatted_inner f
    obtain ⟨-, -, calibration⟩ := (ChannelState.WindowAct.reset (f := s.format) (hold := s.contactLevel .hold c)
      (suppress := s.contactLevel .suppress c) (s.chan c) e).membersFollow members
    rw [chan, State.contactLevel_congr gpis, State.contactLevel_congr gpis]
    exact ⟨⟨rfl, rfl, calibration⟩, rfl, rfl⟩
  | reset unbound cleared =>
    obtain ⟨window, -, level, running⟩ := cleared c
    rw [contactLevel_unbound unbound (by simp), contactLevel_unbound unbound (by simp),
      ChannelState.MembersFollow, ChannelState.ContactsFollow, window, level, running]
    exact ⟨⟨rfl, rfl, rfl⟩, rfl, rfl⟩

/-- Settles O56: every act upon a channel keeps what follows a level in step with it, and where a contact input
changes a level, every channel takes it. -/
theorem levelsKept : Obligations.LevelsKept := fun _ _ followed h =>
  step_keeps_window (fun _ _ h => h) (fun _ _ h => h) (fun _ _ event => event.levelsFollowed) h followed

/-! ## The layouts (R71, R82 to R92) -/

/-- A channel whose presets, working geometry and ends of a move fit the raster. -/
def ChannelState.LayoutsFit (f : Format) (x : ChannelState) : Prop :=
  (∀ i, (x.presets.pick i).layout.Fitted f) ∧ x.window.Fitted f

section
variable {f : Format} {hold suppress : Bool} {x y : ChannelState}

theorem ChannelState.WindowAct.layoutsFit (act : x.WindowAct f hold suppress y) (fit : x.LayoutsFit f) :
    y.LayoutsFit f := by
  obtain ⟨stored, window⟩ := id fit
  have follow : ∀ (w v : Window) n, v.Fitted f → (w.follow v x.presets n).Fitted f := fun w v n fitted =>
    fitted.follow stored w n
  cases act with
  | aside same presets _ _ => rw [ChannelState.LayoutsFit, same, presets]; exact fit
  | request on d => exact ⟨stored, follow _ _ _ window⟩
  | port p b => exact ⟨stored, follow _ _ _ window⟩
  | span b => exact ⟨stored, follow _ _ _ window⟩
  | signer b => exact ⟨stored, follow _ _ _ window⟩
  | run k => exact ⟨stored, follow _ _ _ window⟩
  | contact => exact ⟨stored, follow _ _ _ window⟩
  | take p d => exact ⟨stored, window.takeNow stored p d⟩
  | wait q _ => exact fit
  | write spans fade => exact fit
  | advanceRamp => exact ⟨stored, window.advanceRamp stored⟩
  | takePending => exact ⟨stored, window.takePending stored⟩
  | advanceMove => exact ⟨stored, window.advanceMove⟩
  | preset i l p =>
    refine ⟨fun j => ?_, window⟩
    rw [ChannelState.setPresets_presets, Bank.pick_put]
    split
    · exact fitLayout_fitted f l
    · exact stored j
  | reset d => exact ⟨stored, stored 0, nofun⟩

end

/-- A preset store taken to another format is fitted to its raster: of the same size, its records are fitted again
(R91). -/
theorem presetsAfterFormat_fitted (old new : Format) (presets : Bank 8 Preset) (i : PresetIx) :
    ((presetsAfterFormat old new presets).pick i).layout.Fitted new := by
  unfold presetsAfterFormat
  split
  · simpa [defaultPresets, defaultPreset] using defaultLayout_fitted new
  · rw [Bank.pick_map]
    exact fitLayout_fitted new _

theorem State.WindowEvent.layoutsFit {s t : State} (event : s.WindowEvent t)
    (fit : ∀ c, (s.chan c).LayoutsFit s.format) (c : Channel) : (t.chan c).LayoutsFit t.format := by
  have keep : ∀ {s t : State}, s.WindowActs t → (s.chan c).LayoutsFit s.format → (t.chan c).LayoutsFit t.format :=
    fun acts fit => acts.format ▸ (acts.chan c).keeps (P := ChannelState.LayoutsFit _) (fun act => act.layoutsFit) fit
  cases event with
  | acts acts => exact keep acts (fit c)
  | sampled g x levels => exact fit c
  | contacts g x acts => exact keep (.takeContacts _) (keep acts (fit c))
  | format f =>
    obtain ⟨e, -, chan⟩ := s.formatted_channel f c
    obtain ⟨timing, -⟩ := s.formatted_inner f
    have format : (s.formatted f).format = f := by rw [State.format, timing]; rfl
    rw [chan, format]
    exact ⟨presetsAfterFormat_fitted _ f _, presetsAfterFormat_fitted _ f _ 0, nofun⟩
  | reset unbound cleared =>
    obtain ⟨window, presets, -⟩ := cleared c
    have fitted := defaultLayout_fitted t.format
    rw [ChannelState.LayoutsFit, window, presets]
    exact ⟨fun i => by simpa [defaultPresets, defaultPreset] using fitted, fitted, nofun⟩

/-- Settles O57: what is written is fitted first, what is taken was stored, and a change of format fits the store
again. -/
theorem layoutsKept : Obligations.LayoutsKept := fun _ _ fitted h =>
  step_keeps_window (P := State.LayoutsFitted) (fun _ _ h => h) (fun _ _ h => h) (fun _ _ event => event.layoutsFit) h
    fitted

end Sys2Proof.Machine
end

section
/-! PROOFS. The window state machine as a table (R53, R56), the ramp's step (R54, R55), and RAMP_END, MOVE_END and
PENDING_LAYOUT_TAKEN on their own (R54, R69, R70). -/

namespace Sys2Proof.Machine

open Sys2Proof

/-! ## Effective on (R52) -/

theorem Suppression.isEmpty_iff (x : Suppression) : x.isEmpty = true ↔ x = Suppression.empty := by
  obtain ⟨span, contact, signer, calibration, portA, portB, portC⟩ := x
  simp [Suppression.isEmpty, Suppression.empty, and_assoc]

theorem Window.effectiveOn_iff (w : Window) :
    w.effectiveOn = true ↔ w.requested = true ∧ w.suppression = Suppression.empty := by
  rw [Window.effectiveOn, Bool.and_eq_true, Suppression.isEmpty_iff]

/-- Settles O23: the table row by row, from the state machine's equations; entry to OFF by `Window.enterOff_eq`. -/
theorem windowStateTable : Obligations.WindowStateTable := by
  intro w presets n
  refine ⟨fun requested empty => ?_, fun out => ?_⟩
  · have on : w.effectiveOn = true := w.effectiveOn_iff.2 ⟨requested, empty⟩
    exact ⟨fun off long => w.react_rise presets n on off long,
      fun off cut => w.react_on presets n on (.inl ⟨off, cut⟩),
      fun falling long part => w.react_rise_again presets n on falling long part,
      fun falling short => w.react_on presets n on (.inr ⟨falling, short⟩),
      fun up => w.react_stay presets n (iff_of_true on up)⟩
  · have off : w.effectiveOn = false := by
      rw [Bool.eq_false_iff, Ne, w.effectiveOn_iff]
      rintro ⟨requested, empty⟩
      rcases out with plain | member
      · rw [requested] at plain; cases plain
      · exact member empty
    refine ⟨fun up long seen => w.react_fall presets n off up long seen, fun up cut => ?_, fun down => ?_⟩
    · show w.react presets n = _
      rw [w.react_off presets n off up cut, Window.enterOff_eq, Window.settled]
      cases w.pendingLayout <;> cases w.move <;> rfl
    · refine w.react_stay presets n (iff_of_false (Bool.eq_false_iff.1 off) ?_)
      rcases down with down | down <;> rw [down] <;> simp

/-! ## The ramp (R54, R55) -/

section
variable {w : Window} (presets : Bank 8 Preset)

theorem Window.advanceRamp_stay
    (h : w.state = .off ∨ w.state = .on ∨ w.state = .rising ∧ w.contactHold = true) : w.advanceRamp presets = w := by
  have idle : ¬ w.ramping = true := by
    rcases h with h | h | ⟨h, held⟩ <;> simp [Window.ramping, *]
  rw [Window.advanceRamp, if_neg idle]

theorem Window.advanceRamp_step (h : w.state = .rising ∧ w.contactHold = false ∨ w.state = .falling) :
    w.advanceRamp presets = w.stepRamp presets := by
  have runs : w.ramping = true := by
    rcases h with ⟨h, free⟩ | h <;> simp [Window.ramping, *]
  rw [Window.advanceRamp, if_pos runs]

theorem Window.stepRamp_rising (rising : w.state = .rising) (part : w.ramp.count + 1 < w.ramp.length) :
    w.stepRamp presets = { w with
      ramp := { w.ramp with count := w.ramp.count + 1 }
      opacity := w.ramp.start + (1024 - w.ramp.start) * (w.ramp.count + 1) / w.ramp.length } := by
  simp only [Window.stepRamp, rising, if_pos part]

theorem Window.stepRamp_on (rising : w.state = .rising) (last : w.ramp.count + 1 = w.ramp.length) :
    w.stepRamp presets
      = { w with ramp := { w.ramp with count := w.ramp.count + 1 }, state := .on, opacity := 1024 } := by
  simp only [Window.stepRamp, rising, if_neg (Nat.not_lt.2 last.ge)]

theorem Window.stepRamp_falling (falling : w.state = .falling) (part : w.ramp.count + 1 < w.ramp.length) :
    w.stepRamp presets = { w with
      ramp := { w.ramp with count := w.ramp.count + 1 }
      opacity := w.ramp.start - w.ramp.start * (w.ramp.count + 1) / w.ramp.length } := by
  simp only [Window.stepRamp, falling, if_pos part]

theorem Window.stepRamp_off (falling : w.state = .falling) (last : w.ramp.count + 1 = w.ramp.length) :
    w.stepRamp presets
      = ({ w with ramp := { w.ramp with count := w.ramp.count + 1 } } : Window).enterOff presets := by
  simp only [Window.stepRamp, falling, if_neg (Nat.not_lt.2 last.ge)]

end

/-- The part of a ramp that its count has reached grows with the count, and stays short of the whole before the
last. -/
theorem ramp_part {total count length : Nat} (some_ : 0 < total) (part : count + 1 < length) :
    total * count / length ≤ total * (count + 1) / length ∧ total * (count + 1) / length < total := by
  refine ⟨Nat.div_le_div_right (Nat.mul_le_mul_left _ (Nat.le_succ _)), ?_⟩
  rw [Nat.div_lt_iff_lt_mul (by omega)]
  exact Nat.mul_lt_mul_of_pos_left part some_

section
variable {w : Window} (sound : w.RampSound) (part : w.ramp.count + 1 < w.ramp.length)
include sound part

/-- A rise goes up with every step, and stays below 1024 before the last (R54). -/
theorem Window.RampSound.rises (rising : w.state = .rising) :
    w.opacity ≤ w.ramp.start + (1024 - w.ramp.start) * (w.ramp.count + 1) / w.ramp.length
      ∧ w.ramp.start + (1024 - w.ramp.start) * (w.ramp.count + 1) / w.ramp.length < 1024 := by
  obtain ⟨-, -, rises, -⟩ := sound
  obtain ⟨-, start, opacity⟩ := rises rising
  obtain ⟨grows, short⟩ := ramp_part (total := 1024 - w.ramp.start) (by omega) part
  exact ⟨opacity ▸ Nat.add_le_add_left grows _, by omega⟩

/-- A fall goes down with every step, and stays above 0 before the last (R54). -/
theorem Window.RampSound.falls (falling : w.state = .falling) :
    w.ramp.start - w.ramp.start * (w.ramp.count + 1) / w.ramp.length ≤ w.opacity
      ∧ 0 < w.ramp.start - w.ramp.start * (w.ramp.count + 1) / w.ramp.length := by
  obtain ⟨-, -, -, falls⟩ := sound
  obtain ⟨-, start, -, opacity⟩ := falls falling
  obtain ⟨grows, short⟩ := ramp_part start part
  exact ⟨opacity ▸ Nat.sub_le_sub_left grows _, Nat.sub_pos_of_lt short⟩

end

/-! ## The three events (R54, R69, R70) -/

theorem State.setChan_self (s : State) (c : Channel) : s.setChan c (s.chan c) = s := by
  simp [State.setChan, State.chan, Bank.put, Bank.pick]

section
variable {w : Window} {m : Move}

theorem Window.advanceMove_held (held : w.contactHold = true) : w.advanceMove = w := by
  unfold Window.advanceMove
  split
  · rfl
  · rw [if_pos held]

theorem Window.advanceMove_end (move : w.move = some m) (last : m.length = m.count + 1)
    (free : w.contactHold = false) : w.advanceMove = { w with geometry := m.target, move := none } := by
  have done : ¬ m.count + 1 < m.length := by omega
  simp only [Window.advanceMove, move, free, if_neg done, Window.endMove]
  rfl

theorem Window.takePending_stay (presets : Bank 8 Preset)
    (h : w.move.isSome = true ∨ w.pendingLayout = none) : w.takePending presets = w := by
  unfold Window.takePending
  split
  · rename_i move pending
    simp [move, pending] at h
  · rfl

/-- A pending layout taken, as a cut or as a move begun (R70). -/
theorem Window.takePending_taken (presets : Bank 8 Preset) {q : PendingLayout} (move : w.move = none)
    (pending : w.pendingLayout = some q) : w.takePending presets
      = if w.opacity = 0 ∨ q.duration = 0 then
          { w with geometry := (presets.pick q.preset).layout, lastPreset := q.preset, pendingLayout := none }
        else
          { w with
            move := some { source := w.geometry, target := (presets.pick q.preset).layout, preset := q.preset
                           length := q.duration, count := 0 }
            lastPreset := q.preset, pendingLayout := none } := by
  simp only [Window.takePending, move, pending, Window.takeNow, Window.cut, Window.beginMove]

end

section
variable {s : State} {c : Channel}

theorem exec_rampEnd_taken (runs : ((s.chan c).window.state = .rising ∧ (s.chan c).window.contactHold = false)
      ∨ (s.chan c).window.state = .falling)
    (last : (s.chan c).window.ramp.length = (s.chan c).window.ramp.count + 1) :
    exec (.rampEnd c) s = .next (s.setChan c ((s.chan c).setWindow
      ((s.chan c).window.advanceRamp (s.chan c).presets))) := by
  have ramping : (s.chan c).window.ramping = true := by
    rcases runs with ⟨rising, free⟩ | falling <;> simp [Window.ramping, *]
  show execRampEnd c s = _
  simp only [execRampEnd]
  rw [if_pos ⟨ramping, last.le⟩]
  rfl

theorem exec_rampEnd_idle (h : (s.chan c).window.ramp.count + 1 < (s.chan c).window.ramp.length
      ∨ (s.chan c).window.state = .off ∨ (s.chan c).window.state = .on
      ∨ ((s.chan c).window.state = .rising ∧ (s.chan c).window.contactHold = true)) :
    exec (.rampEnd c) s = .next s := by
  have idle : ¬ ((s.chan c).window.ramping = true
      ∧ (s.chan c).window.ramp.length ≤ (s.chan c).window.ramp.count + 1) := by
    rintro ⟨ramping, last⟩
    rcases h with part | h | h | ⟨h, held⟩
    · omega
    all_goals simp [Window.ramping, *] at ramping
  show execRampEnd c s = _
  simp only [execRampEnd]
  rw [if_neg idle]

theorem exec_moveEnd_due {m : Move} (move : (s.chan c).window.move = some m) (last : m.length ≤ m.count + 1) :
    exec (.moveEnd c) s = .next (s.setChan c ((s.chan c).setWindow (s.chan c).window.advanceMove)) := by
  show execMoveEnd c s = _
  simp only [execMoveEnd, move]
  rw [if_pos last]
  rfl

theorem exec_moveEnd_idle (h : (s.chan c).window.contactHold = true
      ∨ ∀ m, (s.chan c).window.move = some m → m.count + 1 < m.length) : exec (.moveEnd c) s = .next s := by
  cases move : (s.chan c).window.move with
  | none =>
    show execMoveEnd c s = _
    simp only [execMoveEnd, move]
  | some m =>
    by_cases part : m.count + 1 < m.length
    · show execMoveEnd c s = _
      simp only [execMoveEnd, move]
      rw [if_neg (Nat.not_le.2 part)]
    · have held : (s.chan c).window.contactHold = true := h.resolve_right fun all => part (all m move)
      rw [exec_moveEnd_due move (Nat.not_lt.1 part), Window.advanceMove_held held]
      exact congrArg _ (s.setChan_self c)

theorem exec_pendingLayoutTaken : exec (.pendingLayoutTaken c) s = .next (s.setChan c ((s.chan c).setWindow
    ((s.chan c).window.takePending (s.chan c).presets))) := rfl

end

/-- Settles O27: the ramp by its step's equations and the bounds of a rise and a fall, and each event by its equations
where it acts and where it does not. -/
theorem windowPeriodEvents : Obligations.WindowPeriodEvents := by
  refine ⟨fun w presets sound => ?_, fun s c => ?_⟩
  · have step := fun h => Window.advanceRamp_step (w := w) presets h
    refine ⟨Window.advanceRamp_stay presets, fun rising free part => ?_,
      fun rising free last => (step (.inl ⟨rising, free⟩)).trans (Window.stepRamp_on presets rising last),
      fun falling part => ?_, fun falling last => ?_⟩
    · have next := (step (.inl ⟨rising, free⟩)).trans (Window.stepRamp_rising presets rising part)
      exact ⟨next, next ▸ sound.rises part rising⟩
    · have next := (step (.inr falling)).trans (Window.stepRamp_falling presets falling part)
      exact ⟨next, next ▸ sound.falls part falling⟩
    · refine ((step (.inr falling)).trans (Window.stepRamp_off presets falling last)).trans ?_
      rw [Window.enterOff_eq, Window.settled]
      cases w.pendingLayout <;> cases w.move <;> rfl
  · refine ⟨exec_rampEnd_taken, exec_rampEnd_idle, fun m move last free => ?_, exec_moveEnd_idle,
      fun q move pending => ?_, fun waits => ?_⟩
    · rw [exec_moveEnd_due move last.le, Window.advanceMove_end move last free]
    · rw [exec_pendingLayoutTaken, Window.takePending_taken _ move pending]
    · rw [exec_pendingLayoutTaken, Window.takePending_stay _ waits]
      exact congrArg _ (s.setChan_self c)

end Sys2Proof.Machine
end

section
/-! PROOFS. WINDOW_SET and LAYOUT_SELECT (R68, R72 to R75). -/

namespace Sys2Proof.Machine

open Sys2Proof

/-! ## WINDOW_SET (R72 to R74) -/

section
variable {ch direction flag preset : Byte} (duration : Half) (s : State)

/-- A value that WINDOW_SET does not define, or a preset with direction OUT, is refused (R74). -/
theorem windowSet_badParam (wrong : 4 ≤ ch.toNat ∨ 2 ≤ direction.toNat ∨ 2 ≤ flag.toNat
    ∨ (flag = 1 ∧ (direction = 1 ∨ 8 ≤ preset.toNat))) :
    windowSet ch direction duration flag preset s = (s, refuse .badParam) := by
  rcases wrong with high | high | high | ⟨rfl, wrong⟩
  · simp only [windowSet, readChannel_none high]
  · rw [windowSet, readFlag_none high]
    cases readChannel ch <;> rfl
  · rw [windowSet, readFlag_none high]
    cases readChannel ch <;> cases readFlag direction <;> rfl
  · have present : readFlag 1 = some true := rfl
    cases channel : readChannel ch with
    | none => simp only [windowSet, channel]
    | some c =>
      rcases wrong with rfl | high
      · have out : readFlag 1 = some true := rfl
        simp only [windowSet, channel, out, if_true]
        cases readPreset preset <;> rfl
      · cases out : readFlag direction <;>
          simp only [windowSet, channel, out, present, if_true, readPreset_none high]

variable {c : Channel} (here : ch.toNat = c.val)
include here

theorem windowSet_plain (on : Bool) (towards : direction = if on then 0 else 1) (absent : flag = 0) :
    windowSet ch direction duration flag preset s = (s.request c on (min 250 duration.toNat),
      taken (decide (250 < duration.toNat)) [byte1 (min 250 duration.toNat)]) := by
  have present : readFlag flag = some false := absent ▸ rfl
  have out : readFlag direction = some !on := by subst towards; cases on <;> rfl
  simp only [windowSet, readChannel_some here, out, present]
  cases on <;> rfl

theorem windowSet_preset {i : PresetIx} (towards : direction = 0) (present : flag = 1) (index : preset.toNat = i.val) :
    windowSet ch direction duration flag preset s
      = ((s.takeLayout c i (min 250 duration.toNat) none).request c true (min 250 duration.toNat),
        taken (decide (250 < duration.toNat)) [byte1 (min 250 duration.toNat)]) := by
  have present : readFlag flag = some true := present ▸ rfl
  have out : readFlag direction = some false := towards ▸ rfl
  simp only [windowSet, readChannel_some here, out, present, readPreset_eq_some.2 index.symm]
  rfl

end

/-! ## LAYOUT_SELECT (R75) -/

section
variable {ch preset : Byte} (duration : Half) (s : State)

theorem layoutSelect_badParam (wrong : 4 ≤ ch.toNat ∨ 8 ≤ preset.toNat) :
    layoutSelect ch preset duration s = (s, refuse .badParam) := by
  rcases wrong with high | high
  · simp only [layoutSelect, readChannel_none high]
  · rw [layoutSelect, readPreset_none high]
    cases readChannel ch <;> rfl

theorem layoutSelect_taken {c : Channel} {i : PresetIx} (here : ch.toNat = c.val) (index : preset.toNat = i.val) :
    layoutSelect ch preset duration s = (s.takeLayout c i (min 250 duration.toNat) none,
      taken (decide (250 < duration.toNat))
        [layoutAnswerByte ((s.chan c).window.layoutAnswer (min 250 duration.toNat)),
          byte1 (min 250 duration.toNat)]) := by
  simp only [layoutSelect, readChannel_some here, readPreset_eq_some.2 index.symm]

end

/-- How a layout is taken, as the reply words it (R75). -/
theorem layoutAnswerByte_layoutAnswer (w : Window) (n : Nat) : layoutAnswerByte (w.layoutAnswer n)
    = if w.move.isSome ∨ w.pendingLayout.isSome then 2 else if w.opacity = 0 ∨ n = 0 then 0 else 1 := by
  unfold Window.layoutAnswer
  split
  · rfl
  · split <;> rfl

/-- Settles O24: the two requests by what each makes of its fields, and the layout by `layoutTook_takeLayout`. -/
theorem windowRequests : Obligations.WindowRequests := by
  refine ⟨fun s p tag ch direction duration flag preset room => ?_, fun s p tag ch preset duration room => ?_⟩
  · have run : ∀ {u : State} {completion : Completion} {payload : List Byte},
        windowSet ch direction duration flag preset s = (u, ⟨completion, payload⟩) →
        exec (.windowSet p tag ch direction duration flag preset) s
          = .next (u.replied p tag 0x20 completion payload) := fun owner =>
      exec_answered (r := .windowSet ch direction duration flag preset) (by simp) rfl room owner
    refine ⟨fun wrong => run (windowSet_badParam duration s wrong), fun c on here towards absent =>
      run (windowSet_plain duration s here on towards absent), fun c i here towards present index =>
      ⟨_, _, run (windowSet_preset duration s here towards present index), layoutTook_takeLayout _ _ _ s c, rfl⟩⟩
  · have run : ∀ {u : State} {completion : Completion} {payload : List Byte},
        layoutSelect ch preset duration s = (u, ⟨completion, payload⟩) →
        exec (.layoutSelect p tag ch preset duration) s
          = .next (u.replied p tag 0x21 completion payload) := fun owner =>
      exec_answered (r := .layoutSelect ch preset duration) (by simp) rfl room owner
    refine ⟨fun wrong => run (layoutSelect_badParam duration s wrong), fun c i here index =>
      ⟨_, ?_, layoutTook_takeLayout _ _ _ s c⟩⟩
    rw [run (layoutSelect_taken duration s here index), layoutAnswerByte_layoutAnswer]
    rfl

end Sys2Proof.Machine
end

section
/-! PROOFS. The suppression set of one channel (R52, R58, R62), and SUPPRESS (R60). -/

namespace Sys2Proof.Machine

open Sys2Proof

/-! ## One member put in or taken out (R58, R62) -/

theorem State.SuppressionTook.refl (s : State) (c : Channel) :
    s.SuppressionTook s c (s.chan c).window.suppression :=
  ⟨rfl, fun _ _ => rfl, (congrArg (s.chan c).setWindow (Window.follow_self (s.chan c).window _ _)).symm,
    (State.Posted.of_ports rfl).congr fun _ => by simp⟩

theorem Suppression.put_eq_self {x : Suppression} {m : Member} {b : Bool} (same : x.has m = b) : x.put m b = x :=
  same ▸ x.put_has m

@[simp] theorem Suppression.has_put (x : Suppression) (m : Member) (b : Bool) : (x.put m b).has m = b := by
  cases m <;> rfl

theorem State.setMember_eq_self {s : State} {c : Channel} {m : Member} {b : Bool}
    (same : (s.chan c).window.suppression.has m = b) : s.setMember c m b = s :=
  if_pos same

theorem suppressionTook_setMember (s : State) (c : Channel) (m : Member) (b : Bool) :
    s.SuppressionTook (s.setMember c m b) c ((s.chan c).window.suppression.put m b) := by
  have became := State.Became.setMember s c m b
  refine ⟨?_, fun d other => State.setMember_chan_ne s c m b other, became.own, became.latches.congr fun l => ?_⟩
  · have frame := became.frame
    rwa [State.setMember_cues] at frame
  · refine and_congr_right fun _ => not_congr ⟨Suppression.put_eq_self, fun same => ?_⟩
    rw [← same, Suppression.has_put]

/-! ## Members taken out one after another -/

theorem Window.effectiveOn_of_member {w : Window} {m : Member} (member : w.suppression.has m = true) :
    w.effectiveOn = false := by
  rw [Bool.eq_false_iff, Ne, Window.effectiveOn_iff]
  rintro ⟨-, empty⟩
  rw [empty] at member
  cases m <;> cases member

/-- A window whose suppression set changed with effective on as it was follows the next change from where it
started. -/
theorem Window.follow_suppression (w : Window) (x : Suppression) (presets : Bank 8 Preset) (n : Nat) {y : Suppression}
    (still : w.effectiveOn = ({ w with suppression := x } : Window).effectiveOn) :
    ({ w with suppression := x } : Window).follow { w with suppression := y } presets n
      = w.follow { w with suppression := y } presets n := by
  rw [Window.follow, Window.follow, still]

/-- One more member taken out of a set that only lost members: the window is where it would be had they left
together. -/
theorem State.SuppressionTook.remove {s t : State} {c : Channel} {new : Suppression} (h : s.SuppressionTook t c new)
    {m : Member} (fewer : new.has m = true → (s.chan c).window.suppression.has m = true) :
    s.SuppressionTook (t.setMember c m false) c (new.put m false) := by
  obtain ⟨frame, others, own, posted⟩ := h
  have set : (t.chan c).window.suppression = new := by
    obtain ⟨members, -⟩ := (s.chan c).window.follow_levels { (s.chan c).window with suppression := new }
      (s.chan c).presets (s.chan c).window.fade
    rw [own]
    exact members
  cases inside : new.has m with
  | false =>
    rw [State.setMember_eq_self (set ▸ inside), Suppression.put_eq_self inside]
    exact ⟨frame, others, own, posted⟩
  | true =>
    have still : (s.chan c).window.effectiveOn
        = ({ (s.chan c).window with suppression := new } : Window).effectiveOn :=
      (Window.effectiveOn_of_member (fewer inside)).trans (Window.effectiveOn_of_member (m := m) inside).symm
    rw [if_pos still] at own
    obtain ⟨frame', others', own', posted'⟩ := suppressionTook_setMember t c m false
    rw [set] at own' posted'
    refine ⟨?_, fun d hd => (others' d hd).trans (others d hd), ?_, (posted.trans posted').congr fun l => ?_⟩
    · rw [frame', frame]
    · rw [own', own]
      exact congrArg _ (Window.follow_suppression _ new _ _ still)
    · have lost : new.put m false ≠ new := fun same => by
        have := new.has_put m false
        rw [same, inside] at this
        cases this
      have gone : new.put m false ≠ (s.chan c).window.suppression := fun same => by
        have := new.has_put m false
        rw [same, fewer inside] at this
        cases this
      tauto

/-- The suppression set that SUPPRESS leaves in a channel of its mask (R60). -/
def Suppression.suppressed (x : Suppression) (p : PortId) : Nat → Suppression
  | 0 => x.put (portMember p) true
  | 1 => x.put (portMember p) false
  | _ => { x with portA := false, portB := false, portC := false }

theorem suppressionTook_suppressChannel (s : State) (p : PortId) (action : Nat) (c : Channel) :
    s.SuppressionTook (s.suppressChannel p action c) c ((s.chan c).window.suppression.suppressed p action) :=
  match action with
  | 0 => suppressionTook_setMember s c (portMember p) true
  | 1 => suppressionTook_setMember s c (portMember p) false
  | _ + 2 => ((suppressionTook_setMember s c .portA false).remove (m := .portB) id).remove (m := .portC) id

/-! ## The channels of a mask one after another -/

/-- From one state to the next, the suppression sets of the channels listed become those given, each window following
its own (R52, R58, R62). -/
structure State.SetsTook (s u : State) (l : List Channel) (new : Channel → Suppression) : Prop where
  frame : u = { s with channels := u.channels, ports := u.ports }
  chan : ∀ c, u.chan c = if c ∈ l then (s.chan c).setWindow ((s.chan c).window.follow
    { (s.chan c).window with suppression := new c } (s.chan c).presets (s.chan c).window.fade) else s.chan c
  posted : s.Posted u fun k => ∃ c ∈ l, k = .channel .suppressionChange c ∧ new c ≠ (s.chan c).window.suppression

theorem State.SetsTook.snoc {s t u : State} {l : List Channel} {d : Channel} {new : Channel → Suppression}
    (h : s.SetsTook t l new) (fresh : d ∉ l) (step : t.SuppressionTook u d (new d)) :
    s.SetsTook u (l ++ [d]) new := by
  obtain ⟨frame, others, own, posted⟩ := step
  have same : t.chan d = s.chan d := (h.chan d).trans (if_neg fresh)
  rw [same] at own posted
  refine ⟨?_, fun c => ?_, (h.posted.trans posted).congr fun k => ?_⟩
  · rw [frame, h.frame]
  · by_cases hd : c = d
    · subst hd
      rw [if_pos (by simp)]
      exact own
    · rw [others c hd, h.chan]
      simp [hd]
  · simp [or_and_right, exists_or]

theorem setsTook_eachChannel {f : Channel → State → State} {s : State} {new : Channel → Suppression}
    (step : ∀ (c : Channel) (t : State), t.chan c = s.chan c → t.SuppressionTook (f c t) c (new c)) :
    s.SetsTook (s.eachChannel f) Channel.all new := by
  have walk : ∀ l : List Channel, l.Nodup → s.SetsTook (l.foldl (fun t c => f c t) s) l new := by
    intro l
    induction l using List.reverseRecOn with
    | nil => exact fun _ => ⟨rfl, fun _ => rfl, (State.Posted.of_ports rfl).congr fun _ => by simp⟩
    | append_singleton l d ih =>
      intro nodup
      obtain ⟨before, -, apart⟩ := List.nodup_append.1 nodup
      have fresh : d ∉ l := fun hd => apart d hd d (by simp) rfl
      have h := ih before
      rw [List.foldl_append]
      exact h.snoc fresh (step d _ ((h.chan d).trans (if_neg fresh)))
  exact walk Channel.all (by decide)

/-- Settles O25: each channel of the mask by `suppressionTook_suppressChannel`, one after another. -/
theorem suppressResult : Obligations.SuppressResult := by
  intro s p tag mask action room
  have run : ∀ {u : State} {completion : Completion}, suppress p mask action s = (u, ⟨completion, []⟩) →
      exec (.suppress p tag mask action) s = .next (u.replied p tag 0x22 completion []) :=
    fun owner => exec_answered (r := .suppress mask action) (by simp) rfl room owner
  have present : ∀ {m : Bank 4 Bool}, (maskEmpty m = true ↔ mask = 0) → 0 < mask.toNat → action.toNat ≤ 2 →
      ¬ (maskEmpty m = true ∨ 2 < action.toNat) := by
    intro m none some low
    rw [none]
    rintro (rfl | high)
    · exact absurd some (by decide)
    · omega
  refine ⟨fun wrong => run ?_, fun some low all plain => run ?_, fun some low known => ?_⟩
  · by_cases high : 16 ≤ mask.toNat
    · simp only [suppress, readMask_none high, refuse]
    · obtain ⟨m, read, -, none⟩ := readMask_some (Nat.not_le.1 high)
      have refused : maskEmpty m = true ∨ 2 < action.toNat := by
        rcases wrong with empty | wide | unknown
        · exact .inl (none.2 empty)
        · exact absurd wide high
        · exact .inr unknown
      simp only [suppress, read, if_pos refused, refuse]
  · obtain ⟨m, read, -, none⟩ := readMask_some low
    simp only [suppress, read, if_neg (present none some (all ▸ by decide))]
    exact if_pos ⟨all ▸ rfl, plain⟩
  · obtain ⟨m, read, bits, none⟩ := readMask_some low
    have allowed : ¬ (action.toNat = 2 ∧ (s.port p).supervisor = false) := by
      rintro ⟨all, plain⟩
      rcases known with rfl | rfl | ⟨rfl, supervisor⟩
      · cases all
      · cases all
      · rw [supervisor] at plain; cases plain
    have low : action.toNat ≤ 2 := by rcases known with rfl | rfl | ⟨rfl, -⟩ <;> decide
    intro set
    have inMask : ∀ c, m.pick c = true → set c = (s.chan c).window.suppression.suppressed p action.toNat := by
      intro c within
      have bit : mask.getLsbD c ≠ false := by rw [← bits, within]; simp
      rcases known with rfl | rfl | ⟨rfl, -⟩ <;> exact if_neg bit
    have outside : ∀ c, ¬ m.pick c = true → set c = (s.chan c).window.suppression := by
      intro c out
      exact if_pos (by rw [← bits]; simpa using out)
    have took : s.SetsTook (s.eachChannel fun c t => if m.pick c then t.suppressChannel p action.toNat c else t)
        Channel.all set := by
      refine setsTook_eachChannel fun c t same => ?_
      split
      · rename_i within
        rw [inMask c within, ← same]
        exact suppressionTook_suppressChannel t p action.toNat c
      · rename_i out
        rw [outside c out, ← same]
        exact .refl t c
    have all : ∀ c : Channel, c ∈ Channel.all := by decide
    refine ⟨_, run ?_, took.frame, fun c => (took.chan c).trans (if_pos (all c)), took.posted.congr fun l => ?_⟩
    · simp only [suppress, read, if_neg (present none some low), if_neg allowed]
      rfl
    · simp [all]

end Sys2Proof.Machine
end

section
/-! PROOFS. The span result of a channel, SPAN following it (R59, R63, R64), and SPAN_SET (R65). -/

namespace Sys2Proof.Machine

open Sys2Proof

/-! ## The span result (R59, R63, R64) -/

theorem Window.anySpan_iff (w : Window) : w.anySpan = true ↔ ∃ i, (w.spans.pick i).enabled = true := by
  have all : ∀ i : SpanIx, i ∈ spanIndices := by decide
  simp [Window.anySpan, all]

theorem suppressionTook_setSpanResult (s : State) (c : Channel) (b : Bool) :
    (s.setChan c ((s.chan c).setWindow { (s.chan c).window with spanMatch := b })).SuppressionTook
      (s.setSpanResult c b) c { (s.chan c).window.suppression with span := b } := by
  have took := suppressionTook_setMember
    (s.setChan c ((s.chan c).setWindow { (s.chan c).window with spanMatch := b })) c .span b
  rw [State.setChan_chan_same] at took
  exact took

/-! ## The span matcher at a report (R64) -/

section
variable {s : State} {c : Channel} {r : StepReport} (report : (s.chan c).report = some r)
include report

theorem State.reportSpans_invalid (invalid : r.status = .invalid) : s.reportSpans c = s := by
  simp only [State.reportSpans, report, State.matchSpans, if_pos invalid]

theorem State.reportSpans_valid (valid : r.status ≠ .invalid) :
    s.reportSpans c = s.setSpanResult c ((s.chan c).window.spanTest r.value) := by
  simp only [State.reportSpans, report, State.matchSpans, if_neg valid]

end

/-! ## The fields of SPAN_SET (R65, R197) -/

theorem readSpanIndex_none {b : Byte} (high : 4 ≤ b.toNat) : readSpanIndex b = none :=
  dif_neg (Nat.not_lt.2 high)

theorem readSpanIndex_some {b : Byte} {i : SpanIx} (index : b.toNat = i.val) : readSpanIndex b = some i :=
  readChannel_some index

theorem readSpanMode_none {b : Byte} (high : 2 ≤ b.toNat) : readSpanMode b = none := by
  unfold readSpanMode
  split
  · omega
  · omega
  · rfl

theorem State.setChan_setChan (s : State) (c : Channel) (x y : ChannelState) :
    (s.setChan c x).setChan c y = s.setChan c y :=
  s.modChan_modChan c (fun _ => x) (fun _ => y)

/-- A channel with a span replaced, the span result not yet computed (R65). -/
def ChannelState.putSpan (x : ChannelState) (i : SpanIx) (record : Span) : ChannelState :=
  x.setWindow { x.window with spans := x.window.spans.put i record }

section
variable {ch index enable mode : Byte} {start stop : LabelBytes} (p : PortId) (s : State)

/-- A value that SPAN_SET does not define, or a label that the channel does not have, is refused (R65). -/
theorem spanSet_badParam (wrong : 4 ≤ ch.toNat ∨ 4 ≤ index.toNat ∨ 2 ≤ enable.toNat ∨ 2 ≤ mode.toNat
    ∨ (∃ c : Channel, ch.toNat = c.val
      ∧ (labelValid s.timing.format (s.chan c).clock.dropMode (labelOfBytes start) = false
        ∨ labelValid s.timing.format (s.chan c).clock.dropMode (labelOfBytes stop) = false))) :
    spanSet p ch index enable mode start stop s = (s, refuse .badParam) := by
  rcases wrong with high | high | high | high | ⟨c, here, invalid⟩
  · simp only [spanSet, readChannel_none high]
  · rw [spanSet, readSpanIndex_none high]
    cases readChannel ch <;> rfl
  · rw [spanSet, readFlag_none high]
    cases readChannel ch <;> cases readSpanIndex index <;> rfl
  · rw [spanSet, readSpanMode_none high]
    cases readChannel ch <;> cases readSpanIndex index <;> cases readFlag enable <;> rfl
  · have label : s.readLabel c start = none ∨ s.readLabel c stop = none :=
      invalid.imp State.readLabel_of_not_valid State.readLabel_of_not_valid
    rw [spanSet, readChannel_some here]
    split
    · rename_i same _ _ _
      cases same
      rcases label with none | none <;> rw [none]
      cases s.readLabel c start <;> rfl
    · rfl

theorem spanSet_taken {c : Channel} {i : SpanIx} {on wrap : Bool} (here : ch.toNat = c.val)
    (at_ : index.toNat = i.val) (enabled : enable = if on then 1 else 0) (wrapped : mode = if wrap then 1 else 0)
    (first : labelValid s.timing.format (s.chan c).clock.dropMode (labelOfBytes start) = true)
    (last : labelValid s.timing.format (s.chan c).clock.dropMode (labelOfBytes stop) = true) :
    spanSet p ch index enable mode start stop s = ((s.setChan c ((s.chan c).putSpan i {
        start := frameNumber s.timing.format (s.chan c).clock.dropMode (labelOfBytes start)
        stop := frameNumber s.timing.format (s.chan c).clock.dropMode (labelOfBytes stop)
        mode := if wrap then .wrap else .inside, enabled := on, writer := some p })).respan c, taken false []) := by
  have read : readSpanMode mode = some (if wrap then .wrap else .inside) := by
    subst wrapped
    cases wrap <;> rfl
  simp only [spanSet, readChannel_some here, readSpanIndex_some at_, readFlag_eq_some.2 enabled, read,
    State.readLabel_of_valid first, State.readLabel_of_valid last]
  rfl

end

/-! ## The span result computed at once (R65) -/

/-- The span result that a window takes outside a report: against the clock value while the clock has one, and
otherwise kept unless no span is enabled (R65). -/
def ChannelState.spanResult (x : ChannelState) : Bool :=
  if x.clock.status = .invalid then x.window.spanMatch && x.window.anySpan else x.window.spanTest x.clock.value

section
variable {x : ChannelState}

theorem ChannelState.spanResult_value (valid : x.clock.status ≠ .invalid) :
    x.spanResult = x.window.spanTest x.clock.value :=
  if_neg valid

theorem ChannelState.spanResult_kept (invalid : x.clock.status = .invalid) :
    x.spanResult = (x.window.spanMatch && x.window.anySpan) :=
  if_pos invalid

theorem ChannelState.spanResult_kept_iff (invalid : x.clock.status = .invalid) : x.spanResult = true
    ↔ x.window.spanMatch = true ∧ ∃ i, (x.window.spans.pick i).enabled = true := by
  rw [ChannelState.spanResult_kept invalid, Bool.and_eq_true, Window.anySpan_iff]

end

/-- The span result computed outside a report, SPAN following it; where the result is kept, SPAN was in step with it
already. -/
theorem suppressionTook_respan (s : State) (c : Channel)
    (follows : (s.chan c).window.suppression.span = (s.chan c).window.spanMatch) :
    (s.setChan c ((s.chan c).setWindow { (s.chan c).window with spanMatch := (s.chan c).spanResult })).SuppressionTook
      (s.respan c) c { (s.chan c).window.suppression with span := (s.chan c).spanResult } := by
  have computed := suppressionTook_setSpanResult s c
  by_cases invalid : (s.chan c).clock.status = .invalid
  · rw [ChannelState.spanResult_kept invalid, State.respan, if_pos invalid]
    cases some_ : (s.chan c).window.anySpan with
    | false => rw [Bool.and_false]; exact computed false
    | true =>
      have same : { (s.chan c).window.suppression with span := (s.chan c).window.spanMatch }
          = (s.chan c).window.suppression := Suppression.put_eq_self (m := .span) follows
      have kept : (s.chan c).setWindow { (s.chan c).window with spanMatch := (s.chan c).window.spanMatch }
          = s.chan c := rfl
      rw [Bool.and_true, if_pos rfl, same, kept, s.setChan_self]
      exact .refl s c
  · rw [ChannelState.spanResult_value invalid, State.respan, if_neg invalid]
    exact computed _

/-- The span result computed after a change of the channel's record. -/
theorem suppressionTook_setChan_respan (s : State) (c : Channel) {x : ChannelState}
    (follows : x.window.suppression.span = x.window.spanMatch) :
    (s.setChan c (x.setWindow { x.window with spanMatch := x.spanResult })).SuppressionTook
      ((s.setChan c x).respan c) c { x.window.suppression with span := x.spanResult } := by
  have took := suppressionTook_respan (s.setChan c x) c
  rw [State.setChan_chan_same, State.setChan_setChan] at took
  exact took follows

/-- Settles O26: the matcher by its equations, and SPAN_SET by `suppressionTook_setChan_respan`. -/
theorem spanSetResult : Obligations.SpanSetResult := by
  refine ⟨fun s c r => ⟨State.reportSpans_none, State.reportSpans_invalid, fun report valid => ?_⟩,
    fun s p tag ch index enable mode start stop room => ?_⟩
  · rw [State.reportSpans_valid report valid]
    exact ⟨_, Window.spanTest_iff _ _, suppressionTook_setSpanResult s c _⟩
  · have run : ∀ {u : State} {completion : Completion}, spanSet p ch index enable mode start stop s
          = (u, ⟨completion, []⟩) → exec (.spanSet p tag ch index enable mode start stop) s
            = .next (u.replied p tag 0x25 completion []) := fun owner =>
      exec_answered (r := .spanSet ch index enable mode start stop) (by simp) rfl room owner
    refine ⟨fun wrong => run (spanSet_badParam p s wrong), fun c i on wrap here at_ enabled wrapped first last levels =>
      ?_⟩
    intro number w spans
    obtain ⟨follows, -⟩ := levels c
    refine ⟨_, _, run (spanSet_taken p s here at_ enabled wrapped first last), fun valid => ?_, fun invalid => ?_,
      suppressionTook_setChan_respan s c follows⟩
    · rw [ChannelState.spanResult_value (x := (s.chan c).putSpan i _) valid]
      exact Window.spanTest_iff _ _
    · exact ChannelState.spanResult_kept_iff (x := (s.chan c).putSpan i _) invalid

end Sys2Proof.Machine
end

section
/-! PROOFS. What fitting makes of every value of a layout (R82 to R87), and PRESET_WRITE (R88). -/

namespace Sys2Proof.Machine

open Sys2Proof

/-! ## Sizes and positions on the raster (R83) -/

/-- A size brought into `least`–`limit`, in the words of R83. -/
def sizeWithin (least limit n : Nat) : Nat := if n < least then least else if limit < n then limit else n

/-- A position drawn back until a size `n` ends at `limit` (R83). -/
def placeWithin (limit n pos : Nat) : Nat := if limit - n < pos then limit - n else pos

theorem clampTo_eq_sizeWithin {least limit : Nat} (h : least ≤ limit) (n : Nat) :
    clampTo least limit n = sizeWithin least limit n := by
  unfold clampTo sizeWithin
  split_ifs <;> omega

theorem min_eq_placeWithin (limit n pos : Nat) : min pos (limit - n) = placeWithin limit n pos :=
  (min_comm _ _).trans (min_def_lt _ _)

theorem fitAxis_eq {least limit : Nat} (h : least ≤ limit) (x w : Nat) : fitAxis least limit x w
    = (placeWithin limit (sizeWithin least limit w) x, sizeWithin least limit w) := by
  rw [← min_eq_placeWithin, ← clampTo_eq_sizeWithin h]
  rfl

theorem fitCropAxis_eq {limit least inner : Nat} (h : least ≤ 8 * inner) (x w : Nat) :
    fitCropAxis limit least inner x w
      = (placeWithin limit (sizeWithin least (8 * inner) w) x, sizeWithin least (8 * inner) w) := by
  rw [← min_eq_placeWithin, ← clampTo_eq_sizeWithin h]
  rfl

theorem evenDown_eq_self {n : Nat} (even : n % 2 = 0) : evenDown n = n := by
  rw [evenDown, even, Nat.sub_zero]

theorem roundLine_eq_self {f : Format} {n : Nat} (line : interlaced f = true → n % 2 = 0) : roundLine f n = n := by
  unfold roundLine
  split
  · rename_i interlace; exact evenDown_eq_self (line interlace)
  · rfl

/-- A size in range, at a position where it stays on the raster, is kept with its position (R83). -/
theorem fitAxis_eq_self {least limit x w : Nat} (low : least ≤ w) (onto : x + w ≤ limit) :
    fitAxis least limit x w = (x, w) := by
  simp only [fitAxis, Prod.mk.injEq]
  omega

/-- A size between the least one and eight times the inner one keeps its place on the raster too (R85). -/
theorem fitCropAxis_eq_self {limit least inner x w : Nat} (low : least ≤ w) (high : w ≤ 8 * inner)
    (onto : x + w ≤ limit) : fitCropAxis limit least inner x w = (x, w) := by
  simp only [fitCropAxis, Prod.mk.injEq]
  omega

section
variable (f : Format)

/-! ## Rectangles, border and crop (R83 to R85, R87) -/

theorem fitRect_eq {lw lh : Nat} (wide : lw ≤ width f) (high : lh ≤ height f) (r : Rect) : fitRect f lw lh r = {
    x := evenDown (placeWithin (width f) (sizeWithin lw (width f) r.w) r.x), w := evenDown (sizeWithin lw (width f) r.w)
    y := roundLine f (placeWithin (height f) (sizeWithin lh (height f) r.h) r.y)
    h := roundLine f (sizeWithin lh (height f) r.h) } := by
  rw [fitRect, fitAxis_eq wide, fitAxis_eq high]

theorem fitRect_eq_self {lw lh : Nat} {r : Rect} (fits : r.Fits f lw lh) : fitRect f lw lh r = r := by
  obtain ⟨leastw, right, evenx, evenw, leasth, bottom, lines⟩ := fits
  rw [fitRect, fitAxis_eq_self leastw right, fitAxis_eq_self leasth bottom, evenDown_eq_self evenx,
    evenDown_eq_self evenw, roundLine_eq_self fun interlace => (lines interlace).1,
    roundLine_eq_self fun interlace => (lines interlace).2]

/-- No even border that the window leaves room for is larger than the fitted one (R84, R94). -/
theorem le_fitBorder {r : Rect} {b limit : Nat} (even : b % 2 = 0) (low : b ≤ limit) (wide : 32 + 2 * b ≤ r.w)
    (high : 18 + 2 * b ≤ r.h) : b ≤ fitBorder r limit := by
  simp only [fitBorder, evenDown]
  omega

theorem fitBorder_eq_self {r : Rect} {b : Nat} (even : b % 2 = 0) (wide : 32 + 2 * b ≤ r.w)
    (high : 18 + 2 * b ≤ r.h) : fitBorder r b = b :=
  Nat.le_antisymm (fitBorder_fits (by omega) (by omega) b).1 (le_fitBorder even (Nat.le_refl b) wide high)

theorem leastCropWidth_le (n : Nat) : evenUp ((n + 1) / 2) ≤ 8 * n := by
  unfold evenUp
  omega

theorem leastCropHeight_le (n : Nat) : leastCropHeight f n ≤ 8 * n := by
  unfold leastCropHeight
  split
  · exact leastCropWidth_le n
  · omega

/-- A crop on the raster brought to the size of the inner rectangle and drawn back (R85). -/
theorem fitCrop_eq (inner crop : Rect) :
    let r := fitRect f 0 0 crop
    let w := sizeWithin (evenUp ((inner.w + 1) / 2)) (8 * inner.w) r.w
    let h := sizeWithin (leastCropHeight f inner.h) (8 * inner.h) r.h
    fitCrop f inner crop = { x := placeWithin (width f) w r.x, y := placeWithin (height f) h r.y, w := w, h := h } := by
  rw [fitCrop, fitCropAxis_eq (leastCropWidth_le inner.w), fitCropAxis_eq (leastCropHeight_le f inner.h)]

theorem fitCrop_eq_self {inner crop : Rect} (fits : crop.Fits f 0 0) (leastw : inner.w ≤ 2 * crop.w)
    (mostw : crop.w ≤ 8 * inner.w) (leasth : inner.h ≤ 2 * crop.h) (mosth : crop.h ≤ 8 * inner.h) :
    fitCrop f inner crop = crop := by
  have onRaster := fitRect_eq_self f fits
  obtain ⟨-, right, -, evenw, -, bottom, lines⟩ := fits
  have wide : evenUp ((inner.w + 1) / 2) ≤ crop.w := by unfold evenUp; omega
  have high : leastCropHeight f inner.h ≤ crop.h := by
    unfold leastCropHeight evenUp
    split
    · rename_i interlace; have := lines interlace; omega
    · omega
  rw [fitCrop, onRaster, fitCropAxis_eq_self wide mostw right, fitCropAxis_eq_self high mosth bottom]

/-! ## Colours and key (R86) -/

theorem clampTo_eq_self {lo hi n : Nat} (low : lo ≤ n) (high : n ≤ hi) : clampTo lo hi n = n := by
  rw [clampTo, Nat.max_eq_right low, Nat.min_eq_right high]

theorem fitColour_eq (c : Colour) : fitColour c
    = { y := sizeWithin 64 940 c.y, cb := sizeWithin 64 960 c.cb, cr := sizeWithin 64 960 c.cr } := by
  simp [fitColour, clampTo_eq_sizeWithin]

theorem fitColour_eq_self {c : Colour} (legal : c.Legal) : fitColour c = c := by
  obtain ⟨y, y', cb, cb', cr, cr'⟩ := legal
  rw [fitColour, clampTo_eq_self y y', clampTo_eq_self cb cb', clampTo_eq_self cr cr']

theorem fitInner_eq (i : Nat) : fitInner i = min i 1791 := by
  unfold fitInner
  omega

theorem fitOuter_eq (i o : Nat) : fitOuter (fitInner i) o
    = if min o 1792 ≤ min i 1791 then min i 1791 + 1 else min o 1792 := by
  rw [fitOuter, fitInner_eq, Nat.min_comm 1792 o]

/-- Thresholds in order and in range are kept (R86). -/
theorem fitThresholds_eq_self {i o : Nat} (order : i < o) (range : o ≤ 1792) :
    fitInner i = i ∧ fitOuter i o = o := by
  have above : ¬ min 1792 o ≤ i := by omega
  exact ⟨by rw [fitInner_eq]; omega, by rw [fitOuter, if_neg above, Nat.min_eq_right range]⟩

/-! ## The whole layout (R82) -/

/-- A layout that fits the raster is stored as written. -/
theorem fitLayout_eq_self {l : Layout} (fitted : l.Fitted f) : fitLayout f l = l := by
  obtain ⟨window, border, even, innerw, innerh, crop, leastw, mostw, leasth, mosth, borderColour, fill, kb, kb', kr, kr',
    order, range, programme⟩ := fitted
  obtain ⟨inner, outer⟩ := fitThresholds_eq_self order range
  simp only [fitLayout, fitRect_eq_self f window, Nat.min_eq_right border, fitBorder_eq_self even innerw innerh,
    fitCrop_eq_self f (inner := inset l.window l.border) crop leastw mostw leasth mosth, fitColour_eq_self borderColour,
    fitColour_eq_self fill, clampTo_eq_self kb kb', clampTo_eq_self kr kr', inner, outer, fitRect_eq_self f programme]

end

/-- Settles O29: the two sides of `Layout.Fitted` by `fitLayout_fitted` and `fitLayout_eq_self`, the values by the
equation of each fitting. -/
theorem layoutFitting : Obligations.LayoutFitting := by
  intro f l t even line size place rect colour iw ih lw lh onRaster
  have sizes : 64 ≤ width f ∧ 36 ≤ height f := by cases f <;> decide
  have fitted : t.Fitted f := fitLayout_fitted f l
  obtain ⟨window, -, bordered, -⟩ := id fitted
  obtain ⟨leastw, -, -, -, leasth, -⟩ := window
  have border : t.border ≤ min 16 l.border := (fitBorder_fits (Nat.le_trans (by decide) leastw)
    (Nat.le_trans (by decide) leasth) (min 16 l.border)).1
  have raster : fitRect f 0 0 l.crop = onRaster := fitRect_eq f (Nat.zero_le _) (Nat.zero_le _) l.crop
  have crop := fitCrop_eq f (inset t.window t.border) l.crop
  rw [raster] at crop
  refine ⟨fitted, fitLayout_eq_self f, fitRect_eq f sizes.1 sizes.2 l.window,
    fitRect_eq f (Nat.div_le_self _ _) (Nat.div_le_self _ _) l.programme,
    ⟨bordered, border.trans (Nat.min_le_right _ _), border.trans (Nat.min_le_left _ _), fun b isEven below most wide high =>
      le_fitBorder isEven (Nat.le_min.2 ⟨most, below⟩) wide high⟩,
    congrArg Rect.w crop, congrArg Rect.h crop, ?_, ?_, fitColour_eq _, fitColour_eq _, rfl,
    clampTo_eq_sizeWithin (by decide) _, clampTo_eq_sizeWithin (by decide) _, fitInner_eq _, fitOuter_eq _ _⟩
  · exact (congrArg Rect.x crop).trans (congrArg (placeWithin _ · _) (congrArg Rect.w crop).symm)
  · exact (congrArg Rect.y crop).trans (congrArg (placeWithin _ · _) (congrArg Rect.h crop).symm)

/-! ## PRESET_WRITE (R82, R88) -/

section
variable {ch index : Byte} {f : PresetFields}

theorem readLayout_none (high : 2 ≤ f.key.toNat) : readLayout f = none := by
  rw [readLayout, readFlag_none high]
  rfl

theorem presetWrite_badParam (p : PortId) (s : State)
    (wrong : 4 ≤ ch.toNat ∨ 8 ≤ index.toNat ∨ 2 ≤ f.key.toNat) :
    presetWrite p ch index f s = (s, refuse .badParam) := by
  rcases wrong with high | high | high
  · simp only [presetWrite, readChannel_none high]
  · rw [presetWrite, readPreset_none high]
    cases readChannel ch <;> rfl
  · rw [presetWrite, readLayout_none high]
    cases readChannel ch <;> cases readPreset index <;> rfl

theorem presetWrite_taken (p : PortId) (s : State) {c : Channel} {i : PresetIx} {written : Layout}
    (here : ch.toNat = c.val) (at_ : index.toNat = i.val) (read : readLayout f = some written) :
    let stored := fitLayout s.timing.format written
    presetWrite p ch index f s
      = (s.setChan c ((s.chan c).setPresets ((s.chan c).presets.put i { layout := stored, writer := some p })),
        taken (decide (stored ≠ written)) (layoutBytes stored ++ [portByte p])) := by
  simp only [presetWrite, readChannel_some here, readPreset_eq_some.2 at_.symm, read]
  rfl

end

/-- Settles O28: the refusals and the taken write by what `presetWrite` makes of its fields, the fitting by
`fitLayout_fitted` and `fitLayout_eq_self`. -/
theorem presetWriteResult : Obligations.PresetWriteResult := by
  intro s p tag ch index f room
  have run : ∀ {u : State} {completion : Completion} {payload : List Byte},
      presetWrite p ch index f s = (u, ⟨completion, payload⟩) →
      exec (.presetWrite p tag ch index f) s = .next (u.replied p tag 0x23 completion payload) := fun owner =>
    exec_answered (r := .presetWrite ch index f) (by simp) rfl room owner
  refine ⟨fun wrong => run (presetWrite_badParam p s wrong), fun c i key here at_ flag => ?_⟩
  intro rect colour written stored
  have read : readLayout f = some written := by
    rw [readLayout, readFlag_eq_some.2 flag]
    rfl
  exact ⟨run (presetWrite_taken p s here at_ read), fitLayout_fitted _ written, rfl, fitLayout_eq_self _,
    layoutBytes_length stored⟩

end Sys2Proof.Machine
end

section
/-! PROOFS. The period geometry (R93 to R97): rectangles along a move, the effective programme rectangle, and the ranges
of what is drawn from fitted layouts. -/

namespace Sys2Proof.Machine

open Sys2Proof

/-! ## Interpolation (R93) -/

/-- A value the part `k / n` of the way from `a` to `b`, the way truncated, in the words of R93. -/
def partWay (a b k n : Nat) : Nat := if a ≤ b then a + (b - a) * k / n else a - (a - b) * k / n

theorem interpolate_add (a d k n : Nat) : interpolate a (a + d) k n = a + d * k / n := by
  have way : ((a + d : Nat) : Int) - (a : Int) = (d : Int) := by omega
  rw [interpolate, way, ← Int.natCast_mul, ← Int.ofNat_tdiv, ← Int.natCast_add, Int.toNat_natCast]

theorem interpolate_sub (b d k n : Nat) : interpolate (b + d) b k n = b + d - d * k / n := by
  have way : (b : Int) - ((b + d : Nat) : Int) = -(d : Int) := by omega
  rw [interpolate, way, Int.neg_mul, Int.neg_tdiv, ← Int.natCast_mul, ← Int.ofNat_tdiv]
  omega

theorem interpolate_eq_partWay (a b k n : Nat) : interpolate a b k n = partWay a b k n := by
  unfold partWay
  split
  · rename_i up
    obtain ⟨d, rfl⟩ := Nat.exists_eq_add_of_le up
    rw [interpolate_add, Nat.add_sub_cancel_left]
  · rename_i down
    obtain ⟨d, rfl⟩ := Nat.exists_eq_add_of_le (Nat.le_of_not_le down)
    rw [interpolate_sub, Nat.add_sub_cancel_left]

@[simp] theorem interpolate_source (a b n : Nat) : interpolate a b 0 n = a := by
  simp [interpolate_eq_partWay, partWay]

theorem interpolate_target {n : Nat} (part : 0 < n) (a b : Nat) : interpolate a b n n = b := by
  rw [interpolate_eq_partWay, partWay, Nat.mul_div_cancel _ part, Nat.mul_div_cancel _ part]
  split <;> omega

section
variable {k n : Nat} (within : k ≤ n)
include within

/-- The part of a way is no longer than the way. -/
theorem part_le (d : Nat) : d * k / n ≤ d :=
  Nat.div_le_of_le_mul (by rw [Nat.mul_comm n]; exact Nat.mul_le_mul_left d within)

theorem le_interpolate {a b least : Nat} (source : least ≤ a) (target : least ≤ b) : least ≤ interpolate a b k n := by
  rw [interpolate_eq_partWay, partWay]
  have short := part_le within (a - b)
  split
  · exact Nat.le_add_right_of_le source
  · omega

theorem interpolate_le {a b most : Nat} (source : a ≤ most) (target : b ≤ most) : interpolate a b k n ≤ most := by
  rw [interpolate_eq_partWay, partWay]
  have short := part_le within (b - a)
  split
  · omega
  · exact (Nat.sub_le _ _).trans source

/-- Truncation of the way leaves an interpolated value less than 1 above the exact one. -/
theorem mul_interpolate_lt (part : 0 < n) (a b : Nat) : n * interpolate a b k n < a * (n - k) + b * k + n := by
  obtain ⟨m, rfl⟩ := Nat.exists_eq_add_of_le within
  rw [Nat.add_sub_cancel_left]
  rcases Nat.le_total a b with up | down
  · obtain ⟨d, rfl⟩ := Nat.exists_eq_add_of_le up
    have way := Nat.mul_div_le (d * k) (k + m)
    rw [interpolate_add]
    nlinarith
  · obtain ⟨d, rfl⟩ := Nat.exists_eq_add_of_le down
    have way := Nat.lt_mul_div_succ (d * k) part
    have short := part_le within d
    have split : (k + m) * (b + d - d * k / (k + m)) + (k + m) * (d * k / (k + m)) = (k + m) * (b + d) := by
      rw [← Nat.mul_add, Nat.sub_add_cancel (by omega)]
    rw [interpolate_sub]
    nlinarith

/-- A position and a size interpolated between two that end within a limit end at most 1 past it. -/
theorem interpolate_add_le (part : 0 < n) {x₀ w₀ x₁ w₁ limit : Nat} (source : x₀ + w₀ ≤ limit)
    (target : x₁ + w₁ ≤ limit) : interpolate x₀ x₁ k n + interpolate w₀ w₁ k n ≤ limit + 1 := by
  have position := mul_interpolate_lt within part x₀ x₁
  have size := mul_interpolate_lt within part w₀ w₁
  have ends : (x₀ + w₀) * (n - k) + (x₁ + w₁) * k ≤ limit * n := by
    calc (x₀ + w₀) * (n - k) + (x₁ + w₁) * k
        ≤ limit * (n - k) + limit * k := Nat.add_le_add (Nat.mul_le_mul_right _ source) (Nat.mul_le_mul_right _ target)
      _ = limit * n := by rw [← Nat.mul_add, Nat.sub_add_cancel within]
  have past : n * (interpolate x₀ x₁ k n + interpolate w₀ w₁ k n) < n * (limit + 2) := by nlinarith
  have := Nat.lt_of_mul_lt_mul_left past
  omega

end

/-! ## Rectangles along a move (R93) -/

section
variable (f : Format)

theorem le_evenDown {least n : Nat} (even : least % 2 = 0) (h : least ≤ n) : least ≤ evenDown n := by
  unfold evenDown
  omega

theorem evenDown_le (n : Nat) : evenDown n ≤ n := Nat.sub_le _ _

section
variable {r₀ r₁ : Rect} {k n lw lh : Nat} (source : r₀.Fits f lw lh) (target : r₁.Fits f lw lh) (within : k ≤ n)
include source target within

/-- The height of a rectangle along a move fits the raster. -/
theorem interpolateRect_h_le : (interpolateRect f r₀ r₁ k n).h ≤ height f := by
  obtain ⟨-, -, -, -, -, bottom₀, -⟩ := source
  obtain ⟨-, -, -, -, -, bottom₁, -⟩ := target
  exact (roundLine_le f _).trans (interpolate_le within (by omega) (by omega))

/-- A rectangle along a move, coordinate by coordinate, raised where it would end past the last line. -/
theorem interpolateRect_eq :
    let y := roundLine f (partWay r₀.y r₁.y k n)
    let h := roundLine f (partWay r₀.h r₁.h k n)
    interpolateRect f r₀ r₁ k n = {
      x := evenDown (partWay r₀.x r₁.x k n), w := evenDown (partWay r₀.w r₁.w k n)
      y := if height f < y + h then height f - h else y, h := h } := by
  have high := interpolateRect_h_le f source target within
  simp only [interpolateRect, interpolate_eq_partWay, Rect.mk.injEq, true_and, and_true] at high ⊢
  split <;> omega

/-- A rectangle along a move between two that fit the raster fits it. -/
theorem interpolateRect_fits (part : 0 < n) (even : lw % 2 = 0) (line : interlaced f = true → lh % 2 = 0) :
    (interpolateRect f r₀ r₁ k n).Fits f lw lh := by
  have high := interpolateRect_h_le f source target within
  obtain ⟨leastw₀, right₀, -, -, leasth₀, -, -⟩ := source
  obtain ⟨leastw₁, right₁, -, -, leasth₁, -, -⟩ := target
  have wide : lw ≤ interpolate r₀.w r₁.w k n := le_interpolate within leastw₀ leastw₁
  have tall : lh ≤ interpolate r₀.h r₁.h k n := le_interpolate within leasth₀ leasth₁
  have onto := interpolate_add_le within part right₀ right₁
  have widths := width_even f
  have heights := height_even f
  refine ⟨le_evenDown even wide, ?_, evenDown_even _, evenDown_even _, le_roundLine f line tall, ?_, fun interlace => ?_⟩
  · simp only [interpolateRect, evenDown]
    omega
  · simp only [interpolateRect] at high ⊢
    split <;> omega
  · have y := roundLine_even f interlace (interpolate r₀.y r₁.y k n)
    have h := roundLine_even f interlace (interpolate r₀.h r₁.h k n)
    simp only [interpolateRect]
    split <;> omega

end

section
variable {r₀ r₁ : Rect} {n lw lh : Nat}

theorem interpolateRect_source (source : r₀.Fits f lw lh) : interpolateRect f r₀ r₁ 0 n = r₀ := by
  obtain ⟨-, -, evenx, evenw, -, bottom, lines⟩ := source
  simp only [interpolateRect, interpolate_source, evenDown_eq_self evenx, evenDown_eq_self evenw,
    roundLine_eq_self fun interlace => (lines interlace).1, roundLine_eq_self fun interlace => (lines interlace).2,
    if_neg (Nat.not_lt.2 bottom)]

theorem interpolateRect_target (target : r₁.Fits f lw lh) (part : 0 < n) : interpolateRect f r₀ r₁ n n = r₁ := by
  obtain ⟨-, -, evenx, evenw, -, bottom, lines⟩ := target
  simp only [interpolateRect, interpolate_target part, evenDown_eq_self evenx, evenDown_eq_self evenw,
    roundLine_eq_self fun interlace => (lines interlace).1, roundLine_eq_self fun interlace => (lines interlace).2,
    if_neg (Nat.not_lt.2 bottom)]

end

/-! ## The effective programme rectangle (R96) -/

/-- The least sizes of a programme rectangle are rounded and not 0 (R87). -/
theorem quarter_raster : 0 < width f / 4 ∧ width f / 4 % 2 = 0 ∧ 4 * (width f / 4) = width f
    ∧ 0 < height f / 4 ∧ (interlaced f = true → height f / 4 % 2 = 0) ∧ 4 * (height f / 4) = height f := by
  cases f <;> decide

section
variable {p : Rect} (fits : p.Fits f (width f / 4) (height f / 4)) {opacity : Nat}
include fits

theorem effectiveProgramme_eq (opacity : Nat) : effectiveProgramme f p opacity = {
    x := evenDown (p.x * opacity / 1024), y := roundLine f (p.y * opacity / 1024)
    w := evenDown (width f - (width f - p.w) * opacity / 1024)
    h := roundLine f (height f - (height f - p.h) * opacity / 1024) } := by
  obtain ⟨-, right, -, -, -, bottom, -⟩ := fits
  obtain ⟨dx, wide⟩ : ∃ d, width f = p.w + d := Nat.exists_eq_add_of_le (by omega)
  obtain ⟨dy, high⟩ : ∃ d, height f = p.h + d := Nat.exists_eq_add_of_le (by omega)
  have start : ∀ x, interpolate 0 x opacity 1024 = x * opacity / 1024 := fun x => by
    simpa using interpolate_add 0 x opacity 1024
  rw [effectiveProgramme, start, start, wide, high, interpolate_sub, interpolate_sub, Nat.add_sub_cancel_left,
    Nat.add_sub_cancel_left]

/-- The effective programme rectangle fits the raster as the programme rectangle does. -/
theorem effectiveProgramme_fits (within : opacity ≤ 1024) :
    (effectiveProgramme f p opacity).Fits f (width f / 4) (height f / 4) := by
  rw [effectiveProgramme_eq f fits]
  obtain ⟨leastw, right, -, -, leasth, bottom, -⟩ := fits
  obtain ⟨-, quarterw, -, -, quarterh, -⟩ := quarter_raster f
  have narrowed := part_le within (width f - p.w)
  have lowered := part_le within (height f - p.h)
  have moved : p.x * opacity / 1024 ≤ (width f - p.w) * opacity / 1024 :=
    Nat.div_le_div_right (Nat.mul_le_mul_right _ (by omega))
  have dropped : p.y * opacity / 1024 ≤ (height f - p.h) * opacity / 1024 :=
    Nat.div_le_div_right (Nat.mul_le_mul_right _ (by omega))
  have x := evenDown_le (p.x * opacity / 1024)
  have w := evenDown_le (width f - (width f - p.w) * opacity / 1024)
  have y := roundLine_le f (p.y * opacity / 1024)
  have h := roundLine_le f (height f - (height f - p.h) * opacity / 1024)
  exact ⟨le_evenDown quarterw (by omega), by dsimp only; omega, evenDown_even _, evenDown_even _,
    le_roundLine f quarterh (by omega), by dsimp only; omega,
    fun interlace => ⟨roundLine_even f interlace _, roundLine_even f interlace _⟩⟩

theorem effectiveProgramme_transparent :
    effectiveProgramme f p 0 = { x := 0, y := 0, w := width f, h := height f } := by
  simp only [effectiveProgramme_eq f fits, Nat.mul_zero, Nat.zero_div, Nat.sub_zero, evenDown_eq_self (width_even f),
    evenDown_eq_self (Nat.zero_mod 2), roundLine_eq_self fun _ => height_even f,
    roundLine_eq_self (f := f) fun _ => Nat.zero_mod 2]

theorem effectiveProgramme_opaque : effectiveProgramme f p 1024 = p := by
  obtain ⟨-, -, evenx, evenw, -, -, lines⟩ := fits
  simp only [effectiveProgramme, interpolate_target (show 0 < 1024 by decide), evenDown_eq_self evenx,
    evenDown_eq_self evenw, roundLine_eq_self fun interlace => (lines interlace).1,
    roundLine_eq_self fun interlace => (lines interlace).2]

end

/-! ## Scaling steps (R95, R97) -/

section
variable {source output : Nat} (some_ : 0 < output)
include some_

/-- A scaling step lies between two bounds as the ratio of the sizes does. -/
theorem scalingStep_range {low high : Nat} (least : low * output ≤ source * 65536)
    (most : source * 65536 ≤ output * high) :
    low ≤ scalingStep source output ∧ scalingStep source output ≤ high :=
  ⟨(Nat.le_div_iff_mul_le some_).2 least, Nat.div_le_of_le_mul most⟩

/-- The signer's scaling lies between a half and 8 (R95). -/
theorem signerStep_range (half : output ≤ 2 * source) (most : source ≤ 8 * output) :
    32768 ≤ scalingStep source output ∧ scalingStep source output ≤ 524288 :=
  scalingStep_range some_ (by omega) (by omega)

/-- The programme's scaling lies between 1 and 4 (R97). -/
theorem programmeStep_range (within : output ≤ source) (most : source ≤ 4 * output) :
    65536 ≤ scalingStep source output ∧ scalingStep source output ≤ 262144 :=
  scalingStep_range some_ (by omega) (by omega)

end

/-! ## The layout a period is drawn from -/

/-- The three rectangles of a layout fit the raster and its border is within R84's limit, whether or not border and crop
suit the window as it stands along a move. -/
def Layout.OnRaster (l : Layout) (f : Format) : Prop :=
  l.window.Fits f 64 36 ∧ l.crop.Fits f 0 0 ∧ l.programme.Fits f (width f / 4) (height f / 4) ∧ l.border ≤ 16

theorem Layout.Fitted.onRaster {f : Format} {l : Layout} (fitted : l.Fitted f) : l.OnRaster f := by
  obtain ⟨window, border, -, -, -, crop, -, -, -, -, -, -, -, -, -, -, -, -, programme⟩ := fitted
  exact ⟨window, crop, programme, border⟩

theorem movingLayout_onRaster {l : Layout} {move : Option Move} (working : l.Fitted f)
    (ends : ∀ m ∈ move, m.source.Fitted f ∧ m.target.Fitted f ∧ 0 < m.length ∧ m.count ≤ m.length) :
    (movingLayout f l move).OnRaster f := by
  cases move with
  | none => exact working.onRaster
  | some m =>
    obtain ⟨source, target, part, within⟩ := ends m rfl
    obtain ⟨window₀, crop₀, programme₀, -⟩ := source.onRaster
    obtain ⟨window₁, crop₁, programme₁, border⟩ := target.onRaster
    obtain ⟨-, quarterw, -, -, quarterh, -⟩ := quarter_raster f
    exact ⟨interpolateRect_fits f window₀ window₁ within part rfl fun _ => rfl,
      interpolateRect_fits f crop₀ crop₁ within part rfl fun _ => rfl,
      interpolateRect_fits f programme₀ programme₁ within part quarterw quarterh, border⟩

/-- At the end of a move the layout drawn from is the target. -/
theorem movingLayout_target (l : Layout) {m : Move} (target : m.target.Fitted f) (part : 0 < m.length)
    (arrived : m.count = m.length) : movingLayout f l (some m) = m.target := by
  obtain ⟨window, crop, programme, -⟩ := target.onRaster
  simp only [movingLayout, arrived, interpolateRect_target f window part, interpolateRect_target f crop part,
    interpolateRect_target f programme part]

/-- The layout of the period geometry: the border lowered to the window and the crop fitted to the inner rectangle
(R94, R95). -/
def periodLayout (f : Format) (l : Layout) : Layout :=
  { l with border := fitBorder l.window l.border, crop := fitCrop f (inset l.window (fitBorder l.window l.border)) l.crop }

theorem periodGeometry_layout (l : Layout) (move : Option Move) (opacity : Nat) :
    (periodGeometry f l move opacity).layout = periodLayout f (movingLayout f l move) := rfl

/-- A layout that fits the raster is drawn as it stands. -/
theorem periodLayout_eq_self {l : Layout} (fitted : l.Fitted f) : periodLayout f l = l := by
  obtain ⟨-, -, even, innerw, innerh, crop, leastw, mostw, leasth, mosth, -⟩ := fitted
  simp only [periodLayout, fitBorder_eq_self even innerw innerh,
    fitCrop_eq_self f (inner := inset l.window l.border) crop leastw mostw leasth mosth]

section
variable {l : Layout} (drawn : l.OnRaster f)
include drawn

theorem periodLayout_border : (periodLayout f l).border ≤ l.border ∧ (periodLayout f l).border % 2 = 0
    ∧ 32 + 2 * (periodLayout f l).border ≤ l.window.w ∧ 18 + 2 * (periodLayout f l).border ≤ l.window.h := by
  obtain ⟨⟨leastw, -, -, -, leasth, -⟩, -⟩ := drawn
  exact fitBorder_fits (Nat.le_trans (by decide) leastw) (Nat.le_trans (by decide) leasth) l.border

/-- The crop of a period lies on the raster, between half and eight times the size of the inner rectangle. -/
theorem periodLayout_crop_fits :
    let t := periodLayout f l
    let inner := inset t.window t.border
    t.crop.Fits f 0 0 ∧ inner.w ≤ 2 * t.crop.w ∧ t.crop.w ≤ 8 * inner.w ∧ inner.h ≤ 2 * t.crop.h
      ∧ t.crop.h ≤ 8 * inner.h := by
  obtain ⟨-, even, wide, high⟩ := periodLayout_border f drawn
  obtain ⟨⟨-, right, -, evenw, -, bottom, lines⟩, -⟩ := drawn
  have w : (inset l.window (periodLayout f l).border).w = l.window.w - 2 * (periodLayout f l).border := rfl
  have h : (inset l.window (periodLayout f l).border).h = l.window.h - 2 * (periodLayout f l).border := rfl
  exact fitCrop_fits f (inner := inset l.window (periodLayout f l).border) (by omega) (by omega) (by omega) (by omega)
    (by omega) (fun interlace => by have := lines interlace; omega) l.crop

/-- The crop of a period by R95: brought to the size of the inner rectangle, then drawn back onto the raster. -/
theorem periodLayout_crop_eq :
    let t := periodLayout f l
    let inner := inset t.window t.border
    t.crop.w = sizeWithin (evenUp ((inner.w + 1) / 2)) (8 * inner.w) l.crop.w
      ∧ t.crop.h = sizeWithin (leastCropHeight f inner.h) (8 * inner.h) l.crop.h
      ∧ t.crop.x = placeWithin (width f) t.crop.w l.crop.x ∧ t.crop.y = placeWithin (height f) t.crop.h l.crop.y := by
  intro t inner
  obtain ⟨-, crop, -⟩ := drawn
  have fitted : t.crop = _ := fitCrop_eq f inner l.crop
  rw [fitRect_eq_self f crop] at fitted
  rw [fitted]
  exact ⟨rfl, rfl, rfl, rfl⟩

end

/-! ## The period geometry (R93 to R97) -/

theorem periodGeometry_inRange {l : Layout} {move : Option Move} {opacity : Nat}
    (drawn : (movingLayout f l move).OnRaster f) (within : opacity ≤ 1024) :
    (periodGeometry f l move opacity).InRange f := by
  obtain ⟨crop, leastx, mostx, leasty, mosty⟩ := periodLayout_crop_fits f drawn
  obtain ⟨border, even, wide, high⟩ := periodLayout_border f drawn
  obtain ⟨window, -, programme, limit⟩ := drawn
  have effective := effectiveProgramme_fits f programme within
  obtain ⟨leastw, right, -, -, leasth, bottom, -⟩ := id effective
  obtain ⟨somew, -, quarterw, someh, -, quarterh⟩ := quarter_raster f
  have somex : 32 ≤ (periodGeometry f l move opacity).inner.w := Nat.le_sub_of_add_le wide
  have somey : 18 ≤ (periodGeometry f l move opacity).inner.h := Nat.le_sub_of_add_le high
  obtain ⟨slowx, fastx⟩ := signerStep_range (Nat.lt_of_lt_of_le (by decide) somex) leastx mostx
  obtain ⟨slowy, fasty⟩ := signerStep_range (Nat.lt_of_lt_of_le (by decide) somey) leasty mosty
  obtain ⟨slowpx, fastpx⟩ := programmeStep_range (Nat.lt_of_lt_of_le somew leastw) (source := width f)
    (by omega) (by omega)
  obtain ⟨slowpy, fastpy⟩ := programmeStep_range (Nat.lt_of_lt_of_le someh leasth) (source := height f)
    (by omega) (by omega)
  refine ⟨window, crop, border.trans limit, even, somex, somey, rfl, slowx, fastx, slowy, fasty, effective, slowpx,
    fastpx, slowpy, fastpy, ?_, ?_⟩
  · rintro rfl
    exact effectiveProgramme_transparent f programme
  · rintro rfl
    exact effectiveProgramme_opaque f programme

end

/-- Settles O30: the ranges by `periodGeometry_inRange`, the values along a move by the equations of the interpolated
rectangles, the border and the crop, and its ends by `interpolateRect_source` and `movingLayout_target`. -/
theorem periodGeometryRanges : Obligations.PeriodGeometryRanges := by
  intro f l move opacity working within ends g
  have drawn := movingLayout_onRaster f working ends
  obtain ⟨-, -, programme, -⟩ := id drawn
  refine ⟨periodGeometry_inRange f drawn within, rfl, rfl, rfl, rfl, rfl, ?_,
    ⟨effectiveProgramme_eq f programme opacity, ?_⟩, ?_, ?_⟩
  · rintro rfl
    exact periodLayout_eq_self f working
  · rintro m rfl rect size place lw lh crop
    obtain ⟨source, target, -, within⟩ := ends m rfl
    obtain ⟨window₀, crop₀, programme₀, -⟩ := source.onRaster
    obtain ⟨window₁, crop₁, programme₁, -⟩ := target.onRaster
    obtain ⟨border, -⟩ := periodLayout_border f drawn
    obtain ⟨w, h, x, y⟩ := periodLayout_crop_eq f drawn
    have onto : (movingLayout f l (some m)).crop = crop := interpolateRect_eq f crop₀ crop₁ within
    rw [onto] at w h x y
    exact ⟨interpolateRect_eq f window₀ window₁ within, interpolateRect_eq f programme₀ programme₁ within, border,
      fun b even below wide high => le_fitBorder even below wide high, w, h, x, y, rfl⟩
  · rintro m rfl begun
    obtain ⟨source, -⟩ := ends m rfl
    obtain ⟨window, -, programme, -⟩ := source.onRaster
    have start : ∀ {r₀ r₁ : Rect} {lw lh : Nat}, r₀.Fits f lw lh → interpolateRect f r₀ r₁ m.count m.length = r₀ :=
      fun fits => begun ▸ interpolateRect_source f fits
    exact ⟨start window, start programme, rfl, rfl⟩
  · rintro m rfl arrived
    obtain ⟨-, target, part, -⟩ := ends m rfl
    have reached := movingLayout_target f l target part arrived
    exact (congrArg (periodLayout f) reached).trans (periodLayout_eq_self f target)

end Sys2Proof.Machine
end

section
/-! PROOFS. The compositing path (R99 to R113): which source samples are selected, what the window layer shows, its key
and effective alpha, the mix, and programme out of them. -/

namespace Sys2Proof.Machine

open Sys2Proof

/-! ## Samples -/

theorem sampleOf_toNat {n : Nat} (h : n < 1024) : (sampleOf n).toNat = n := by
  rw [sampleOf, BitVec.toNat_ofNat, Nat.mod_eq_of_lt h]

section
variable {lo hi : Nat} (range : lo ≤ hi) (bits : hi < 1024)
include range bits

/-- A clamped value fits a sample. -/
theorem sampleOf_clampTo_toNat (n : Nat) : (sampleOf (clampTo lo hi n)).toNat = clampTo lo hi n :=
  sampleOf_toNat ((clampTo_range range n).2.trans_lt bits)

theorem limitSample_toNat (x : Sample) : (limitSample lo hi x).toNat = sizeWithin lo hi x.toNat := by
  rw [limitSample, sampleOf_clampTo_toNat range bits, clampTo_eq_sizeWithin range]

theorem limitSample_range (x : Sample) : lo ≤ (limitSample lo hi x).toNat ∧ (limitSample lo hi x).toNat ≤ hi := by
  rw [limitSample, sampleOf_clampTo_toNat range bits]
  exact clampTo_range range _

end

/-! ## Selection (R103 to R106) -/

@[simp] theorem Rect.holds_iff (r : Rect) (x y : Nat) :
    r.holds x y = true ↔ r.x ≤ x ∧ x < r.x + r.w ∧ r.y ≤ y ∧ y < r.y + r.h := by
  simp [Rect.holds, and_assoc]

/-- A step of 1 in 16.16 fixed point selects every place itself. -/
@[simp] theorem scaled_unit (n : Nat) : scaled n 65536 = n := Nat.mul_div_cancel n (by decide)

theorem scalingStep_self {n : Nat} (some_ : 0 < n) : scalingStep n n = 65536 := Nat.mul_div_cancel_left _ some_

/-- Both columns of a pair selected in place are the pair. -/
theorem selectPair_adjacent (p : Picture) (line : Nat) {x : Nat} (even : x % 2 = 0) :
    selectPair p line x (x + 1) = pairAt p line (x / 2) := by
  have odd : (x + 1) % 2 ≠ 0 := by omega
  have same : (x + 1) / 2 = x / 2 := by omega
  simp only [selectPair, lumaAt, if_pos even, if_neg odd, same]

section
variable {f : Format} {g : PeriodGeometry} {p : Picture} {x y : Nat}

theorem programmePair_effective (inside : g.effective.holds x y = true) : programmePair f g p x y
    = selectPair p (programmeLine f g y) (scaled (x - g.effective.x) g.programmeStepX)
        (scaled (x + 1 - g.effective.x) g.programmeStepX) := if_pos inside

theorem programmePair_fill (outside : ¬ g.effective.holds x y = true) :
    programmePair f g p x y = colourPair g.layout.fill := if_neg outside

end

/-- On the full raster at a step of 1 a frame line is taken from the line of the period that it stands on (R104). -/
theorem programmeLine_frameLine (f : Format) {g : PeriodGeometry} (top : g.effective.y = 0)
    (unit : g.programmeStepY = 65536) (second : Bool) (line : Nat) :
    programmeLine f g (frameLine f second line) = line := by
  simp only [programmeLine, frameLine, top, unit, scaled_unit]
  split
  · split <;> omega
  · rfl

/-! ## The period of opacity 0 (R96, R100) -/

theorem effectiveProgramme_zero (f : Format) (p : Rect) :
    effectiveProgramme f p 0 = { x := 0, y := 0, w := width f, h := height f } := by
  simp only [effectiveProgramme, interpolate_source, evenDown_eq_self (width_even f),
    evenDown_eq_self (Nat.zero_mod 2), roundLine_eq_self fun _ => height_even f,
    roundLine_eq_self (f := f) fun _ => Nat.zero_mod 2]

theorem width_pos (f : Format) : 0 < width f := by cases f <;> decide

theorem height_pos (f : Format) : 0 < height f := by cases f <;> decide

theorem periodGeometry_zero (f : Format) (l : Layout) (move : Option Move) :
    let g := periodGeometry f l move 0
    g.effective = { x := 0, y := 0, w := width f, h := height f }
      ∧ g.programmeStepX = 65536 ∧ g.programmeStepY = 65536 := by
  intro g
  have full : g.effective = _ := effectiveProgramme_zero f (movingLayout f l move).programme
  have stepX : g.programmeStepX = scalingStep (width f) g.effective.w := rfl
  have stepY : g.programmeStepY = scalingStep (height f) g.effective.h := rfl
  rw [full] at stepX stepY
  exact ⟨full, stepX.trans (scalingStep_self (width_pos f)), stepY.trans (scalingStep_self (height_pos f))⟩

/-- With the full raster as effective programme rectangle and both programme steps 1, the programme layer is the
programme picture in place. -/
theorem programmePair_in_place {f : Format} {g : PeriodGeometry}
    (full : g.effective = { x := 0, y := 0, w := width f, h := height f }) (unitX : g.programmeStepX = 65536)
    (unitY : g.programmeStepY = 65536) (p : Picture) (second : Bool) {x line : Nat} (even : x % 2 = 0)
    (column : x < width f) (raster : frameLine f second line < height f) :
    programmePair f g p x (frameLine f second line) = pairAt p line (x / 2) := by
  have inside : g.effective.holds x (frameLine f second line) = true := by simp [full, column, raster]
  have left : g.effective.x = 0 := by rw [full]
  have top : g.effective.y = 0 := by rw [full]
  rw [programmePair_effective inside, programmeLine_frameLine f top unitY, left, unitX, scaled_unit, scaled_unit]
  exact selectPair_adjacent p line even

/-! ## Programme out and an output pair by its classes (R98 to R102) -/

/-- Programme out of a period that is not black is the composite of its latches (R98, R99, R113). -/
theorem programmeOut_lit {s : State} (ordinary : s.timing.relockPeriod = false) (picture : s.timing.blanking = false)
    (c : Channel) (line x : Nat) : s.programmeOut c line x
      = composite s.timing.format (s.chan c).latches
          ((s.chan c).sync.ring.pick (s.chan c).latches.signer).shown x
          (frameLine s.timing.format s.timing.secondPeriod line) line := by
  have lit : ¬ s.timing.dark = true := by simp [Timing.dark_iff, ordinary, picture]
  exact if_neg lit

section
variable (f : Format) {l : Latches} (signer : Picture) {x y : Nat} (line : Nat)

theorem composite_transparent (transparent : l.geometry.opacity = 0) (x y : Nat) :
    composite f l signer x y line = pairAt l.programme.picture line (x / 2) := if_pos transparent

theorem composite_outside (visible : 0 < l.geometry.opacity) (outside : l.geometry.layout.window.holds x y = false) :
    composite f l signer x y line = programmePair f l.geometry l.programme.picture x y := by
  simp only [composite, if_neg visible.ne', outside, Bool.false_eq_true, if_false]

theorem composite_inside (visible : 0 < l.geometry.opacity) (inside : l.geometry.layout.window.holds x y = true) :
    composite f l signer x y line
      = mixPair (effectiveAlpha l.geometry.opacity (windowPair f l signer x y).2)
          (programmePair f l.geometry l.programme.picture x y) (windowPair f l signer x y).1 := by
  simp only [composite, if_neg visible.ne', inside, if_true]

/-! ## The window layer (R105 to R107, R111, R112) -/

theorem windowPair_signer (inside : l.geometry.inner.holds x y = true) (picture : l.display = .picture) :
    windowPair f l signer x y = (signerPair f l.geometry signer x y,
      if l.geometry.layout.key then keyAlpha l.geometry.layout (signerPair f l.geometry signer x y) else 1024) :=
  if_pos ⟨inside, picture⟩

theorem windowPair_border (h : ¬ l.geometry.inner.holds x y = true ∨ l.display = .backdrop) :
    windowPair f l signer x y = (colourPair l.geometry.layout.borderColour, 1024) := by
  refine if_neg fun ⟨inside, picture⟩ => ?_
  rcases h with outside | backdrop
  · exact outside inside
  · rw [picture] at backdrop
    nomatch backdrop

end

/-- The signer's chroma is in legal range before it is keyed (R107). -/
theorem signerPair_chroma_range (f : Format) (g : PeriodGeometry) (p : Picture) (x y : Nat) :
    let s := signerPair f g p x y
    64 ≤ s.cb.toNat ∧ s.cb.toNat ≤ 960 ∧ 64 ≤ s.cr.toNat ∧ s.cr.toNat ≤ 960 := by
  have range := limitSample_range (lo := 64) (hi := 960) (by decide) (by decide)
  exact ⟨(range _).1, (range _).2, (range _).1, (range _).2⟩

/-! ## Key alpha and effective alpha (R108, R109) -/

theorem apart_eq_natAbs (a b : Nat) : apart a b = ((a : Int) - (b : Int)).natAbs := by
  unfold apart
  omega

/-- The distance of a pair's chroma from the key colour (R108). -/
def keyDistance (l : Layout) (s : Pair) : Nat :=
  ((s.cb.toNat : Int) - (l.kb : Int)).natAbs + ((s.cr.toNat : Int) - (l.kr : Int)).natAbs

theorem keyAlpha_eq (l : Layout) (s : Pair) : keyAlpha l s =
    if keyDistance l s ≤ l.inner then 0
    else if keyDistance l s < l.outer then (keyDistance l s - l.inner) * 1024 / (l.outer - l.inner)
    else 1024 := by
  have distance : keyDistance l s = apart s.cb.toNat l.kb + apart s.cr.toNat l.kr := by
    simp only [keyDistance, apart_eq_natAbs]
  rw [distance]
  rfl

theorem keyAlpha_near {l : Layout} {s : Pair} (near : keyDistance l s ≤ l.inner) : keyAlpha l s = 0 := by
  rw [keyAlpha_eq, if_pos near]

theorem keyAlpha_between {l : Layout} {s : Pair} (above : l.inner < keyDistance l s)
    (below : keyDistance l s < l.outer) :
    keyAlpha l s = (keyDistance l s - l.inner) * 1024 / (l.outer - l.inner) := by
  rw [keyAlpha_eq, if_neg above.not_ge, if_pos below]

section
variable {l : Layout} (thresholds : l.inner < l.outer)
include thresholds

theorem keyAlpha_far {s : Pair} (far : l.outer ≤ keyDistance l s) : keyAlpha l s = 1024 := by
  rw [keyAlpha_eq, if_neg (thresholds.trans_le far).not_ge, if_neg far.not_gt]

theorem keyAlpha_le (s : Pair) : keyAlpha l s ≤ 1024 := by
  rw [keyAlpha_eq]
  split
  · exact Nat.zero_le _
  · split
    · exact Nat.div_le_of_le_mul (Nat.mul_le_mul_right _ (by omega))
    · exact Nat.le_refl _

end

section
variable {opacity k : Nat}

theorem effectiveAlpha_le (within : opacity ≤ 1024) (key : k ≤ 1024) : effectiveAlpha opacity k ≤ 1024 := by
  have product : opacity * k ≤ 1024 * 1024 := Nat.mul_le_mul within key
  unfold effectiveAlpha
  omega

@[simp] theorem effectiveAlpha_unkeyed : effectiveAlpha opacity 1024 = opacity := by
  unfold effectiveAlpha
  omega

@[simp] theorem effectiveAlpha_zero : effectiveAlpha opacity 0 = 0 := by
  simp [effectiveAlpha]

@[simp] theorem effectiveAlpha_opaque : effectiveAlpha 1024 k = k := by
  unfold effectiveAlpha
  omega

end

/-- The key alpha that goes with the window's pair (R108). -/
theorem windowPair_alpha_le (f : Format) {l : Latches} (signer : Picture) (x y : Nat)
    (thresholds : l.geometry.layout.inner < l.geometry.layout.outer) : (windowPair f l signer x y).2 ≤ 1024 := by
  by_cases shown : l.geometry.inner.holds x y = true ∧ l.display = .picture
  · obtain ⟨inside, picture⟩ := shown
    rw [windowPair_signer f signer inside picture]
    dsimp only
    split
    · exact keyAlpha_le thresholds _
    · exact Nat.le_refl _
  · rw [windowPair, if_neg shown]

theorem windowPair_alpha_unkeyed (f : Format) {l : Latches} (signer : Picture) {x y : Nat}
    (h : l.geometry.layout.key = false ∨ l.display = .backdrop ∨ l.geometry.inner.holds x y = false) :
    (windowPair f l signer x y).2 = 1024 := by
  by_cases shown : l.geometry.inner.holds x y = true ∧ l.display = .picture
  · obtain ⟨inside, picture⟩ := shown
    have off : l.geometry.layout.key = false := by simpa [inside, picture] using h
    rw [windowPair_signer f signer inside picture, off]
    rfl
  · rw [windowPair, if_neg shown]

/-! ## The mix (R110) -/

/-- The value mixed of two samples before it is clamped, the quotient floored (R110). -/
def mixValue (a : Nat) (p s : Sample) : Int :=
  (p.toNat : Int) + (((s.toNat : Int) - (p.toNat : Int)) * (a : Int) + 512) / 1024

theorem mixValue_zero (p s : Sample) : mixValue 0 p s = p.toNat := by
  simp [mixValue]

theorem mixValue_full (p s : Sample) : mixValue 1024 p s = s.toNat := by
  unfold mixValue
  omega

section
variable {lo hi : Nat} (range : lo ≤ hi) (bits : hi < 1024) (a : Nat) (p s : Sample)
include range bits

theorem mixSample_toNat : ((mixSample lo hi a p s).toNat : Int) = max (lo : Int) (min (hi : Int) (mixValue a p s)) := by
  have clamped : (mixSample lo hi a p s).toNat = clampTo lo hi (mixValue a p s).toNat :=
    sampleOf_clampTo_toNat range bits _
  rw [clamped, clampTo]
  omega

theorem mixSample_range : lo ≤ (mixSample lo hi a p s).toNat ∧ (mixSample lo hi a p s).toNat ≤ hi := by
  have value := mixSample_toNat range bits a p s
  omega

theorem mixSample_zero : (mixSample lo hi 0 p s).toNat = max lo (min hi p.toNat) := by
  have value := mixSample_toNat range bits 0 p s
  rw [mixValue_zero] at value
  omega

theorem mixSample_full : (mixSample lo hi 1024 p s).toNat = max lo (min hi s.toNat) := by
  have value := mixSample_toNat range bits 1024 p s
  rw [mixValue_full] at value
  omega

end

/-- A mixed pair is in legal range. -/
theorem mixPair_legal (a : Nat) (p s : Pair) :
    let out := mixPair a p s
    64 ≤ out.y0.toNat ∧ out.y0.toNat ≤ 940 ∧ 64 ≤ out.y1.toNat ∧ out.y1.toNat ≤ 940
      ∧ 64 ≤ out.cb.toNat ∧ out.cb.toNat ≤ 960 ∧ 64 ≤ out.cr.toNat ∧ out.cr.toNat ≤ 960 := by
  have luma := mixSample_range (lo := 64) (hi := 940) (by decide) (by decide) a
  have chroma := mixSample_range (lo := 64) (hi := 960) (by decide) (by decide) a
  exact ⟨(luma _ _).1, (luma _ _).2, (luma _ _).1, (luma _ _).2,
    (chroma _ _).1, (chroma _ _).2, (chroma _ _).1, (chroma _ _).2⟩

/-! ## The obligations of the compositing path -/

/-- Settles O44: `composite_transparent`, for programme out through `programmeOut_lit`; the general path by
`periodGeometry_zero` and `programmePair_in_place`. -/
theorem opacityZero : Obligations.OpacityZero := by
  refine ⟨fun f l signer x y line transparent => composite_transparent f signer line transparent x y,
    fun s c line x ordinary picture transparent => ?_, fun f l move => ?_⟩
  · rw [programmeOut_lit ordinary picture]
    exact composite_transparent _ _ _ transparent _ _
  · obtain ⟨full, unitX, unitY⟩ := periodGeometry_zero f l move
    exact ⟨full, unitX, unitY,
      fun p second x line even column raster => programmePair_in_place full unitX unitY p second even column raster⟩

/-- Settles O45: the key alpha by its three ranges of the distance, and the ends of the effective alpha. -/
theorem alphaValues : Obligations.AlphaValues := by
  refine ⟨fun f l signer x y thresholds => ⟨windowPair_alpha_le f signer x y thresholds,
    windowPair_alpha_unkeyed f signer, fun key picture inside => ?_⟩, fun opacity k within keyed => ?_⟩
  · rw [windowPair_signer f signer inside picture, if_pos key]
    exact ⟨keyAlpha_near, keyAlpha_between, keyAlpha_far thresholds,
      signerPair_chroma_range f l.geometry signer x y⟩
  · refine ⟨rfl, effectiveAlpha_le within keyed, ?_, ?_, ?_⟩ <;> rintro rfl
    · exact effectiveAlpha_unkeyed
    · exact effectiveAlpha_zero
    · exact effectiveAlpha_opaque

/-- Settles O46: the mix by `mixSample_toNat` and its ends, an output pair by its classes, programme out by
`programmeOut_lit`, and what is mixed by the equations of the two layers. -/
theorem mixedSamples : Obligations.MixedSamples := by
  refine ⟨fun lo hi a p s range bits _ => ⟨mixSample_toNat range bits a p s, ?_, ?_⟩,
    fun f l signer x y line visible inside => ?_,
    fun f l signer x y line visible outside => composite_outside f signer line visible outside,
    fun s c line x ordinary picture _ => ?_, fun f l signer x y _ => ?_⟩
  · rintro rfl
    exact mixSample_zero range bits p s
  · rintro rfl
    exact mixSample_full range bits p s
  · rw [composite_inside f signer line visible inside]
    exact ⟨rfl, mixPair_legal _ _ _⟩
  · have stands : frameLine s.timing.format s.timing.secondPeriod line
        = if interlaced s.timing.format then (if s.timing.secondPeriod then 2 * line + 1 else 2 * line) else line := by
      unfold frameLine
      cases s.timing.secondPeriod <;> rfl
    rw [programmeOut_lit ordinary picture, stands]
    refine ⟨fun p n slot => ?_, fun slot => ?_⟩ <;> rw [slot] <;> rfl
  · have luma := limitSample_toNat (lo := 64) (hi := 940) (by decide) (by decide)
    have chroma := limitSample_toNat (lo := 64) (hi := 960) (by decide) (by decide)
    simp only [← Rect.holds_iff]
    refine ⟨programmePair_effective, programmePair_fill, fun inside picture => ?_, fun border => ?_⟩
    · rw [windowPair_signer f signer inside picture]
      exact ⟨luma _, luma _, chroma _, chroma _⟩
    · rw [windowPair_border f signer border]
      rfl

end Sys2Proof.Machine
end

section
/-! PROOFS. A change of a signer's lock state, whole: the record, the SIGNER level and the window that follows it, a
calibration run that ends with it, and what is posted (R59, R76, R122, R128, R133, R159, R162, R164). -/

namespace Sys2Proof.Machine

open Sys2Proof

/-! ## A change of one channel, each port with its own postings -/

/-- Between two states one channel took the record given, each port gained the latches given for it, and nothing else
differs. -/
structure State.Turned (s t : State) (c : Channel) (x : ChannelState) (posted : PortId → Latch → Prop) : Prop where
  frame : t = { s with channels := t.channels, ports := t.ports }
  others : ∀ d, d ≠ c → t.chan d = s.chan d
  own : t.chan c = x
  latches : ∀ q, (s.port q).Posted (t.port q) (posted q)

namespace State.Turned

variable {s t u : State} {c : Channel} {x y : ChannelState} {a b : PortId → Latch → Prop}

theorem of_became {posted : Latch → Prop} (h : s.Became t c x posted) (cues : t.cues = s.cues) :
    s.Turned t c x fun _ => posted := by
  refine ⟨?_, fun d other => (h.chan d).trans (if_neg other), h.own, h.latches⟩
  have frame := h.frame
  rwa [cues] at frame

theorem refl (s : State) (c : Channel) : s.Turned s c (s.chan c) fun _ _ => False :=
  .of_became (.refl s c) rfl

theorem trans (h : s.Turned t c x a) (g : t.Turned u c y b) : s.Turned u c y fun q l => a q l ∨ b q l := by
  refine ⟨?_, fun d other => (g.others d other).trans (h.others d other), g.own, fun q => (h.latches q).trans (g.latches q)⟩
  rw [g.frame, h.frame]

theorem congr (h : s.Turned t c x a) (same : x = y) (posted : ∀ q l, a q l ↔ b q l) : s.Turned t c y b :=
  ⟨h.frame, h.others, same ▸ h.own, fun q => (h.latches q).congr (posted q)⟩

end State.Turned

/-! ## The end of a run (R159, R162, R164) -/

/-- A window after the CALIBRATION member leaves its suppression set (R59, R159). -/
def Window.runEnded (w : Window) (presets : Bank 8 Preset) : Window :=
  w.follow { w with suppression := { w.suppression with calibration := false } } presets w.fade

theorem Window.runEnded_settings (w : Window) (presets : Bank 8 Preset) : (w.runEnded presets).settings
    = (w.requested, { w.suppression with calibration := false }, w.contactHold, w.spans, w.spanMatch, w.fade) :=
  Window.follow_settings ..

/-- A channel after a run of it ended without a measurement (R159). -/
def ChannelState.runEnded (x : ChannelState) (r : RunResult) : ChannelState :=
  (x.setCalibration (x.calibration.finish r)).setWindow (x.window.runEnded x.presets)

/-- What the end of a run posts to a port, of the channel in the state `x` (R62, R164). -/
def ChannelState.EndPosts (x : ChannelState) (c : Channel) (q : PortId) (l : Latch) : Prop :=
  (l = .channel .suppressionChange c ∧ x.window.suppression.calibration = true)
    ∨ (l = .channel .calibrationDone c ∧ x.calibration.origin = some q)

theorem State.Turned.postDone (s : State) (c : Channel) : s.Turned (s.postDone c) c (s.chan c)
    fun q l => l = .channel .calibrationDone c ∧ (s.chan c).calibration.origin = some q := by
  cases origin : (s.chan c).calibration.origin with
  | none =>
    have idle : s.postDone c = s := by simp only [State.postDone, origin]
    rw [idle]
    exact (State.Turned.refl s c).congr rfl fun q l => by simp
  | some p =>
    have posts : s.postDone c = s.post p (.channel .calibrationDone c) := by simp only [State.postDone, origin]
    rw [posts]
    exact ⟨rfl, fun d _ => by simp, by simp, fun q => (s.post_posted p _ q).congr fun l => by simp [eq_comm]⟩

theorem State.Turned.endRun (s : State) (c : Channel) (r : RunResult) :
    s.Turned (s.endRun c r) c ((s.chan c).runEnded r) ((s.chan c).EndPosts c) := by
  have removed := State.Turned.of_became (State.Became.modChan_setMember s c
    (fun x => x.setCalibration (x.calibration.finish r)) .calibration false) (by simp)
  have done := State.Turned.postDone ((s.modChan c fun x => x.setCalibration (x.calibration.finish r)).setMember c
    .calibration false) c
  rw [removed.own] at done
  refine (removed.trans done).congr rfl fun q l => ?_
  simp [ChannelState.EndPosts, Suppression.has, Calibration.finish]

/-! ## The availability of a signer -/

theorem LockState.available_iff (x : LockState) : x.available = true ↔ x = .locked ∨ x = .holding := by
  cases x <;> simp [LockState.available]

theorem LockState.not_available_iff (x : LockState) : x.available = false ↔ x ≠ .locked ∧ x ≠ .holding := by
  cases x <;> simp [LockState.available]

/-- Whether a change from a lock state ends the channel's run: from available to unavailable while it is running (R162). -/
abbrev ChannelState.LossEnds (x : ChannelState) (old new : LockState) : Prop :=
  (old = .locked ∨ old = .holding) ∧ new ≠ .locked ∧ new ≠ .holding ∧ x.calibration.running = true

/-- A channel after the calibration unit is handed a change of lock state (R162). -/
def ChannelState.lossEnded (x : ChannelState) (old new : LockState) : ChannelState :=
  if x.LossEnds old new then x.runEnded .signal else x

theorem State.Turned.endOnLoss (s : State) (c : Channel) (old new : LockState) :
    s.Turned (s.endOnLoss c old new) c ((s.chan c).lossEnded old new)
      fun q l => (s.chan c).LossEnds old new ∧ (s.chan c).EndPosts c q l := by
  have due : (old.available = true ∧ new.available = false ∧ (s.chan c).calibration.running = true)
      ↔ (s.chan c).LossEnds old new := by
    rw [LockState.available_iff, LockState.not_available_iff, and_assoc]
  unfold State.endOnLoss ChannelState.lossEnded
  simp only [due]
  split
  · rename_i ends
    exact (State.Turned.endRun s c .signal).congr rfl fun q l => (and_iff_right ends).symm
  · rename_i goes_on
    exact (State.Turned.refl s c).congr rfl fun q l => iff_of_false id fun posts => goes_on posts.1

/-! ## The SIGNER level (R59, R128) -/

/-- A channel after its SIGNER level is set or cleared, the window following (R59, R128). -/
def ChannelState.leveled (x : ChannelState) (b : Bool) : ChannelState :=
  (x.setSync { x.sync with level := b }).setWindow (x.window.signed x.presets b)

theorem State.Turned.setLevel (s : State) (c : Channel) (b : Bool) :
    s.Turned (s.setLevel c b) c ((s.chan c).leveled b)
      fun _ l => l = .channel .suppressionChange c ∧ (s.chan c).window.suppression.signer ≠ b :=
  .of_became (.setLevel s c b) (by simp)

theorem Synchroniser.levelAfter_eq (x : Synchroniser) (new : LockState) : x.levelAfter new
    = if new = .lost ∨ new = .mismatch then x.level || decide (x.policy = .withdraw)
      else if new = .locked ∧ x.lock ≠ .holding then false else x.level := by
  cases new <;> by_cases withdraw : x.policy = .withdraw <;> by_cases holding : x.lock = .holding
    <;> simp [Synchroniser.levelAfter, withdraw, holding]

theorem Synchroniser.enter_eq (x : Synchroniser) (new : LockState) : x.enter new = { x with
    lock := new, history := if new = .acquiring then [] else x.history
    consecutive := if new = .acquiring then 0 else x.consecutive } := by
  unfold Synchroniser.enter
  split <;> rfl

/-! ## The change, whole (R122) -/

theorem State.LockTook.same {s : State} {c : Channel} {new : LockState} (h : HandOver)
    (same : (s.chan c).sync.lock = new) : s.LockTook s c new h :=
  ⟨fun _ => rfl, fun differs => absurd same differs⟩

theorem State.setLock_same {s : State} {c : Channel} {new : LockState} (h : HandOver)
    (same : (s.chan c).sync.lock = new) : s.setLock c new h = s :=
  if_pos same

theorem ChannelState.leveled_endPosts (x : ChannelState) (b : Bool) : (x.leveled b).EndPosts = x.EndPosts := by
  have member : (x.window.signed x.presets b).suppression.calibration = x.window.suppression.calibration :=
    congrArg (fun y => y.2.1.calibration) (x.window.signed_settings x.presets b)
  funext c q l
  simp only [ChannelState.EndPosts, ChannelState.leveled, ChannelState.setWindow_window, member]
  rfl

theorem ChannelState.lossEnded_signer (x : ChannelState) (old new : LockState) :
    (x.lossEnded old new).window.suppression.signer = x.window.suppression.signer := by
  unfold ChannelState.lossEnded
  split
  · exact congrArg (fun y => y.2.1.signer) (x.window.runEnded_settings x.presets)
  · rfl

/-- A channel after its lock state changes (R76, R122, R128, R162). -/
def ChannelState.lockChanged (x : ChannelState) (new : LockState) : HandOver → ChannelState
  | .windowFirst => ((x.setSync (x.sync.enter new)).leveled (x.sync.levelAfter new)).lossEnded x.sync.lock new
  | .calibrationFirst => ((x.setSync (x.sync.enter new)).lossEnded x.sync.lock new).leveled (x.sync.levelAfter new)

theorem ChannelState.lossEnded_of_running {x y : ChannelState} (same : y.calibration.running = x.calibration.running)
    (old new : LockState) : y.lossEnded old new = if x.LossEnds old new then y.runEnded .signal else y := by
  unfold ChannelState.lossEnded ChannelState.LossEnds
  rw [same]

theorem ChannelState.lockChanged_eq (x : ChannelState) (new : LockState) (h : HandOver) : x.lockChanged new h
    = ((x.setSync { x.sync with
        lock := new, level := x.sync.levelAfter new
        history := if new = .acquiring then [] else x.sync.history
        consecutive := if new = .acquiring then 0 else x.sync.consecutive }).setCalibration
          (if x.LossEnds x.sync.lock new then x.calibration.finish .signal else x.calibration)).setWindow
            (if x.LossEnds x.sync.lock new then
              (if h = .windowFirst then (x.window.signed x.presets (x.sync.levelAfter new)).runEnded x.presets
                else (x.window.runEnded x.presets).signed x.presets (x.sync.levelAfter new))
            else x.window.signed x.presets (x.sync.levelAfter new)) := by
  cases h
  all_goals
    simp only [ChannelState.lockChanged]
    rw [Synchroniser.enter_eq, ChannelState.lossEnded_of_running (x := x)]
    · split <;> rfl
    · rfl

/-- What a change of lock state posts to a port, of the channel in the state `x` (R62, R133, R164). -/
def ChannelState.LockPosts (x : ChannelState) (c : Channel) (new : LockState) (q : PortId) (l : Latch) : Prop :=
  l = .channel .signerChange c
    ∨ (l = .channel .suppressionChange c ∧ x.window.suppression.signer ≠ x.sync.levelAfter new)
    ∨ (x.LossEnds x.sync.lock new ∧ x.EndPosts c q l)

theorem State.Turned.setLock {s : State} {c : Channel} {new : LockState} (h : HandOver)
    (differs : (s.chan c).sync.lock ≠ new) :
    s.Turned (s.setLock c new h) c ((s.chan c).lockChanged new h) ((s.chan c).LockPosts c new) := by
  have entered := State.Turned.of_became ((State.Became.modChan s c fun y =>
    y.setSync ((s.chan c).sync.enter new)).postAll (.channel .signerChange c)) rfl
  unfold State.setLock
  dsimp only
  rw [if_neg differs]
  generalize (s.modChan c fun y => y.setSync ((s.chan c).sync.enter new)).postAll (.channel .signerChange c) = t
    at entered ⊢
  cases h with
  | windowFirst =>
    have leveled := State.Turned.setLevel t c ((s.chan c).sync.levelAfter new)
    have ended := State.Turned.endOnLoss (t.setLevel c ((s.chan c).sync.levelAfter new)) c (s.chan c).sync.lock new
    rw [leveled.own, ChannelState.leveled_endPosts] at ended
    rw [entered.own] at leveled ended
    refine ((entered.trans leveled).trans ended).congr rfl fun q l => ?_
    rw [false_or, or_assoc]
    rfl
  | calibrationFirst =>
    have ended := State.Turned.endOnLoss t c (s.chan c).sync.lock new
    have leveled := State.Turned.setLevel (t.endOnLoss c (s.chan c).sync.lock new) c ((s.chan c).sync.levelAfter new)
    rw [ended.own, ChannelState.lossEnded_signer] at leveled
    rw [entered.own] at leveled ended
    refine ((entered.trans ended).trans leveled).congr rfl fun q l => ?_
    rw [false_or, or_right_comm, or_assoc]
    rfl

/-- A change of lock state is the whole change of R122, whatever the states. -/
theorem lockTook_setLock (s : State) (c : Channel) (new : LockState) (h : HandOver) :
    s.LockTook (s.setLock c new h) c new h := by
  refine ⟨fun same => State.setLock_same h same, fun differs => ?_⟩
  have turned := State.Turned.setLock h differs
  have level := (s.chan c).sync.levelAfter_eq new
  refine ⟨turned.frame, turned.others, ?_, fun q => (turned.latches q).congr fun l => ?_⟩
  · rw [turned.own, ← level]
    exact (s.chan c).lockChanged_eq new h
  · rw [← level]
    unfold ChannelState.LockPosts ChannelState.EndPosts
    simp only [and_or_left, or_assoc, and_left_comm]

/-- A change made under a condition. -/
theorem lockTook_setLock_if {p : Prop} [Decidable p] (s : State) (c : Channel) (new : LockState) (h : HandOver) :
    s.LockTook (if p then s.setLock c new h else s) c (if p then new else (s.chan c).sync.lock) h := by
  split
  · exact lockTook_setLock s c new h
  · exact State.LockTook.same h rfl

end Sys2Proof.Machine
end

section
/-! PROOFS. The link of a signer, the starts and completions of its pictures, and the choice at an output picture start
(R119 to R126). -/

namespace Sys2Proof.Machine

open Sys2Proof

/-! ## The link (R119, R120, R122) -/

theorem Synchroniser.discard_eq (x : Synchroniser) : x.discard = { x with
    incoming := none
    write := if x.incoming.isSome then none else x.write
    consecutive := if x.incoming.isSome then 0 else x.consecutive } := by
  cases x
  rename_i incoming signal
  cases incoming <;> rfl

theorem State.setChan_sync (s : State) (c : Channel) (x : Synchroniser) :
    ((s.setChan c ((s.chan c).setSync x)).chan c).sync = x := by
  rw [State.setChan_chan_same, ChannelState.setSync_sync]

/-- Settles O36: both events end in a change of lock state where the table has one, after the link's condition. -/
theorem signalEvents : Obligations.SignalEvents := by
  refine fun s c => ⟨⟨_, rfl, ?_⟩, ?_⟩
  · have took := lockTook_setLock_if (p := (s.chan c).sync.lock = .absent)
      (s.setChan c ((s.chan c).setSync { (s.chan c).sync with signal := true })) c .acquiring .windowFirst
    rw [State.setChan_sync] at took
    exact took
  · have took := lockTook_setLock_if (p := (s.chan c).sync.lock = .acquiring ∨ (s.chan c).sync.lock = .mismatch)
      (s.setChan c ((s.chan c).setSync { (s.chan c).sync.discard with signal := false, lastStart := none }))
      c .absent .windowFirst
    rw [State.setChan_sync, Synchroniser.discard_eq] at took
    refine ⟨_, ?_, took⟩
    show execSignalDown c s = _
    unfold execSignalDown
    simp only [Synchroniser.discard_eq]
    split <;> rfl

/-! ## The choice at an output picture start (R123, R126) -/

theorem Synchroniser.choose_fresh {x : Synchroniser} (available : x.lock = .locked ∨ x.lock = .holding)
    (unread : 0 < x.unread) : x.choose
      = { x with current := x.newest, unread := 0, drops := min 65535 (x.drops + (x.unread - 1)) }
      ∧ x.lockChosen = .locked := by
  have available := x.lock.available_iff.2 available
  constructor
  · rw [Synchroniser.choose, if_pos available, if_pos unread]
    rfl
  · rw [Synchroniser.lockChosen, if_pos available, if_pos unread]

theorem Synchroniser.choose_repeat {x : Synchroniser} (available : x.lock = .locked ∨ x.lock = .holding)
    (unread : x.unread = 0) : x.choose = { x with repeats := min 65535 (x.repeats + 1) }
      ∧ x.lockChosen = .holding := by
  have available := x.lock.available_iff.2 available
  have none : ¬ 0 < x.unread := by omega
  constructor
  · rw [Synchroniser.choose, if_pos available, if_neg none]
    rfl
  · rw [Synchroniser.lockChosen, if_pos available, if_neg none]

theorem Synchroniser.choose_unavailable {x : Synchroniser} (locked : x.lock ≠ .locked) (holding : x.lock ≠ .holding) :
    x.choose = x ∧ x.lockChosen = x.lock := by
  have unavailable : ¬ x.lock.available = true := fun h => (x.lock.available_iff.1 h).elim locked holding
  exact ⟨if_neg unavailable, if_neg unavailable⟩

section
variable {s : State} {c : Channel} (h : HandOver)

theorem State.chooseSigner_unavailable (locked : (s.chan c).sync.lock ≠ .locked)
    (holding : (s.chan c).sync.lock ≠ .holding) : s.chooseSigner c h = s := by
  obtain ⟨record, lock⟩ := Synchroniser.choose_unavailable locked holding
  have same : s.modChan c (fun z => z.setSync (s.chan c).sync) = s := s.setChan_self c
  unfold State.chooseSigner
  simp only [record, lock, locked, false_and, if_false, same]
  exact State.setLock_same h rfl

theorem State.chooseSigner_fresh (available : (s.chan c).sync.lock = .locked ∨ (s.chan c).sync.lock = .holding)
    (unread : 0 < (s.chan c).sync.unread) : s.chooseSigner c h
      = (s.setChan c ((s.chan c).setSync { (s.chan c).sync with
          current := (s.chan c).sync.newest, unread := 0
          drops := min 65535 ((s.chan c).sync.drops + ((s.chan c).sync.unread - 1)) })).setLock c .locked h := by
  obtain ⟨record, lock⟩ := Synchroniser.choose_fresh available unread
  unfold State.chooseSigner
  simp only [record, lock, reduceCtorEq, and_false, if_false]
  rfl

theorem State.chooseSigner_repeat (available : (s.chan c).sync.lock = .locked ∨ (s.chan c).sync.lock = .holding)
    (unread : (s.chan c).sync.unread = 0) : s.chooseSigner c h
      = (s.setChan c ((s.chan c).setSync { (s.chan c).sync with
          repeats := min 65535 ((s.chan c).sync.repeats + 1)
          holding := if (s.chan c).sync.lock = .locked then 0 else (s.chan c).sync.holding })).setLock c .holding h := by
  obtain ⟨record, lock⟩ := Synchroniser.choose_repeat available unread
  unfold State.chooseSigner
  simp only [record, lock, and_true]
  split <;> rfl

/-- The raising of the holding count, and LOST where it reaches the limit (R123). -/
theorem lockTook_raiseHolding (holding : (s.chan c).sync.lock = .holding) :
    (s.setChan c ((s.chan c).setSync { (s.chan c).sync with holding := (s.chan c).sync.holding + 1 })).LockTook
      (s.raiseHolding c h) c
      (if (s.chan c).sync.holdLimit ≤ (s.chan c).sync.holding + 1 then .lost else .holding) h := by
  have took := lockTook_setLock_if (p := (s.chan c).sync.holdLimit ≤ (s.chan c).sync.holding + 1)
    (s.setChan c ((s.chan c).setSync { (s.chan c).sync with holding := (s.chan c).sync.holding + 1 })) c .lost h
  rw [State.setChan_sync] at took
  rw [← holding]
  exact took

theorem exec_holdLimitReached_idle (idle : (s.chan c).sync.lock ≠ .holding
      ∨ (s.chan c).sync.holding + 1 < (s.chan c).sync.holdLimit) : exec (.holdLimitReached c h) s = .next s := by
  show execHoldLimitReached c h s = _
  exact if_neg fun ⟨holding, limit⟩ => idle.elim (· holding) (Nat.not_lt.2 limit)

end

/-- Settles O39: the three cases of the choice, and HOLD_LIMIT_REACHED as a raising of the holding count. -/
theorem signerChoice : Obligations.SignerChoice := by
  refine fun s c h => ⟨State.chooseSigner_unavailable h, fun available unread => ?_, fun available unread => ?_,
    exec_holdLimitReached_idle h, fun holding limit => ⟨s.raiseHolding c h, ?_, ?_⟩⟩
  · rw [State.chooseSigner_fresh h available unread]
    exact lockTook_setLock _ c .locked h
  · rw [State.chooseSigner_repeat h available unread]
    exact lockTook_setLock _ c .holding h
  · show execHoldLimitReached c h s = _
    exact if_pos ⟨holding, limit⟩
  · have took := lockTook_raiseHolding h holding
    rwa [if_pos limit] at took

end Sys2Proof.Machine
end

section
/-! PROOFS. PICTURE_START and PICTURE_COMPLETION: the interval measured, the write slot, the verdict on a completed
picture and what it does to the record (R118 to R122, R124, R125). -/

namespace Sys2Proof.Machine

open Sys2Proof

/-! ## The interval of a picture start (R120) -/

section
variable {x : Synchroniser} {f : Format} {now : Nat} {fresh : Bool}

theorem Synchroniser.measureStart_frame (x : Synchroniser) (f : Format) (now : Nat) (fresh : Bool) :
    x.measureStart f now fresh = { x with
      lastStart := some now, incoming := (x.measureStart f now fresh).incoming
      history := (x.measureStart f now fresh).history, consecutive := (x.measureStart f now fresh).consecutive } := by
  unfold Synchroniser.measureStart
  repeat' split
  all_goals rfl

theorem Synchroniser.measureStart_first (h : fresh = true ∨ x.lastStart = none) :
    x.measureStart f now fresh = { x with lastStart := some now, incoming := some { interval := none } } := by
  unfold Synchroniser.measureStart
  split
  · rfl
  · rename_i last start
    rw [if_pos (h.resolve_right (by simp [start]))]

theorem Synchroniser.measureStart_break {last : Nat} (kept : fresh = false) (start : x.lastStart = some last)
    (long : 2 * pictureInterval f < now - last) : x.measureStart f now fresh = { x with
      lastStart := some now, incoming := some { interval := none }, history := [], consecutive := 0 } := by
  simp only [Synchroniser.measureStart, start, kept, if_pos long, Bool.false_eq_true, if_false]

theorem Synchroniser.measureStart_interval {last : Nat} (kept : fresh = false) (start : x.lastStart = some last)
    (short : now - last ≤ 2 * pictureInterval f) : x.measureStart f now fresh = { x with
      lastStart := some now, incoming := some { interval := some (now - last) }
      history := historyAdd x.history (now - last) } := by
  simp only [Synchroniser.measureStart, start, kept, if_neg (Nat.not_lt.2 short), Bool.false_eq_true, if_false]

end

theorem historyAdd_eq (history : List Nat) (n : Nat) : historyAdd history n
    = if history.length < 16 then history ++ [n] else (history ++ [n]).drop (history.length - 15) := by
  unfold historyAdd
  split
  · rename_i room
    rw [show history.length - 15 = 0 by omega, List.drop_zero]
  · rfl

/-! ## The write slot (R124, R125) -/

/-- Slot `i` was completed less recently than slot `j`, of two alike the first (R124). -/
def Synchroniser.Before (x : Synchroniser) (i j : RingIx) : Prop :=
  (x.ring.pick i).rank < (x.ring.pick j).rank ∨ ((x.ring.pick i).rank = (x.ring.pick j).rank ∧ i < j)

theorem Synchroniser.Before.trans {x : Synchroniser} {i j k : RingIx} (h : x.Before i j) (g : x.Before j k) :
    x.Before i k := by
  unfold Synchroniser.Before at *
  rw [Fin.lt_def] at *
  omega

/-- Of two slots in order the candidate kept comes before the other. -/
theorem Synchroniser.older_some (x : Synchroniser) {a b : RingIx} (order : a < b) : ∃ kept left,
    (kept = a ∧ left = b ∨ kept = b ∧ left = a) ∧ x.older (some a) b = some kept ∧ x.Before kept left := by
  by_cases less : (x.ring.pick b).rank < (x.ring.pick a).rank
  · exact ⟨b, a, .inr ⟨rfl, rfl⟩, if_pos less, .inl less⟩
  · exact ⟨a, b, .inl ⟨rfl, rfl⟩, if_neg less, (Nat.lt_or_eq_of_le (Nat.not_lt.1 less)).imp_right fun same => ⟨same, order⟩⟩

/-- Of slots in order the one taken comes before all others. -/
theorem Synchroniser.foldl_older (x : Synchroniser) {a : RingIx} {l : List RingIx} (sorted : (a :: l).Pairwise (· < ·)) :
    ∃ i ∈ a :: l, l.foldl x.older (some a) = some i ∧ ∀ j ∈ a :: l, j ≠ i → x.Before i j := by
  induction l generalizing a with
  | nil => exact ⟨a, by simp, rfl, fun j mem other => absurd (List.mem_singleton.1 mem) other⟩
  | cons b l ih =>
    obtain ⟨first, tail⟩ := List.pairwise_cons.1 sorted
    obtain ⟨kept, left, either, taken, before⟩ := x.older_some (first b (by simp))
    have order : (kept :: l).Pairwise (· < ·) := by
      rcases either with ⟨rfl, rfl⟩ | ⟨rfl, rfl⟩
      · exact List.pairwise_cons.2 ⟨fun j mem => first j (by simp [mem]), (List.pairwise_cons.1 tail).2⟩
      · exact tail
    have mem_iff : ∀ j, j ∈ a :: b :: l ↔ j = left ∨ j ∈ kept :: l := fun j => by
      rcases either with ⟨rfl, rfl⟩ | ⟨rfl, rfl⟩
      · simp only [List.mem_cons, or_left_comm]
      · simp only [List.mem_cons]
    obtain ⟨i, mem, result, least⟩ := ih order
    refine ⟨i, (mem_iff i).2 (.inr mem), by rw [List.foldl_cons, taken, result], fun j hj other => ?_⟩
    rcases (mem_iff j).1 hj with rfl | hj
    · by_cases same : i = kept
      · exact same ▸ before
      · exact (least kept (by simp) (Ne.symm same)).trans before
    · exact least j hj other

/-- There is always a slot to write to, and the one taken comes before the others that may be (R124). -/
theorem Synchroniser.nextWrite_taken (x : Synchroniser) : ∃ i : RingIx, x.nextWrite = some i
    ∧ i ≠ x.current ∧ i ≠ x.newest ∧ ∀ j : RingIx, j ≠ i → j ≠ x.current → j ≠ x.newest → x.Before i j := by
  have third : ∀ a b : RingIx, ∃ i : RingIx, i ≠ a ∧ i ≠ b := by decide
  have sorted : (ringIndices.filter fun i => i ≠ x.current ∧ i ≠ x.newest).Pairwise (· < ·) :=
    List.Pairwise.filter _ (by decide : ringIndices.Pairwise (· < ·))
  have mem_iff : ∀ j, j ∈ ringIndices.filter (fun i => i ≠ x.current ∧ i ≠ x.newest) ↔ j ≠ x.current ∧ j ≠ x.newest :=
    fun j => by
      rw [List.mem_filter, decide_eq_true_iff]
      exact and_iff_right ((by decide : ∀ j : RingIx, j ∈ ringIndices) j)
  unfold Synchroniser.nextWrite
  cases free : ringIndices.filter fun i => i ≠ x.current ∧ i ≠ x.newest with
  | nil =>
    obtain ⟨i, apart⟩ := third x.current x.newest
    exact absurd ((mem_iff i).2 apart) (by rw [free]; exact List.not_mem_nil)
  | cons a l =>
    rw [free] at sorted mem_iff
    obtain ⟨i, mem, result, least⟩ := x.foldl_older sorted
    obtain ⟨current, newest⟩ := (mem_iff i).1 mem
    exact ⟨i, result, current, newest, fun j other c n => least j ((mem_iff j).2 ⟨c, n⟩) other⟩

theorem Synchroniser.beginWrite_frame (x : Synchroniser) :
    x.beginWrite = { x with write := x.beginWrite.write, ring := x.beginWrite.ring } := by
  unfold Synchroniser.beginWrite
  repeat' split
  all_goals rfl

theorem Synchroniser.beginWrite_idle {x : Synchroniser} (idle : x.lock = .absent ∨ x.lock = .mismatch) :
    x.beginWrite = x := by
  unfold Synchroniser.beginWrite
  rcases idle with idle | idle <;> rw [idle] <;> rfl

theorem Synchroniser.beginWrite_taken {x : Synchroniser} {i : RingIx}
    (writes : x.lock = .acquiring ∨ x.lock = .locked ∨ x.lock = .holding) (next : x.nextWrite = some i) :
    x.beginWrite = { x with write := some i, ring := x.ring.put i .unfinished } := by
  have writes : x.lock.writes = true := by rcases writes with h | h | h <;> rw [h] <;> rfl
  simp only [Synchroniser.beginWrite, writes, next, if_true]

/-- The record as a picture start leaves it: the interval measured, then the write slot taken (R120, R124). -/
def Synchroniser.started (y : Synchroniser) (f : Format) (now : Nat) (fresh : Bool) : Synchroniser :=
  (y.measureStart f now fresh).beginWrite

section
variable (y : Synchroniser) (f : Format) (now : Nat) (fresh : Bool)

theorem Synchroniser.started_frame : y.started f now fresh = { y with
    lastStart := some now, incoming := (y.started f now fresh).incoming, history := (y.started f now fresh).history
    consecutive := (y.started f now fresh).consecutive, write := (y.started f now fresh).write
    ring := (y.started f now fresh).ring } := by
  unfold Synchroniser.started Synchroniser.beginWrite Synchroniser.measureStart
  repeat' split
  all_goals rfl

/-- Taking a write slot leaves what was measured. -/
theorem Synchroniser.started_measured : (y.started f now fresh).incoming = (y.measureStart f now fresh).incoming
    ∧ (y.started f now fresh).history = (y.measureStart f now fresh).history
    ∧ (y.started f now fresh).consecutive = (y.measureStart f now fresh).consecutive := by
  unfold Synchroniser.started
  rw [Synchroniser.beginWrite_frame]
  exact ⟨rfl, rfl, rfl⟩

/-- Measuring leaves the lock state, the ring and its slots. -/
theorem Synchroniser.measureStart_ring : (y.measureStart f now fresh).lock = y.lock
    ∧ (y.measureStart f now fresh).ring = y.ring ∧ (y.measureStart f now fresh).write = y.write
    ∧ (y.measureStart f now fresh).current = y.current ∧ (y.measureStart f now fresh).newest = y.newest := by
  rw [Synchroniser.measureStart_frame]
  exact ⟨rfl, rfl, rfl, rfl, rfl⟩

theorem Synchroniser.started_idle (idle : y.lock = .absent ∨ y.lock = .mismatch) :
    (y.started f now fresh).write = y.write ∧ (y.started f now fresh).ring = y.ring := by
  obtain ⟨lock, ring, write, -, -⟩ := y.measureStart_ring f now fresh
  unfold Synchroniser.started
  rw [Synchroniser.beginWrite_idle (by rwa [lock])]
  exact ⟨write, ring⟩

theorem Synchroniser.started_writes (writes : y.lock = .acquiring ∨ y.lock = .locked ∨ y.lock = .holding) :
    ∃ i : RingIx, (y.started f now fresh).write = some i ∧ i ≠ y.current ∧ i ≠ y.newest
      ∧ (y.started f now fresh).ring = y.ring.put i .unfinished
      ∧ ∀ j : RingIx, j ≠ i → j ≠ y.current → j ≠ y.newest → y.Before i j := by
  obtain ⟨lock, ring, -, current, newest⟩ := y.measureStart_ring f now fresh
  obtain ⟨i, next, notCurrent, notNewest, least⟩ := (y.measureStart f now fresh).nextWrite_taken
  rw [current] at notCurrent
  rw [newest] at notNewest
  unfold Synchroniser.Before at least ⊢
  rw [ring, current, newest] at least
  unfold Synchroniser.started
  rw [Synchroniser.beginWrite_taken (by rwa [lock]) next, ring]
  exact ⟨i, rfl, notCurrent, notNewest, rfl, least⟩

end

/-- Settles O37: a discard, the change from LOST, then the measurement and the write slot of the record reached. -/
theorem pictureStartResult : Obligations.PictureStartResult := by
  intro s c now
  have took := lockTook_setLock_if (p := decide ((s.chan c).sync.lock = .lost) = true)
    (s.setChan c ((s.chan c).setSync (s.chan c).sync.discard)) c .acquiring .windowFirst
  rw [State.setChan_sync] at took
  simp only [Synchroniser.discard_eq, decide_eq_true_eq] at took
  refine ⟨_, ?_, took, fun y _ => ?_⟩
  · show execPictureStart c now s = _
    unfold execPictureStart
    simp only [Synchroniser.discard_eq, decide_eq_true_eq]
    rfl
  · obtain ⟨incoming, history, consecutive⟩ :=
      y.started_measured s.timing.format now (decide ((s.chan c).sync.lock = .lost))
    refine ⟨y.started_frame .., fun first => ?_, fun last kept start => ⟨fun long => ?_, fun short => ?_⟩,
      y.started_idle _ now _, y.started_writes _ now _⟩
    · rw [Synchroniser.measureStart_first (first.imp_left decide_eq_true)] at incoming history consecutive
      exact ⟨incoming, history, consecutive⟩
    · rw [Synchroniser.measureStart_break (decide_eq_false kept) start long] at incoming history consecutive
      exact ⟨incoming, history, consecutive⟩
    · rw [Synchroniser.measureStart_interval (decide_eq_false kept) start short] at incoming history consecutive
      exact ⟨incoming, consecutive, history.trans (historyAdd_eq _ _)⟩

/-! ## The verdict on a completed picture (R118, R119, R121) -/

/-- The lines of a field, or of a picture that has no fields, are those of the station format (R119). -/
def FieldRight (f : Format) (lines : List Nat) : Prop :=
  lines.length = (if (f = .f1 ∨ f = .f2) then 540 else if (f = .f5 ∨ f = .f6) then 720 else 1080)
    ∧ ∀ n ∈ lines, n = (if (f = .f5 ∨ f = .f6) then 1280 else 1920)

/-- The raster received is that of the station format, in two fields where it is interlaced (R119). -/
def RasterRight (f : Format) (raster : Raster) : Prop :=
  if (f = .f1 ∨ f = .f2) then ∃ a b, raster = [a, b] ∧ FieldRight f a ∧ FieldRight f b
  else ∃ a, raster = [a] ∧ FieldRight f a

theorem fieldRight_iff (f : Format) (lines : List Nat) : FieldRight f lines
    ↔ lines = List.replicate (if interlaced f then height f / 2 else height f) (width f) := by
  rw [List.eq_replicate_iff]
  cases f <;> exact Iff.rfl

theorem rasterRight_iff (f : Format) (raster : Raster) : rasterRight f raster = true ↔ RasterRight f raster := by
  have fields : interlaced f = true ↔ f = .f1 ∨ f = .f2 := by cases f <;> decide
  rw [rasterRight, decide_eq_true_iff, RasterRight, stationRaster]
  simp only [fieldRight_iff, ← fields]
  split
  · constructor
    · exact fun h => ⟨_, _, h, rfl, rfl⟩
    · rintro ⟨a, b, h, rfl, rfl⟩
      exact h
  · constructor
    · exact fun h => ⟨_, h, rfl⟩
    · rintro ⟨a, h, rfl⟩
      exact h

theorem Incoming.valid_iff (i : Incoming) (f : Format) (right : Bool) : i.valid f right = true
    ↔ right = true ∧ ∃ n, i.interval = some n ∧ pictureInterval f ≤ n + pictureTolerance f
      ∧ n ≤ pictureInterval f + pictureTolerance f := by
  rw [Incoming.valid, Bool.and_eq_true]
  refine and_congr_right fun _ => ?_
  cases interval : i.interval with
  | none => simp
  | some n => simp [intervalInRate, within_iff]

theorem Synchroniser.full_iff (x : Synchroniser) : x.full = true ↔ 16 ≤ x.history.length := decide_eq_true_iff

/-! ## The lock state after a completion (R122) -/

/-- A full history out of rate, or a wrong raster, is what loses a lock to MISMATCH (R122). -/
def Synchroniser.Misfit (x : Synchroniser) (f : Format) (right : Bool) : Prop :=
  right = false ∨ (x.full = true ∧ sumInRate f x.history = false)

section
variable {x : Synchroniser} {f : Format} {right valid : Bool} {n : Nat}

theorem Synchroniser.lockAfter_unjudged (lock : x.lock = .absent ∨ x.lock = .lost) :
    x.lockAfter f right valid n = x.lock := by
  rcases lock with lock | lock <;> simp only [Synchroniser.lockAfter, lock]

theorem Synchroniser.lockAfter_misfit (lock : x.lock = .acquiring ∨ x.lock = .locked ∨ x.lock = .holding)
    (misfit : x.Misfit f right) : x.lockAfter f right valid n = .mismatch := by
  rcases lock with lock | lock | lock <;> simp only [Synchroniser.lockAfter, lock] <;> exact if_pos misfit

theorem Synchroniser.lockAfter_fit (lock : x.lock = .locked ∨ x.lock = .holding) (fit : ¬ x.Misfit f right) :
    x.lockAfter f right valid n = x.lock := by
  rcases lock with lock | lock <;> simp only [Synchroniser.lockAfter, lock] <;> exact if_neg fit

theorem Synchroniser.lockAfter_acquiring (lock : x.lock = .acquiring) (fit : ¬ x.Misfit f right) :
    x.lockAfter f right valid n = if valid = true ∧ n = 16 then .locked else .acquiring := by
  simp only [Synchroniser.lockAfter, lock]
  exact if_neg fit

theorem Synchroniser.lockAfter_mismatch (lock : x.lock = .mismatch) : x.lockAfter f right valid n
    = if right = true ∧ x.full = true ∧ sumInRate f x.history = true then .acquiring else .mismatch := by
  simp only [Synchroniser.lockAfter, lock]

end

/-- A count of 16 is that of a valid picture (R121). -/
theorem countValid_full {valid : Bool} {n : Nat} : (valid = true ∧ countValid valid n = 16) ↔ countValid valid n = 16 := by
  cases valid <;> simp [countValid]

/-! ## The record after a completion (R119, R125) -/

section
variable (x : Synchroniser) (n : Nat) (new : LockState) (right : Bool) (p : Picture)

theorem Synchroniser.complete_frame : x.complete n new right p = { x with
    consecutive := n, incoming := none, write := none, ring := (x.complete n new right p).ring
    newest := (x.complete n new right p).newest, completions := (x.complete n new right p).completions
    unread := (x.complete n new right p).unread, drops := (x.complete n new right p).drops } := by
  unfold Synchroniser.complete Synchroniser.countUnread Synchroniser.store
  dsimp only
  repeat' split
  all_goals rfl

/-- What is stored does not depend on the counts. -/
theorem Synchroniser.complete_stored : (x.complete n new right p).ring = (x.store right p).ring
    ∧ (x.complete n new right p).newest = (x.store right p).newest := by
  unfold Synchroniser.complete Synchroniser.countUnread
  dsimp only
  repeat' split
  all_goals exact ⟨rfl, rfl⟩

/-- The counts do not depend on what is stored. -/
theorem Synchroniser.complete_counted : (x.complete n new right p).unread = (x.countUnread new).unread
    ∧ (x.complete n new right p).drops = (x.countUnread new).drops := by
  unfold Synchroniser.complete Synchroniser.countUnread Synchroniser.store
  dsimp only
  repeat' split
  all_goals exact ⟨rfl, rfl⟩

end

section
variable {x : Synchroniser} {n : Nat} {new : LockState} {right : Bool} {p : Picture}

theorem Synchroniser.complete_right {w : RingIx} (on : right = true) (write : x.write = some w) :
    (x.complete n new right p).ring = x.ring.put w (.picture p x.completions)
      ∧ (x.complete n new right p).newest = w := by
  obtain ⟨ring, newest⟩ := x.complete_stored n new right p
  rw [ring, newest, on]
  simp only [Synchroniser.store, write, and_self]

theorem Synchroniser.complete_nothing (h : right = false ∨ x.write = none) :
    (x.complete n new right p).ring = x.ring ∧ (x.complete n new right p).newest = x.newest := by
  obtain ⟨ring, newest⟩ := x.complete_stored n new right p
  rw [ring, newest]
  unfold Synchroniser.store
  split
  · rename_i i write
    simp [write] at h
  · exact ⟨rfl, rfl⟩

theorem Synchroniser.complete_locked (acquiring : x.lock = .acquiring) (locked : new = .locked) :
    (x.complete n new right p).unread = 1 ∧ (x.complete n new right p).drops = x.drops := by
  obtain ⟨unread, drops⟩ := x.complete_counted n new right p
  rw [unread, drops, Synchroniser.countUnread, if_pos ⟨acquiring, locked⟩]
  exact ⟨rfl, rfl⟩

theorem Synchroniser.complete_room (other : x.lock ≠ .acquiring) (available : new = .locked ∨ new = .holding)
    (room : x.unread < 2) :
    (x.complete n new right p).unread = x.unread + 1 ∧ (x.complete n new right p).drops = x.drops := by
  obtain ⟨unread, drops⟩ := x.complete_counted n new right p
  rw [unread, drops, Synchroniser.countUnread, if_neg fun h => other h.1, if_pos (new.available_iff.2 available),
    if_neg (Nat.not_le.2 room)]
  exact ⟨rfl, rfl⟩

theorem Synchroniser.complete_drop (other : x.lock ≠ .acquiring) (available : new = .locked ∨ new = .holding)
    (full : 2 ≤ x.unread) :
    (x.complete n new right p).unread = 2 ∧ (x.complete n new right p).drops = min 65535 (x.drops + 1) := by
  obtain ⟨unread, drops⟩ := x.complete_counted n new right p
  rw [unread, drops, Synchroniser.countUnread, if_neg fun h => other h.1, if_pos (new.available_iff.2 available),
    if_pos full]
  exact ⟨rfl, rfl⟩

theorem Synchroniser.complete_unavailable (locked : new ≠ .locked) (holding : new ≠ .holding) :
    (x.complete n new right p).unread = x.unread ∧ (x.complete n new right p).drops = x.drops := by
  obtain ⟨unread, drops⟩ := x.complete_counted n new right p
  rw [unread, drops, Synchroniser.countUnread, if_neg fun h => locked h.2,
    if_neg fun h => (new.available_iff.1 h).elim locked holding]
  exact ⟨rfl, rfl⟩

end

/-- Settles O38: the verdict and the count, the lock state by the table, and the record with its ring and counts. -/
theorem pictureCompletionResult : Obligations.PictureCompletionResult := by
  intro s c raster picture h x field right
  have verdict : rasterRight s.timing.format raster = true ↔ right := rasterRight_iff s.timing.format raster
  have wrong : rasterRight s.timing.format raster = false ↔ ¬ right := by rw [← verdict, Bool.not_eq_true]
  refine ⟨fun absent => ?_, fun i receiving => ?_⟩
  · show execPictureCompletion c raster picture h s = _
    simp only [execPictureCompletion, show (s.chan c).sync.incoming = none from absent]
  · intro nominal tolerance valid full steady
    have run : exec (.pictureCompletion c raster picture h) s
        = .next (s.completePicture c (rasterRight s.timing.format raster) picture h i) := by
      show execPictureCompletion c raster picture h s = _
      simp only [execPictureCompletion, show (s.chan c).sync.incoming = some i from receiving]
      rfl
    have judged : i.valid s.timing.format (rasterRight s.timing.format raster) = true ↔ valid := by
      rw [Incoming.valid_iff, verdict]
    have filled : x.full = true ↔ full := x.full_iff
    have rated : sumInRate s.timing.format x.history = true ↔ steady := within_iff ..
    have misfit : x.Misfit s.timing.format (rasterRight s.timing.format raster) ↔ ¬ right ∨ (full ∧ ¬ steady) := by
      rw [Synchroniser.Misfit, wrong, filled, ← Bool.not_eq_true, rated]
    have fits : right → ¬ full ∨ steady → ¬ x.Misfit s.timing.format (rasterRight s.timing.format raster) := by
      rw [misfit]
      rintro on rate (off | ⟨filled, unsteady⟩)
      · exact off on
      · exact rate.elim (· filled) unsteady
    have regained : right ∧ full ∧ steady ↔ rasterRight s.timing.format raster = true ∧ x.full = true
        ∧ sumInRate s.timing.format x.history = true := by rw [verdict, filled, rated]
    exact ⟨_, _, _, _, run, lockTook_setLock _ c _ h, fun ok => if_pos (judged.2 ok), fun bad => if_neg (mt judged.1 bad),
      Synchroniser.lockAfter_unjudged, fun lock off => Synchroniser.lockAfter_misfit lock (misfit.2 off),
      fun lock on rate => Synchroniser.lockAfter_fit lock (fits on rate),
      fun lock on rate => (Synchroniser.lockAfter_acquiring lock (fits on rate)).trans (if_congr countValid_full rfl rfl),
      fun lock all => (Synchroniser.lockAfter_mismatch lock).trans (if_pos (regained.1 all)),
      fun lock short => (Synchroniser.lockAfter_mismatch lock).trans (if_neg (mt regained.2 short)),
      x.complete_frame .., fun w on write => Synchroniser.complete_right (verdict.2 on) write,
      fun off => Synchroniser.complete_nothing (off.imp_left wrong.2), Synchroniser.complete_locked,
      fun other available =>
        ⟨Synchroniser.complete_room other available, Synchroniser.complete_drop other available⟩,
      Synchroniser.complete_unavailable⟩

end Sys2Proof.Machine
end

section
/-! PROOFS. The parts of a period start, each on any state: a synchroniser, a contact input, a calibration unit, and a
window controller with its latches and tallies (R54, R69, R70, R77, R97, R98, R113, R123, R126, R157, R161, R168, R174). -/

namespace Sys2Proof.Machine

open Sys2Proof

/-! ## A synchroniser (R113, R123, R126) -/

/-- The state after a synchroniser's choice, if it is an output picture start, and its holding count (R123, R126). -/
def State.syncChosen (u : State) (c : Channel) (picture : Bool) (h : HandOver) : State :=
  if picture then u.chooseSigner c h else u

def State.syncHeld (u : State) (c : Channel) (picture : Bool) (h : HandOver) : State :=
  if (u.chan c).sync.lock = .holding ∧ ((u.syncChosen c picture h).chan c).sync.lock = .holding then
    (u.syncChosen c picture h).raiseHolding c h
  else u.syncChosen c picture h

theorem State.syncPeriod_eq (u : State) (c : Channel) (picture : Bool) (h : HandOver) : u.syncPeriod c picture h
    = (u.syncHeld c picture h).setChan c (((u.syncHeld c picture h).chan c).setLatches
        { ((u.syncHeld c picture h).chan c).latches with signer := ((u.syncHeld c picture h).chan c).sync.current }) :=
  rfl

/-! ## A contact input (R168) -/

/-- The stable count after one more sample (R168). -/
def Gpi.stableAt (x : Gpi) (v : Contact) : Nat := if v = x.sampled then min 16 (x.stable + 1) else 1

section
variable {x : Gpi} {v : Contact}

theorem Gpi.sample_eq (x : Gpi) (v : Contact) : x.sample v = { x with
    sampled := v, stable := x.stableAt v
    debounced := if x.debounce + 1 ≤ x.stableAt v then v else x.debounced } := rfl

/-- A sample of the debounced state, or before the debounce completes, leaves the debounced state. -/
theorem Gpi.sample_kept (h : v = x.debounced ∨ x.stableAt v < x.debounce + 1) :
    x.sample v = { x with sampled := v, stable := x.stableAt v } := by
  have kept : (if x.debounce + 1 ≤ x.stableAt v then v else x.debounced) = x.debounced := by
    split
    · rename_i complete
      exact h.resolve_right (Nat.not_lt.2 complete)
    · rfl
  rw [Gpi.sample_eq, kept]

theorem Gpi.sample_changed (complete : x.debounce + 1 ≤ x.stableAt v) : (x.sample v).debounced = v := if_pos complete

end

section
variable {u : State} {g : GpiIx} {v : Contact} (edges : List Channel)

theorem State.sampleGpi_kept (same : ((u.gpi g).sample v).debounced = (u.gpi g).debounced) :
    u.sampleGpi g v edges = u.setGpi g ((u.gpi g).sample v) := if_pos same

theorem exec_debouncedStateChange_due (change : ((u.gpi g).sample v).debounced ≠ (u.gpi g).debounced) :
    exec (.debouncedStateChange g v edges) u = .next (u.sampleGpi g v edges) := by
  show execDebouncedStateChange g v edges u = _
  exact if_neg change

end

/-! ## A calibration unit (R157, R161) -/

theorem mem_markerIndices (i : MarkerIx) : i ∈ markerIndices := by
  revert i
  decide

theorem Calibration.timedOut_iff (k : Calibration) (n : Nat) : k.timedOut n = true
    ↔ ∃ i m, k.sends.pick i = some m ∧ k.measured.pick i = none ∧ m + 250 ≤ n := by
  simp only [Calibration.timedOut, List.any_eq_true, mem_markerIndices, true_and, Calibration.outstanding,
    Bool.and_eq_true, decide_eq_true_eq, Option.isNone_iff_eq_none, Option.isSome_iff_exists, and_assoc]
  constructor
  · rintro ⟨i, ⟨m, sent⟩, open_, late⟩
    exact ⟨i, m, sent, open_, by simpa [sent] using late⟩
  · rintro ⟨i, m, sent, open_, late⟩
    exact ⟨i, ⟨m, sent⟩, open_, by simpa [sent] using late⟩

theorem Calibration.raise_idle {k : Calibration} (none_ : ∀ i : MarkerIx, k.runCount + 1 ≠ 1 + 50 * i.val) :
    k.raise = { k with runCount := k.runCount + 1, inserting := none } := by
  have unfound : (markerIndices.find? fun i => sendCount i = k.runCount + 1) = none :=
    List.find?_eq_none.2 fun i _ => by simpa [sendCount, eq_comm] using none_ i
  simp only [Calibration.raise, unfound]

theorem Calibration.raise_sends {k : Calibration} {i : MarkerIx} (due : k.runCount + 1 = 1 + 50 * i.val) :
    k.raise = { k with
      runCount := k.runCount + 1, sends := k.sends.put i (some (k.runCount + 1))
      inserting := some ((k.base + i.val) % 256) } := by
  have found : (markerIndices.find? fun j => sendCount j = k.runCount + 1) = some i := by
    rw [due]
    exact (by decide : ∀ i : MarkerIx, (markerIndices.find? fun j => sendCount j = 1 + 50 * i.val) = some i) i
  simp only [Calibration.raise, found, Calibration.sequence]

section
variable {u : State} {c : Channel}

theorem State.countRun_idle (idle : (u.chan c).calibration.running = false) : u.countRun c
    = u.setChan c ((u.chan c).setCalibration { (u.chan c).calibration with inserting := none }) := if_pos idle

theorem State.countRun_raises (running : (u.chan c).calibration.running = true)
    (inTime : ¬ (u.chan c).calibration.timedOut ((u.chan c).calibration.runCount + 1) = true) : u.countRun c
      = u.setChan c ((u.chan c).setCalibration (u.chan c).calibration.raise) := by
  unfold State.countRun
  dsimp only
  rw [if_neg (by simp [running]), if_neg inTime]
  rfl

theorem exec_calibrationTimeout_due (running : (u.chan c).calibration.running = true)
    (late : (u.chan c).calibration.timedOut ((u.chan c).calibration.runCount + 1) = true) :
    exec (.calibrationTimeout c) u = .next (u.countRun c) := by
  show execCalibrationTimeout c u = _
  exact if_pos (by simp [Calibration.timeoutDue, running, late])

end

/-! ## A window controller (R54, R69, R70, R77) -/

/-- The working geometry and the move after a period, of a window with the move `m` (R69). -/
def Window.moved (w : Window) (m : Move) : Layout × Option Move :=
  if w.contactHold then (w.geometry, some m)
  else if m.count + 1 < m.length then (w.geometry, some { m with count := m.count + 1 })
  else (m.target, none)

section
variable {w : Window} {m : Move}

theorem Window.advanceMove_still (still : w.move = none) : w.advanceMove = w := by
  simp only [Window.advanceMove, still]

theorem Window.advanceMove_moved (move : w.move = some m) :
    w.advanceMove = { w with geometry := (w.moved m).1, move := (w.moved m).2 } := by
  unfold Window.moved
  simp only [Window.advanceMove, move, Window.endMove]
  split
  · simp only [← move]
  · split <;> rfl

variable {presets : Bank 8 Preset}

theorem Window.advance_still (still : (w.advanceRamp presets).move = none)
    (pending : (w.advanceRamp presets).pendingLayout = none) : w.advance presets = w.advanceRamp presets := by
  rw [Window.advance, Window.takePending_stay presets (.inr pending), Window.advanceMove_still still]

theorem Window.advance_moves (move : (w.advanceRamp presets).move = some m) : w.advance presets
    = { w.advanceRamp presets with
        geometry := ((w.advanceRamp presets).moved m).1, move := ((w.advanceRamp presets).moved m).2 } := by
  rw [Window.advance, Window.takePending_stay presets (.inl (by simp [move])), Window.advanceMove_moved move]

variable {q : PendingLayout} (still : (w.advanceRamp presets).move = none)
  (pending : (w.advanceRamp presets).pendingLayout = some q)
include still pending

theorem Window.advance_cuts (cut : (w.advanceRamp presets).opacity = 0 ∨ q.duration = 0) : w.advance presets
    = { w.advanceRamp presets with
        geometry := (presets.pick q.preset).layout, lastPreset := q.preset, pendingLayout := none } := by
  rw [Window.advance, Window.takePending_taken presets still pending, if_pos cut]
  exact Window.advanceMove_still still

theorem Window.advance_begins (seen : 0 < (w.advanceRamp presets).opacity) (long : 0 < q.duration) : w.advance presets
    = { w.advanceRamp presets with
        geometry := ((w.advanceRamp presets).moved {
          source := (w.advanceRamp presets).geometry, target := (presets.pick q.preset).layout, preset := q.preset
          length := q.duration, count := 0 }).1
        move := ((w.advanceRamp presets).moved {
          source := (w.advanceRamp presets).geometry, target := (presets.pick q.preset).layout, preset := q.preset
          length := q.duration, count := 0 }).2
        lastPreset := q.preset, pendingLayout := none } := by
  rw [Window.advance, Window.takePending_taken presets still pending, if_neg (by omega), Window.advanceMove_moved rfl]
  rfl

end

/-! ## The tallies of a channel, and the whole part (R98, R174) -/

section
variable (u : State) (c : Channel)

theorem State.updateTally_tally (k j : TallyIx) : (u.updateTally k).tally j = if j = k
    then (u.tally k).set (u.tallyOpacity (u.tally k).channel) (u.chan (u.tally k).channel).sync.lock.available
    else u.tally j := u.setTally_tally k j _

/-- Tallies set one after another, each once. -/
theorem State.updateTallyList_tally {l : List TallyIx} (nodup : l.Nodup) (j : TallyIx) :
    (l.foldl (fun t k => t.updateTally k) u).tally j = if j ∈ l
      then (u.tally j).set (u.tallyOpacity (u.tally j).channel) (u.chan (u.tally j).channel).sync.lock.available
      else u.tally j := by
  induction l generalizing u with
  | nil => simp
  | cons k l ih =>
    obtain ⟨fresh, nodup⟩ := List.nodup_cons.1 nodup
    have opacity : ∀ d, (u.updateTally k).tallyOpacity d = u.tallyOpacity d := fun d => by simp [State.tallyOpacity]
    rw [List.foldl_cons, ih _ nodup, State.updateTally_tally]
    by_cases own : j = k
    · subst own
      simp [fresh]
    · simp [own, opacity]

theorem State.updateTallies_tally (j : TallyIx) : (u.updateTallies c).tally j = if (u.tally j).channel = c
    then (u.tally j).set (u.tallyOpacity c) (u.chan c).sync.lock.available else u.tally j := by
  have all : ∀ j : TallyIx, j ∈ tallyIndices := by decide
  rw [State.updateTallies, State.updateTallyList_tally _ (List.Nodup.filter _ (by decide))]
  simp only [List.mem_filter, all j, true_and, decide_eq_true_eq]
  split
  · rename_i own
    rw [own]
  · rfl

/-- A channel after its window controller's part of a period start (R77, R98). -/
theorem State.windowPeriod_chan_same : (u.windowPeriod c).chan c
    = ((u.chan c).setWindow ((u.chan c).window.advance (u.chan c).presets)).latch u.timing.format
      u.timing.secondPeriod := by
  rw [State.windowPeriod, State.updateTallies_chan, State.modChan_chan_same]
  rfl

theorem State.windowPeriod_tally (j : TallyIx) : (u.windowPeriod c).tally j = if (u.tally j).channel = c
    then (u.tally j).set
      (if u.timing.relockPeriod then 0 else ((u.chan c).window.advance (u.chan c).presets).opacity)
      (u.chan c).sync.lock.available
    else u.tally j := by
  rw [State.windowPeriod, State.updateTallies_tally, State.tallyOpacity, State.modChan_chan_same]
  rfl

theorem State.windowPeriod_frame : u.windowPeriod c
    = { u with channels := (u.windowPeriod c).channels, tallies := (u.windowPeriod c).tallies } := by
  have timing := u.windowPeriod_timing c
  have cues := u.windowPeriod_cues c
  have free := u.windowPeriod_free c
  have gpis := u.windowPeriod_gpis c
  have ports := u.windowPeriod_ports c
  have pending := u.windowPeriod_pending c
  generalize u.windowPeriod c = t at *
  cases t
  simp only at timing cues free gpis ports pending
  simp only [timing, cues, free, gpis, ports, pending]

end

end Sys2Proof.Machine
end

section
/-! PROOFS. PERIOD_START as a whole: its parts once each, what they leave alone, and what is then latched, sampled and
counted (R1, R3, R77, R97 to R99, R113, R153, R168, R174). -/

namespace Sys2Proof.Machine

open Sys2Proof

/-! ## Parts taken once each -/

section
variable {σ α β κ : Type} {f : σ → α → σ} {key : α → κ} {proj : σ → β} {inv : σ → Prop} {k : κ}

/-- What other parts leave alone stays. -/
theorem foldl_others (kept : ∀ u x, inv u → inv (f u x)) (others : ∀ u x, inv u → key x ≠ k → proj (f u x) = proj u)
    {l : List α} (absent : k ∉ l.map key) {s : σ} (start : inv s) : proj (l.foldl f s) = proj s := by
  induction l generalizing s with
  | nil => rfl
  | cons a l ih =>
    rw [List.map_cons, List.mem_cons, not_or] at absent
    obtain ⟨other, absent⟩ := absent
    rw [List.foldl_cons, ih absent (kept s a start), others s a start (Ne.symm other)]

/-- Of parts with keys of their own, what one part alone changes is what that part makes of it, in a state that has
gone through some of the others. -/
theorem foldl_once (kept : ∀ u x, inv u → inv (f u x)) (others : ∀ u x, inv u → key x ≠ k → proj (f u x) = proj u)
    {l : List α} (nodup : (l.map key).Nodup) (mem : k ∈ l.map key) {s : σ} (start : inv s) :
    ∃ x u, key x = k ∧ inv u ∧ proj u = proj s ∧ proj (l.foldl f s) = proj (f u x) := by
  induction l generalizing s with
  | nil => exact absurd mem List.not_mem_nil
  | cons a l ih =>
    obtain ⟨fresh, nodup⟩ := List.nodup_cons.1 nodup
    rw [List.foldl_cons]
    by_cases own : key a = k
    · exact ⟨a, s, own, start, rfl, foldl_others kept others (own ▸ fresh) (kept s a start)⟩
    · obtain ⟨x, u, own', invariant, same, result⟩ := ih nodup ((List.mem_cons.1 mem).resolve_left (Ne.symm own))
        (kept s a start)
      exact ⟨x, u, own', invariant, same.trans (others s a start own), result⟩

end

theorem PeriodTask.key_synchronise {x : PeriodTask} {c : Channel} (h : PeriodTask.key x = c.val) :
    ∃ e, x = .synchronise c e := by
  cases x with
  | synchronise d e => exact ⟨e, by rw [Fin.ext h]⟩
  | contact g edges => simp only [PeriodTask.key] at h; omega
  | calibrate d => simp only [PeriodTask.key] at h; omega
  | window d => simp only [PeriodTask.key] at h; omega

theorem PeriodTask.key_contact {x : PeriodTask} {g : GpiIx} (h : PeriodTask.key x = 4 + g.val) :
    ∃ e, x = .contact g e := by
  cases x with
  | synchronise d e => simp only [PeriodTask.key] at h; omega
  | contact k edges => exact ⟨edges, by rw [Fin.ext (Nat.add_left_cancel h)]⟩
  | calibrate d => simp only [PeriodTask.key] at h; omega
  | window d => simp only [PeriodTask.key] at h; omega

theorem PeriodTask.key_window {x : PeriodTask} {c : Channel} (h : PeriodTask.key x = 16 + c.val) : x = .window c := by
  cases x with
  | synchronise d e => simp only [PeriodTask.key] at h; omega
  | contact g edges => simp only [PeriodTask.key] at h; omega
  | calibrate d => simp only [PeriodTask.key] at h; omega
  | window d => rw [Fin.ext (Nat.add_left_cancel h)]

/-! ## What is latched of a delay line (R99, R153) -/

/-- What the latches of a period read of a delay line, and its actual delay: a target event leaves them alone. -/
def DelayLine.shown (d : DelayLine) : ProgrammeFrame × Nat × ProgrammeFrame := (d.delayed, d.actual, d.frameAt 0)

theorem DelayLine.retarget_shown (d : DelayLine) (latency free : Nat) : (d.retarget latency free).shown = d.shown := by
  have newest : (d.retarget latency free).frameAt 0 = d.frameAt 0 := by
    simp only [DelayLine.frameAt, DelayLine.retarget]
    rw [resizeRing_get _ _ (Nat.succ_pos _)]
    split
    · rfl
    · rename_i empty
      rw [List.getElem?_eq_none (Nat.not_lt.1 empty)]
      rfl
  exact Prod.ext rfl (Prod.ext rfl newest)

section
variable (s : State) (c d : Channel)

theorem State.setLag_shown (lag : Nat) : ((s.setLag c lag).chan d).delay.shown = (s.chan d).delay.shown := by
  have put : ∀ e : DelayLine, e.shown = (s.chan c).delay.shown →
      ((s.putDelay c e).chan d).delay.shown = (s.chan d).delay.shown := by
    intro e same
    rw [State.putDelay, State.setFree_chan, State.modChan_chan]
    split
    · rename_i own
      rw [own]
      exact same
    · rfl
  have shown := DelayLine.retarget_shown { (s.chan c).delay with lag := lag } (s.chan c).calibration.latency s.free
  rw [State.setLag_eq]
  split
  · rw [State.postAll_chan]
    exact put _ shown
  · exact put _ shown

theorem State.deliver_shown (h : Handle) (k : Cue) :
    ((s.deliver c h k).chan d).delay.shown = (s.chan d).delay.shown := by
  unfold State.deliver
  split
  · rw [State.windowIn_chan_delay]
  · rw [State.windowOut_chan_delay]
  · split
    · rfl
    · rw [State.takeLayout_chan_delay]
  · exact s.setLag_shown c d k.lag

theorem State.fireEdge_shown (g : GpiIx) : ((s.fireEdge g c).chan d).delay.shown = (s.chan d).delay.shown := by
  unfold State.fireEdge State.fireCue
  repeat' split
  · rfl
  · rfl
  · rfl
  · rw [State.deliver_shown, State.retire_chan_delay]

theorem State.sampleGpi_shown (g : GpiIx) (v : Contact) (edges : List Channel) :
    ((s.sampleGpi g v edges).chan d).delay.shown = (s.chan d).delay.shown := by
  unfold State.sampleGpi State.fireEdges
  dsimp only
  repeat' split
  · rw [State.setGpi_chan]
  · rw [State.takeContacts_chan_delay,
      foldl_keeps (g := fun t : State => (t.chan d).delay.shown) _ (fun t e => t.fireEdge_shown e d g), State.setGpi_chan]
  · rw [State.takeContacts_chan_delay, State.setGpi_chan]

theorem State.periodTask_shown (contacts : Bank 8 Contact) (picture : Bool) (x : PeriodTask) :
    ((s.periodTask contacts picture x).chan d).delay.shown = (s.chan d).delay.shown := by
  cases x with
  | synchronise c h => rw [State.periodTask, State.syncPeriod_chan_delay]
  | contact g edges => exact s.sampleGpi_shown d g _ edges
  | calibrate c => rw [State.periodTask, State.countRun_chan_delay]
  | window c => rw [State.periodTask, State.windowPeriod_chan_delay]

end

end Sys2Proof.Machine
end

section
/-! PROOFS. PERIOD_START as a whole, whatever the order of its parts: what it leaves alone, the contact inputs sampled,
and the latches (R1, R3, R98, R99, R113, R153, R168). -/

namespace Sys2Proof.Machine

open Sys2Proof

/-! ## Whether a period begins (R1, R3) -/

theorem Timing.not_extended_iff (t : Timing) : ¬ t.extended = true
    ↔ t.firstPeriodDue = true ∨ (t.blanking = false ∧ (t.extending = false ∨ t.secondPeriod = false)) := by
  unfold Timing.extended
  cases t.firstPeriodDue <;> cases t.blanking <;> cases t.extending <;> cases t.secondPeriod <;> decide

theorem Timing.extended_iff (t : Timing) : t.extended = true
    ↔ t.firstPeriodDue = false ∧ (t.blanking = true ∨ (t.extending = true ∧ t.secondPeriod = true)) := by
  simp [Timing.extended]

/-- Whether the period that begins begins an output picture (R118). -/
def Timing.nextPicture (t : Timing) : Bool := !interlaced t.format || t.firstPeriodDue

section
variable {s : State} {contacts : Bank 8 Contact} {order : List PeriodTask}

theorem exec_periodStart_taken (begins : s.timing.firstPeriodDue = true
      ∨ (s.timing.blanking = false ∧ (s.timing.extending = false ∨ s.timing.secondPeriod = false))) :
    exec (.periodStart contacts order) s = .next ((periodOrder order).foldl
      (State.periodTask contacts s.timing.nextPicture) (s.setTiming s.timing.nextPeriod)) := by
  have picture : s.timing.nextPeriod.outputPicture = s.timing.nextPicture :=
    congrArg (!interlaced s.timing.format || ·) (Bool.not_not _)
  rw [← picture]
  show execPeriodStart contacts order s = _
  exact if_neg (s.timing.not_extended_iff.2 begins)

theorem exec_periodStart_extended (first : s.timing.firstPeriodDue = false)
    (extended : s.timing.blanking = true ∨ (s.timing.extending = true ∧ s.timing.secondPeriod = true)) :
    exec (.periodStart contacts order) s = .next { s with timing := { s.timing with blanking := true } } := by
  show execPeriodStart contacts order s = _
  exact if_pos (s.timing.extended_iff.2 ⟨first, extended⟩)

end

/-! ## What a synchroniser's part leaves of the latches -/

theorem State.syncHeld_latches (u : State) (c d : Channel) (picture : Bool) (h : HandOver) :
    ((u.syncHeld c picture h).chan d).latches = (u.chan d).latches := by
  unfold State.syncHeld State.syncChosen
  repeat' split
  all_goals simp

theorem State.syncPeriod_latches (u : State) (c : Channel) (picture : Bool) (h : HandOver) :
    ((u.syncPeriod c picture h).chan c).latches
      = { (u.chan c).latches with signer := ((u.syncPeriod c picture h).chan c).sync.current } := by
  rw [State.syncPeriod_eq, State.setChan_chan_same]
  simp only [ChannelState.setLatches_latches, ChannelState.setLatches_sync, State.syncHeld_latches]

/-! ## The parts in any order, each once -/

section
variable {contacts : Bank 8 Contact} {picture : Bool} {l : List PeriodTask}
  (once : (l.map PeriodTask.key).Perm (List.range 20)) (s : State)
include once

/-- Every contact input is sampled once (R168). -/
theorem periodParts_gpi (g : GpiIx) :
    (l.foldl (State.periodTask contacts picture) s).gpi g = (s.gpi g).sample (contacts.pick g) := by
  obtain ⟨x, u, own, -, same, result⟩ := foldl_once (f := State.periodTask contacts picture) (key := PeriodTask.key)
    (proj := fun t : State => t.gpi g) (inv := fun _ => True) (k := 4 + g.val) (fun _ _ _ => trivial)
    (fun u x _ other => by
      cases x with
      | synchronise c h => simp only [State.gpi, State.periodTask, State.syncPeriod_gpis]
      | contact k edges =>
        have apart : g ≠ k := fun e => other (by rw [e]; rfl)
        simp only [State.gpi, State.periodTask, State.sampleGpi_gpis, Bank.pick_put_ne _ _ apart]
      | calibrate c => simp only [State.gpi, State.periodTask, State.countRun_gpis]
      | window c => simp only [State.gpi, State.periodTask, State.windowPeriod_gpis])
    (once.nodup_iff.2 List.nodup_range) (once.mem_iff.2 (List.mem_range.2 (by omega))) (s := s) trivial
  obtain ⟨edges, rfl⟩ := PeriodTask.key_contact own
  rw [result, ← same]
  simp only [State.gpi, State.periodTask, State.sampleGpi_gpis, Bank.pick_put_same]

/-- The signer picture latched is the slot that the choice left current (R113). -/
theorem periodParts_signer (c : Channel) :
    ((l.foldl (State.periodTask contacts picture) s).chan c).latches.signer
      = ((l.foldl (State.periodTask contacts picture) s).chan c).sync.current := by
  obtain ⟨x, u, own, -, -, result⟩ := foldl_once (f := State.periodTask contacts picture) (key := PeriodTask.key)
    (proj := fun t : State => ((t.chan c).latches.signer, (t.chan c).sync.current)) (inv := fun _ => True) (k := c.val)
    (fun _ _ _ => trivial)
    (fun u x _ other => by
      cases x with
      | synchronise d h =>
        have apart : c ≠ d := fun e => other (by rw [e]; rfl)
        simp only [State.periodTask, State.syncPeriod_chan_ne _ _ _ _ apart]
      | contact g edges => simp only [State.periodTask, State.sampleGpi_chan_latches, State.sampleGpi_chan_sync]
      | calibrate d => simp only [State.periodTask, State.countRun_chan_latches, State.countRun_chan_sync]
      | window d =>
        by_cases same : c = d
        · subst same
          simp only [State.periodTask, State.windowPeriod_chan_same]
          rfl
        · simp only [State.periodTask, State.windowPeriod_chan_ne _ _ same])
    (once.nodup_iff.2 List.nodup_range) (once.mem_iff.2 (List.mem_range.2 (by omega))) (s := s) trivial
  obtain ⟨h, rfl⟩ := PeriodTask.key_synchronise own
  obtain ⟨signer, current⟩ := Prod.mk.inj result
  rw [signer, current, State.periodTask, State.syncPeriod_latches]

/-- The programme picture and the booth feed's part are latched from the delay line as it was before the event (R99,
R153). -/
theorem periodParts_delay (c : Channel) :
    ((l.foldl (State.periodTask contacts picture) s).chan c).latches.programme
        = framePart (s.chan c).delay.delayed s.timing.secondPeriod
      ∧ ((l.foldl (State.periodTask contacts picture) s).chan c).latches.booth
        = framePart ((s.chan c).delay.frameAt 0) s.timing.secondPeriod := by
  obtain ⟨x, u, own, ⟨timing, shown⟩, -, result⟩ := foldl_once (f := State.periodTask contacts picture)
    (key := PeriodTask.key)
    (proj := fun t : State => ((t.chan c).latches.programme, (t.chan c).latches.booth))
    (inv := fun t => t.timing = s.timing ∧ (t.chan c).delay.shown = (s.chan c).delay.shown) (k := 16 + c.val)
    (fun u x h => ⟨(u.periodTask_timing ..).trans h.1, (u.periodTask_shown c ..).trans h.2⟩)
    (fun u x _ other => by
      cases x with
      | synchronise d h =>
        by_cases same : c = d
        · subst same
          simp only [State.periodTask, State.syncPeriod_latches]
        · simp only [State.periodTask, State.syncPeriod_chan_ne _ _ _ _ same]
      | contact g edges => simp only [State.periodTask, State.sampleGpi_chan_latches]
      | calibrate d => simp only [State.periodTask, State.countRun_chan_latches]
      | window d =>
        have apart : c ≠ d := fun e => other (by rw [e]; rfl)
        simp only [State.periodTask, State.windowPeriod_chan_ne _ _ apart])
    (once.nodup_iff.2 List.nodup_range) (once.mem_iff.2 (List.mem_range.2 (by omega))) (s := s) ⟨rfl, rfl⟩
  obtain rfl := PeriodTask.key_window own
  obtain ⟨programme, booth⟩ := Prod.mk.inj result
  obtain ⟨delayed, rest⟩ := Prod.mk.inj shown
  obtain ⟨-, newest⟩ := Prod.mk.inj rest
  rw [programme, booth, State.periodTask, State.windowPeriod_chan_same, ← delayed, ← newest, ← timing]
  exact ⟨rfl, rfl⟩

end

end Sys2Proof.Machine
end

section
/-! PROOFS. PERIOD_START with its parts in the default order, stage by stage: synchronisers, contact inputs,
calibration units, window controllers (R70, R77, R97, R112, R157, R168, R174). -/

namespace Sys2Proof.Machine

open Sys2Proof

/-! ## What a choice leaves of calibration and window -/

section
variable {s : State} {c : Channel} (h : HandOver)

/-- A change of lock state that leaves the signer available ends no run (R162). -/
theorem State.setLock_calibration {new : LockState} (available : new = .locked ∨ new = .holding) :
    ((s.setLock c new h).chan c).calibration = (s.chan c).calibration := by
  by_cases same : (s.chan c).sync.lock = new
  · rw [State.setLock_same h same]
  · have goes_on : ¬ (s.chan c).LossEnds (s.chan c).sync.lock new := fun ⟨_, unlocked, unheld, _⟩ =>
      available.elim unlocked unheld
    rw [(State.Turned.setLock h same).own, ChannelState.lockChanged_eq, if_neg goes_on]
    rfl

theorem State.setLock_lock (new : LockState) : ((s.setLock c new h).chan c).sync.lock = new := by
  rw [State.setLock_sync]
  split
  · assumption
  · rw [Synchroniser.enter_eq]

/-- A change of lock state to the state held changes nothing of the window. -/
theorem State.setLock_window {new : LockState} (same : ((s.setLock c new h).chan c).sync.lock = (s.chan c).sync.lock) :
    ((s.setLock c new h).chan c).window = (s.chan c).window := by
  rw [State.setLock_lock] at same
  rw [State.setLock_same h same.symm]

/-- The choice leads to a lock state as a change of it, made of a state that differs in the record. -/
theorem State.chooseSigner_of_record : ∃ y : Synchroniser, y.lock = (s.chan c).sync.lock
    ∧ s.chooseSigner c h = (s.setChan c ((s.chan c).setSync y)).setLock c (s.chan c).sync.lockChosen h := by
  have record : ∀ x : Synchroniser, x.choose.lock = x.lock := fun x => by
    unfold Synchroniser.choose
    split
    · split <;> rfl
    · rfl
  refine ⟨_, ?_, rfl⟩
  split <;> exact record _

theorem State.chooseSigner_calibration :
    ((s.chooseSigner c h).chan c).calibration = (s.chan c).calibration := by
  by_cases available : (s.chan c).sync.lock = .locked ∨ (s.chan c).sync.lock = .holding
  · rcases Nat.eq_zero_or_pos (s.chan c).sync.unread with unread | unread
    · rw [State.chooseSigner_repeat h available unread, State.setLock_calibration h (.inr rfl), State.setChan_chan_same]
      rfl
    · rw [State.chooseSigner_fresh h available unread, State.setLock_calibration h (.inl rfl), State.setChan_chan_same]
      rfl
  · rw [not_or] at available
    rw [State.chooseSigner_unavailable h available.1 available.2]

theorem State.chooseSigner_window (same : ((s.chooseSigner c h).chan c).sync.lock = (s.chan c).sync.lock) :
    ((s.chooseSigner c h).chan c).window = (s.chan c).window := by
  obtain ⟨y, lock, chosen⟩ := s.chooseSigner_of_record (c := c) h
  rw [chosen] at same ⊢
  rw [State.setLock_window h (by rw [same, State.setChan_sync, lock]), State.setChan_chan_same]
  rfl

/-- The raising of the holding count, where it does not end at LOST, touches the record alone (R123). -/
theorem State.raiseHolding_short (short : ((s.raiseHolding c h).chan c).sync.lock ≠ .lost) : s.raiseHolding c h
    = s.setChan c ((s.chan c).setSync { (s.chan c).sync with holding := (s.chan c).sync.holding + 1 }) := by
  unfold State.raiseHolding at short ⊢
  dsimp only at short ⊢
  split
  · rename_i limit
    rw [if_pos limit, State.setLock_lock] at short
    exact absurd rfl short
  · rfl

variable {picture : Bool}

theorem State.syncChosen_calibration :
    ((s.syncChosen c picture h).chan c).calibration = (s.chan c).calibration := by
  unfold State.syncChosen
  split
  · exact State.chooseSigner_calibration h
  · rfl

theorem State.syncChosen_window (same : ((s.syncChosen c picture h).chan c).sync.lock = (s.chan c).sync.lock) :
    ((s.syncChosen c picture h).chan c).window = (s.chan c).window := by
  unfold State.syncChosen at same ⊢
  split
  · rename_i chooses
    rw [if_pos chooses] at same
    exact State.chooseSigner_window h same
  · rfl

/-- A synchroniser's part that leaves the signer available, or in the lock state it was in, leaves the calibration unit
alone. -/
theorem State.syncPeriod_calibration (kept : ((s.syncPeriod c picture h).chan c).sync.lock.available = true
      ∨ ((s.syncPeriod c picture h).chan c).sync.lock = (s.chan c).sync.lock) :
    ((s.syncPeriod c picture h).chan c).calibration = (s.chan c).calibration := by
  rw [State.syncPeriod_eq, State.setChan_chan_same] at kept ⊢
  show ((s.syncHeld c picture h).chan c).calibration = _
  replace kept : ((s.syncHeld c picture h).chan c).sync.lock.available = true
    ∨ ((s.syncHeld c picture h).chan c).sync.lock = (s.chan c).sync.lock := kept
  unfold State.syncHeld at kept ⊢
  split
  · rename_i raises
    rw [if_pos raises, raises.1] at kept
    rw [State.raiseHolding_short h (fun lost => by simp [lost, LockState.available] at kept), State.setChan_chan_same]
    exact State.syncChosen_calibration h
  · exact State.syncChosen_calibration h

/-- A synchroniser's part that ends in the lock state it began with leaves the window alone. -/
theorem State.syncPeriod_window (same : ((s.syncPeriod c picture h).chan c).sync.lock = (s.chan c).sync.lock) :
    ((s.syncPeriod c picture h).chan c).window = (s.chan c).window := by
  rw [State.syncPeriod_eq, State.setChan_chan_same] at same ⊢
  show ((s.syncHeld c picture h).chan c).window = _
  replace same : ((s.syncHeld c picture h).chan c).sync.lock = (s.chan c).sync.lock := same
  unfold State.syncHeld at same ⊢
  split
  · rename_i raises
    obtain ⟨held, holds⟩ := raises
    rw [if_pos ⟨held, holds⟩] at same
    rw [State.raiseHolding_short h (by simp [same, held]), State.setChan_chan_same]
    exact State.syncChosen_window h (holds.trans held.symm)
  · rename_i leaves
    rw [if_neg leaves] at same
    exact State.syncChosen_window h same

end

/-! ## The run count (R157, R161) -/

/-- A running calibration's count goes up by one, whether or not its run ends. -/
theorem State.countRun_runCount {s : State} {c : Channel} (running : (s.chan c).calibration.running = true) :
    ((s.countRun c).chan c).calibration.runCount = (s.chan c).calibration.runCount + 1 := by
  have raised : ∀ k : Calibration, k.raise.runCount = k.runCount + 1 := fun k => by
    unfold Calibration.raise
    dsimp only
    split <;> rfl
  unfold State.countRun
  dsimp only
  rw [if_neg (by simp [running])]
  split
  · rw [(State.Turned.endRun ..).own, State.modChan_chan_same]
    rfl
  · rw [State.modChan_chan_same]
    exact raised _

/-! ## The stages of the default order -/

def State.syncStage (s : State) (picture : Bool) : State :=
  Channel.all.foldl (fun u c => u.syncPeriod c picture .windowFirst) s

def State.contactStage (s : State) (contacts : Bank 8 Contact) : State :=
  gpiIndices.foldl (fun u g => u.sampleGpi g (contacts.pick g) []) s

def State.calibrationStage (s : State) : State := Channel.all.foldl State.countRun s

def State.windowStage (s : State) : State := Channel.all.foldl State.windowPeriod s

/-- What a stage that takes each channel once makes of a channel. -/
theorem foldl_channels {f : State → Channel → State} (timing : ∀ u c, (f u c).timing = u.timing)
    (others : ∀ u c d, d ≠ c → (f u c).chan d = u.chan d) (s : State) (c : Channel) :
    ∃ u : State, u.timing = s.timing ∧ u.chan c = s.chan c ∧ (Channel.all.foldl f s).chan c = (f u c).chan c := by
  obtain ⟨x, u, own, same, before, result⟩ := foldl_once (f := f) (key := id) (proj := fun t : State => t.chan c)
    (inv := fun t => t.timing = s.timing) (k := c) (fun u x h => (timing u x).trans h)
    (fun u x _ other => others u x c (Ne.symm other)) (l := Channel.all) (by decide)
    (by revert c; decide) (s := s) rfl
  subst own
  exact ⟨u, same, before, result⟩

section
variable (s : State) (picture : Bool) (contacts : Bank 8 Contact) (c : Channel)

theorem State.syncStage_chan : ∃ u : State, u.timing = s.timing ∧ u.chan c = s.chan c
    ∧ (s.syncStage picture).chan c = (u.syncPeriod c picture .windowFirst).chan c :=
  foldl_channels (f := fun u c => u.syncPeriod c picture .windowFirst) (fun _ _ => State.syncPeriod_timing ..)
    (fun u c _ other => u.syncPeriod_chan_ne c _ _ other) s c

theorem State.syncStage_calibration (kept : ((s.syncStage picture).chan c).sync.lock.available = true
      ∨ ((s.syncStage picture).chan c).sync.lock = (s.chan c).sync.lock) :
    ((s.syncStage picture).chan c).calibration = (s.chan c).calibration := by
  obtain ⟨u, -, before, result⟩ := s.syncStage_chan picture c
  rw [result, ← before] at kept
  rw [result, State.syncPeriod_calibration .windowFirst kept, before]

theorem State.syncStage_window (same : ((s.syncStage picture).chan c).sync.lock = (s.chan c).sync.lock) :
    ((s.syncStage picture).chan c).window = (s.chan c).window := by
  obtain ⟨u, -, before, result⟩ := s.syncStage_chan picture c
  rw [result] at same ⊢
  rw [← before] at same ⊢
  exact State.syncPeriod_window .windowFirst same

theorem State.calibrationStage_chan : ∃ u : State, u.timing = s.timing ∧ u.chan c = s.chan c
    ∧ s.calibrationStage.chan c = (u.countRun c).chan c :=
  foldl_channels State.countRun_timing (fun u c _ other => u.countRun_chan_ne c other) s c

theorem State.windowStage_chan : ∃ u : State, u.timing = s.timing ∧ u.chan c = s.chan c
    ∧ s.windowStage.chan c = (u.windowPeriod c).chan c :=
  foldl_channels State.windowPeriod_timing (fun u c _ other => u.windowPeriod_chan_ne c other) s c

/-- Contact inputs that read what they hold debounced leave every channel alone (R168). -/
theorem State.contactStage_chan (settled : ∀ g, contacts.pick g = (s.gpi g).debounced) :
    (s.contactStage contacts).chan c = s.chan c := by
  refine (List.foldlRecOn (motive := fun t : State => (∀ g, contacts.pick g = (t.gpi g).debounced)
    ∧ t.chan c = s.chan c) gpiIndices _ ⟨settled, rfl⟩ ?_).2
  rintro u ⟨settled, same⟩ g -
  have kept : ((u.gpi g).sample (contacts.pick g)).debounced = (u.gpi g).debounced := by
    rw [Gpi.sample_kept (.inl (settled g))]
  rw [State.sampleGpi_kept [] kept]
  refine ⟨fun k => ?_, same⟩
  simp only [State.gpi, State.setGpi_gpis, Bank.pick_put]
  split
  · rename_i own
    rw [own]
    exact (settled g).trans kept.symm
  · exact settled k

/-- The tally outputs follow their channels as the windows leave them (R174). -/
theorem State.windowStage_tally (k : TallyIx) : s.windowStage.tally k = (s.tally k).set
    (if s.timing.relockPeriod then 0 else (s.windowStage.chan (s.tally k).channel).window.opacity)
    (s.windowStage.chan (s.tally k).channel).sync.lock.available := by
  have channel : ∀ (x : Tally) (n : Nat) (b : Bool), (x.set n b).channel = x.channel := by
    intro x n b
    unfold Tally.set Tally.advanceFlash
    repeat' split
    all_goals rfl
  obtain ⟨x, u, own, ⟨timing, chan⟩, before, result⟩ := foldl_once (f := State.windowPeriod) (key := id)
    (proj := fun t : State => (t.tally k, t.chan (s.tally k).channel))
    (inv := fun t => t.timing = s.timing ∧ (t.tally k).channel = (s.tally k).channel) (k := (s.tally k).channel)
    (fun u x h => ⟨(u.windowPeriod_timing x).trans h.1, by
      rw [State.windowPeriod_tally]
      split
      · rw [channel, h.2]
      · exact h.2⟩)
    (fun u x h other => by
      rw [State.windowPeriod_tally, if_neg (fun own => other (own.symm.trans h.2)),
        u.windowPeriod_chan_ne x (Ne.symm other)])
    (l := Channel.all) (by decide) (by generalize (s.tally k).channel = c; revert c; decide) (s := s) ⟨rfl, rfl⟩
  obtain rfl : x = (s.tally k).channel := own
  obtain ⟨tally, -⟩ := Prod.mk.inj before
  obtain ⟨set, final⟩ := Prod.mk.inj result
  show (Channel.all.foldl State.windowPeriod s).tally k = _
  unfold State.windowStage
  rw [set, final, State.windowPeriod_tally, if_pos chan, State.windowPeriod_chan_same, tally, timing]
  rfl

end

end Sys2Proof.Machine
end

section
/-! PROOFS. PERIOD_START: what its parts in the default order make of a channel and of the tallies (R70, R77, R97, R98,
R112, R157, R174). -/

namespace Sys2Proof.Machine

open Sys2Proof

/-! ## The state that the window controllers of the default order find -/

section
variable (s : State) (picture : Bool) (contacts : Bank 8 Contact)

def State.beforeWindows : State := ((s.syncStage picture).contactStage contacts).calibrationStage

theorem periodTasks_fold : periodTasks.foldl (State.periodTask contacts picture) s
    = (s.beforeWindows picture contacts).windowStage := by
  simp only [periodTasks, List.foldl_append, List.foldl_map]
  rfl

section
variable {s picture contacts} {α : Type} (g : State → α)

theorem syncStage_keeps (syncs : ∀ u c, g (State.syncPeriod u c picture .windowFirst) = g u) :
    g (s.syncStage picture) = g s := foldl_keeps _ g syncs _ s

theorem contactStage_keeps (samples : ∀ u k v, g (State.sampleGpi u k v []) = g u) :
    g (s.contactStage contacts) = g s := foldl_keeps _ g (fun u k => samples u k _) _ s

theorem calibrationStage_keeps (runs : ∀ u c, g (State.countRun u c) = g u) : g s.calibrationStage = g s :=
  foldl_keeps _ g runs _ s

/-- What no part before the window controllers changes. -/
theorem beforeWindows_keeps (syncs : ∀ u c, g (State.syncPeriod u c picture .windowFirst) = g u)
    (samples : ∀ u k v, g (State.sampleGpi u k v []) = g u) (runs : ∀ u c, g (State.countRun u c) = g u) :
    g (s.beforeWindows picture contacts) = g s :=
  (calibrationStage_keeps g runs).trans ((contactStage_keeps g samples).trans (syncStage_keeps g syncs))

end

theorem State.beforeWindows_timing : (s.beforeWindows picture contacts).timing = s.timing :=
  beforeWindows_keeps State.timing (by simp) (by simp) (by simp)

theorem State.beforeWindows_tally (k : TallyIx) : (s.beforeWindows picture contacts).tally k = s.tally k :=
  congrArg (Bank.pick · k) (beforeWindows_keeps State.tallies (by simp) (by simp) (by simp))

variable (c : Channel)

theorem State.beforeWindows_presets :
    ((s.beforeWindows picture contacts).chan c).presets = (s.chan c).presets :=
  beforeWindows_keeps (fun u => (u.chan c).presets) (by simp) (by simp) (by simp)

theorem State.beforeWindows_sync :
    ((s.beforeWindows picture contacts).chan c).sync = ((s.syncStage picture).chan c).sync :=
  (calibrationStage_keeps (fun u => (u.chan c).sync) (by simp)).trans
    (contactStage_keeps (fun u => (u.chan c).sync) (by simp))

variable {s picture contacts c}

/-- A run whose signer ends the period available has its count raised (R157, R161). -/
theorem State.beforeWindows_runCount (running : (s.chan c).calibration.running = true)
    (available : ((s.beforeWindows picture contacts).chan c).sync.lock.available = true) :
    ((s.beforeWindows picture contacts).chan c).calibration.runCount = (s.chan c).calibration.runCount + 1 := by
  rw [State.beforeWindows_sync] at available
  obtain ⟨u, -, before, result⟩ := ((s.syncStage picture).contactStage contacts).calibrationStage_chan c
  have same : (u.chan c).calibration = (s.chan c).calibration := by
    rw [before, contactStage_keeps (fun u => (u.chan c).calibration) (by simp),
      s.syncStage_calibration picture c (.inl available)]
  rw [State.beforeWindows, result, State.countRun_runCount (same ▸ running), same]

/-- A channel whose contact inputs, lock state and calibration unit are quiet has its window left to the advance. -/
theorem State.beforeWindows_window (settled : ∀ g, contacts.pick g = (s.gpi g).debounced)
    (lock : ((s.beforeWindows picture contacts).chan c).sync.lock = (s.chan c).sync.lock)
    (idle : (s.chan c).calibration.running = false) :
    ((s.beforeWindows picture contacts).chan c).window = (s.chan c).window := by
  rw [State.beforeWindows_sync] at lock
  obtain ⟨u, -, before, result⟩ := ((s.syncStage picture).contactStage contacts).calibrationStage_chan c
  have gpis : (s.syncStage picture).gpis = s.gpis := syncStage_keeps State.gpis (by simp)
  rw [State.contactStage_chan _ contacts c (by simpa only [State.gpi, gpis] using settled)] at before
  have stopped : (u.chan c).calibration.running = false := by
    rw [before, s.syncStage_calibration picture c (.inr lock), idle]
  rw [State.beforeWindows, result, State.countRun_idle stopped, State.setChan_chan_same]
  show (u.chan c).window = _
  rw [before, s.syncStage_window picture c lock]

end

/-! ## The default order, whole -/

section
variable (s : State) (picture : Bool) (contacts : Bank 8 Contact)

theorem Synchroniser.display_eq (x : Synchroniser) : x.display
    = if x.lock = .locked ∨ x.lock = .holding ∨ x.policy ≠ .backdrop then .picture else .backdrop := by
  have shown : (x.lock = .locked ∨ x.lock = .holding ∨ x.policy ≠ .backdrop)
      ↔ ¬ (x.lock.available = false ∧ x.policy = .backdrop) := by
    rw [not_and_or, Bool.not_eq_false, LockState.available_iff, or_assoc]
  simp only [shown, ite_not]
  rfl

/-- A channel after the parts in the default order: the window advanced from what the other parts made of it, and
what is latched of both (R77, R97, R98, R112). -/
theorem periodTasks_chan (c : Channel) : (periodTasks.foldl (State.periodTask contacts picture) s).chan c
    = (((s.beforeWindows picture contacts).chan c).setWindow
        (((s.beforeWindows picture contacts).chan c).window.advance (s.chan c).presets)).latch s.timing.format
          s.timing.secondPeriod := by
  obtain ⟨u, timing, before, result⟩ := (s.beforeWindows picture contacts).windowStage_chan c
  rw [periodTasks_fold, result, State.windowPeriod_chan_same, before, timing, State.beforeWindows_presets,
    State.beforeWindows_timing]

/-- What a channel shows after the parts in the default order: its latches follow its final window and lock state, a run
with an available signer counts on, and a quiet channel's window advances from where it was (R70, R112, R157). -/
theorem periodTasks_channel (c : Channel) :
    let x := (periodTasks.foldl (State.periodTask contacts picture) s).chan c
    x.latches.geometry = periodGeometry s.timing.format x.window.geometry x.window.move x.window.opacity
      ∧ x.latches.display = (if (x.sync.lock = .locked ∨ x.sync.lock = .holding ∨ x.sync.policy ≠ .backdrop)
          then .picture else .backdrop)
      ∧ ((s.chan c).calibration.running = true → x.sync.lock.available = true →
        x.calibration.runCount = (s.chan c).calibration.runCount + 1)
      ∧ ((∀ g, contacts.pick g = (s.gpi g).debounced) → x.sync.lock = (s.chan c).sync.lock →
          (s.chan c).calibration.running = false → x.window = (s.chan c).window.advance (s.chan c).presets) := by
  dsimp only
  have counted := State.beforeWindows_runCount (s := s) (picture := picture) (contacts := contacts) (c := c)
  have quiet := State.beforeWindows_window (s := s) (picture := picture) (contacts := contacts) (c := c)
  rw [periodTasks_chan]
  generalize (s.beforeWindows picture contacts).chan c = x at counted quiet ⊢
  refine ⟨rfl, x.sync.display_eq, counted, fun settled lock idle => ?_⟩
  exact congrArg (Window.advance · (s.chan c).presets) (quiet settled lock idle)

/-- The tally outputs after the parts in the default order (R174). -/
theorem periodTasks_tally (k : TallyIx) : let t := periodTasks.foldl (State.periodTask contacts picture) s
    t.tally k = (s.tally k).set
      (if s.timing.relockPeriod then 0 else (t.chan (s.tally k).channel).window.opacity)
      (t.chan (s.tally k).channel).sync.lock.available := by
  dsimp only
  rw [periodTasks_fold, State.windowStage_tally, State.beforeWindows_tally, State.beforeWindows_timing]

end

end Sys2Proof.Machine
end

section
/-! PROOFS. PERIOD_START: what any order of its parts makes of the device, each part on any state, and the event as a
whole (R1, R3, R54, R69, R70, R77, R97, R98, R113, R123, R126, R157, R161, R168, R174). -/

namespace Sys2Proof.Machine

open Sys2Proof

theorem periodTasks_eq : periodTasks = (Channel.all.map fun c => .synchronise c .windowFirst)
    ++ ((List.finRange 8).map fun g => .contact g []) ++ Channel.all.map .calibrate ++ Channel.all.map .window := by
  decide

/-- What any order of the parts leaves alone of a channel, and what is latched of it (R99, R113, R153). -/
theorem periodParts_channel {contacts : Bank 8 Contact} {picture : Bool} {l : List PeriodTask}
    (once : (l.map PeriodTask.key).Perm (List.range 20)) (s : State) (c : Channel) :
    let x := (l.foldl (State.periodTask contacts picture) s).chan c
    x.clock = (s.chan c).clock ∧ x.report = (s.chan c).report ∧ x.presets = (s.chan c).presets
      ∧ x.delay.delayed = (s.chan c).delay.delayed ∧ x.delay.actual = (s.chan c).delay.actual
      ∧ x.latches.signer = x.sync.current
      ∧ x.latches.programme = framePart (s.chan c).delay.delayed s.timing.secondPeriod
      ∧ x.latches.booth = framePart ((s.chan c).delay.frameAt 0) s.timing.secondPeriod := by
  have shown := foldl_keeps _ (fun t : State => (t.chan c).delay.shown)
    (fun t x => t.periodTask_shown c contacts picture x) l s
  obtain ⟨delayed, rest⟩ := Prod.mk.inj shown
  exact ⟨foldl_keeps _ (fun t : State => (t.chan c).clock) (fun t x => t.periodTask_chan_clock ..) l s,
    foldl_keeps _ (fun t : State => (t.chan c).report) (fun t x => t.periodTask_chan_report ..) l s,
    foldl_keeps _ (fun t : State => (t.chan c).presets) (fun t x => t.periodTask_chan_presets ..) l s,
    delayed, (Prod.mk.inj rest).1, periodParts_signer once s c, periodParts_delay once s c⟩

theorem framePart_eq (frame : ProgrammeFrame) (first : Bool) :
    framePart frame (!first) = if first then frame.first else frame.second := by
  cases first <;> rfl

section
variable (u : State) (c : Channel) (picture : Bool)

/-- A synchroniser's part: the choice, the raising of the count of a channel that was and is HOLDING, and the hand-over
(R113, R123, R126). -/
theorem State.syncPeriod_took (h : HandOver) :
    let m := u.syncChosen c picture h
    let n := u.syncHeld c picture h
    ((u.chan c).sync.lock = .holding ∧ (m.chan c).sync.lock = .holding →
      (m.setChan c ((m.chan c).setSync { (m.chan c).sync with holding := (m.chan c).sync.holding + 1 })).LockTook n c
        (if (m.chan c).sync.holdLimit ≤ (m.chan c).sync.holding + 1 then .lost else .holding) h)
    ∧ (¬ ((u.chan c).sync.lock = .holding ∧ (m.chan c).sync.lock = .holding) → n = m) := by
  refine ⟨fun held => ?_, fun leaves => if_neg leaves⟩
  rw [State.syncHeld, if_pos held]
  exact lockTook_raiseHolding h held.2

end

/-- A contact input's part (R168). -/
theorem State.sampleGpi_took (u : State) (g : GpiIx) (v : Contact) (edges : List Channel) :
    (v = (u.gpi g).debounced ∨ (u.gpi g).stableAt v < (u.gpi g).debounce + 1 →
      u.sampleGpi g v edges = u.setGpi g { u.gpi g with sampled := v, stable := (u.gpi g).stableAt v })
    ∧ (v ≠ (u.gpi g).debounced → (u.gpi g).debounce + 1 ≤ (u.gpi g).stableAt v →
      exec (.debouncedStateChange g v edges) u = .next (u.sampleGpi g v edges)) := by
  refine ⟨fun keeps => ?_, fun differs complete => exec_debouncedStateChange_due edges ?_⟩
  · have kept := Gpi.sample_kept keeps
    rw [State.sampleGpi_kept edges (by rw [kept]), kept]
  · rwa [Gpi.sample_changed complete]

/-- A calibration unit's part (R157, R161). -/
theorem State.countRun_took (u : State) (c : Channel) :
    let k := (u.chan c).calibration
    let late := ∃ i n, k.sends.pick i = some n ∧ k.measured.pick i = none ∧ n + 250 ≤ k.runCount + 1
    let put := fun x : Calibration => u.setChan c ((u.chan c).setCalibration x)
    (k.running = false → u.countRun c = put { k with inserting := none })
    ∧ (k.running = true → late → exec (.calibrationTimeout c) u = .next (u.countRun c))
    ∧ (k.running = true → ¬ late → (∀ i : MarkerIx, k.runCount + 1 ≠ 1 + 50 * i.val) →
      u.countRun c = put { k with runCount := k.runCount + 1, inserting := none })
    ∧ (∀ i : MarkerIx, k.running = true → ¬ late → k.runCount + 1 = 1 + 50 * i.val →
      u.countRun c = put { k with
        runCount := k.runCount + 1, sends := k.sends.put i (some (k.runCount + 1))
        inserting := some ((k.base + i.val) % 256) }) := by
  intro k late put
  have timedOut : k.timedOut (k.runCount + 1) = true ↔ late := k.timedOut_iff _
  rw [← timedOut]
  refine ⟨State.countRun_idle, exec_calibrationTimeout_due, fun running inTime idle => ?_,
    fun i running inTime due => ?_⟩
  · rw [State.countRun_raises running inTime, Calibration.raise_idle idle]
  · rw [State.countRun_raises running inTime, Calibration.raise_sends due]

/-- Settles O40: the parts by the stages of the default order and, whatever the order, by what each part alone
changes. -/
theorem periodStart : Obligations.PeriodStart := by
  refine ⟨fun s contacts order begins => ?_, fun s contacts order => exec_periodStart_extended,
    fun s contacts begins => ?_, fun contacts picture u c h => ?_,
    fun contacts picture u g edges => u.sampleGpi_took g (contacts.pick g) edges,
    fun contacts picture u c => u.countRun_took c, fun contacts picture u c => ?_, fun w presets => ?_⟩
  · have once := periodOrder_keys order
    refine ⟨_, periodOrder order, exec_periodStart_taken begins, rfl, once, fun default => ?_,
      foldl_keeps _ State.pending (fun t x => t.periodTask_pending ..) _ _, periodTasks_timing .., periodParts_gpi once _,
      fun c => ?_⟩
    · rw [default, periodOrder_nil, periodTasks_eq]
    · simp only [← framePart_eq]
      exact periodParts_channel once (s.setTiming s.timing.nextPeriod) c
  · have taken := exec_periodStart_taken (contacts := contacts) (order := []) begins
    have channel := periodTasks_channel (s.setTiming s.timing.nextPeriod) s.timing.nextPicture contacts
    have tally := periodTasks_tally (s.setTiming s.timing.nextPeriod) s.timing.nextPicture contacts
    rw [periodOrder_nil] at taken
    generalize periodTasks.foldl _ _ = t at taken channel tally
    exact ⟨t, taken, channel, tally⟩
  · obtain ⟨raises, leaves⟩ := u.syncPeriod_took c picture h
    exact ⟨u.syncChosen c picture h, u.syncHeld c picture h, rfl, ⟨raises, leaves⟩, u.syncPeriod_eq c picture h⟩
  · refine ⟨u.windowPeriod_frame c, fun b other => u.windowPeriod_chan_ne c other, ?_, ?_, ?_, u.windowPeriod_tally c⟩
    all_goals
      simp only [State.periodTask, State.windowPeriod_chan_same]
      rfl
  · exact ⟨Window.advance_still, fun m => Window.advance_moves, fun q still pending =>
      ⟨Window.advance_cuts still pending, Window.advance_begins still pending⟩⟩

end Sys2Proof.Machine
end

section
/-! PROOFS. The frame slot pool and the delay lines (R136, R137, R140, R145, R152): what one delay line's own operations
keep of its slots, ring and range, and what a change of one delay line keeps of the pool. -/

namespace Sys2Proof.Machine

open Sys2Proof

/-! ## One delay line -/

/-- A ring that gives entries up keeps those of least age (R137). -/
theorem resizeRing_of_le {n : Nat} {ring : List (Option ProgrammeFrame)} (h : n ≤ ring.length) :
    resizeRing n ring = ring.take n :=
  List.take_append_of_le_length h

section
variable {d : DelayLine}

theorem resetDelay_sound (n : Nat) : (resetDelay n).Sound := by
  refine ⟨rfl, List.length_replicate, ?_, le_refl _, ?_⟩
  all_goals simp [resetDelay]

theorem DelayLine.Sound.write (sound : d.Sound) (frame : ProgrammeFrame) : (d.write frame).Sound := by
  obtain ⟨held, length, range⟩ := sound
  refine ⟨held, ?_, range⟩
  simp only [DelayLine.write, List.length_take, List.length_cons]
  omega

theorem DelayLine.Sound.setInterval (sound : d.Sound) (n : Nat) : ({ d with slewInterval := n } : DelayLine).Sound :=
  sound

theorem DelayLine.stepDue_iff :
    d.stepDue = true ↔ d.actual ≠ d.target ∧ d.slewInterval ≤ d.slewCount + 1 := by
  simp only [DelayLine.stepDue, Bool.and_eq_true, decide_eq_true_eq]

/-- An increase step, whose slot was reserved when the target was granted (R146). -/
theorem DelayLine.slewStep_up (up : d.actual < d.target) :
    d.slewStep = { d with actual := d.actual + 1, slewCount := 0, kind := .repeated } :=
  if_pos up

/-- A decrease step, which gives up the slot of the greatest age (R147). -/
theorem DelayLine.slewStep_down (sound : d.Sound) (down : d.target < d.actual) :
    d.slewStep = { d with
      actual := d.actual - 1, slewCount := 0, kind := .afterDrop, held := d.actual
      ring := d.ring.take d.actual } := by
  obtain ⟨held, length, -⟩ := sound
  have kept : max (d.actual - 1) d.target + 1 = d.actual := by omega
  have ring : resizeRing d.actual d.ring = d.ring.take d.actual := resizeRing_of_le (by omega)
  rw [DelayLine.slewStep, if_neg (by omega), kept]
  dsimp only
  rw [ring]

theorem DelayLine.Sound.slewStep (sound : d.Sound) (differs : d.actual ≠ d.target) :
    d.slewStep.Sound ∧ d.slewStep.held ≤ d.held := by
  obtain ⟨held, length, range, least, most⟩ := id sound
  obtain up | down := Nat.lt_or_gt_of_ne differs
  · rw [DelayLine.slewStep_up up]
    refine ⟨⟨?_, length, ?_, least, most⟩, le_refl _⟩
    all_goals dsimp only
    all_goals omega
  · rw [DelayLine.slewStep_down sound down]
    refine ⟨⟨?_, ?_, ?_, least, most⟩, ?_⟩
    all_goals dsimp only
    · omega
    · rw [List.length_take]; omega
    · omega
    · omega

/-- A channel's reset leaves its delay line sound, within the slots it held and those that were free (R152). -/
theorem DelayLine.channelReset_sound (latency : Nat) {free : Nat} (some_ : 0 < free)
    (length : d.ring.length = d.held) :
    (d.channelReset latency free).Sound ∧ (d.channelReset latency free).held ≤ free := by
  obtain ⟨shape, ring, -, fits⟩ := d.channelReset_result latency some_ length
  have held := congrArg DelayLine.held shape
  have target := congrArg DelayLine.target shape
  have actual := congrArg DelayLine.actual shape
  have requested := congrArg DelayLine.requested shape
  dsimp only at held target actual requested
  exact ⟨⟨by omega, ring, by omega, by omega, by omega⟩, fits⟩

end

/-! ## The pool when one delay line changes -/

section
variable {s t : State} (sound : s.PoolSound)
include sound

/-- What leaves the count of free slots and every delay line alone keeps the pool. -/
theorem State.PoolSound.aside (free : t.free = s.free)
    (delay : ∀ c, (t.chan c).delay = (s.chan c).delay) : t.PoolSound := by
  simpa only [State.PoolSound, free, delay] using sound

theorem State.PoolSound.postAll (l : Latch) : (s.postAll l).PoolSound :=
  sound.aside (s.postAll_free l) fun c => by rw [State.postAll_chan]

/-- The pool after one channel's delay line took a sound state, the slots counted before and after alike (R136). -/
theorem State.PoolSound.of_delay {c : Channel} (other : ∀ b, b ≠ c → (t.chan b).delay = (s.chan b).delay)
    (own : (t.chan c).delay.Sound) (count : t.free + (t.chan c).delay.held = s.free + (s.chan c).delay.held) :
    t.PoolSound := by
  obtain ⟨total, lines⟩ := sound
  have sum (u : State) : (u.chan c).delay.held + ∑ b ∈ Finset.univ.erase c, (u.chan b).delay.held
      = (u.chan 0).delay.held + (u.chan 1).delay.held + (u.chan 2).delay.held + (u.chan 3).delay.held := by
    rw [Finset.add_sum_erase _ (fun b => (u.chan b).delay.held) (Finset.mem_univ c), Fin.sum_univ_four]
  have rest : ∑ b ∈ Finset.univ.erase c, (t.chan b).delay.held
      = ∑ b ∈ Finset.univ.erase c, (s.chan b).delay.held :=
    Finset.sum_congr rfl fun b hb => by rw [other b (Finset.ne_of_mem_erase hb)]
  have before := sum s
  have after := sum t
  refine ⟨by omega, fun b => ?_⟩
  by_cases h : b = c
  · exact h ▸ own
  · rw [other b h]; exact lines b

/-- A change of one channel beside its delay line. -/
theorem State.PoolSound.modAside {c : Channel} {f : ChannelState → ChannelState}
    (delay : (f (s.chan c)).delay = (s.chan c).delay) : (s.modChan c f).PoolSound := by
  refine sound.aside rfl fun b => ?_
  rw [State.modChan_chan]
  split
  · rename_i own; rw [delay, own]
  · rfl

/-- A change of one channel that leaves its slots to it. -/
theorem State.PoolSound.modChan {c : Channel} {f : ChannelState → ChannelState}
    (own : (s.chan c).delay.Sound → (f (s.chan c)).delay.Sound)
    (held : (f (s.chan c)).delay.held = (s.chan c).delay.held) : (s.modChan c f).PoolSound := by
  have chan := s.modChan_chan_same c f
  refine State.PoolSound.of_delay sound (c := c) (fun b h => by rw [s.modChan_chan_ne f h]) ?_ ?_
  · rw [chan]; exact own (sound.2 c)
  · rw [chan, held]; rfl

/-- A delay line replaced within the slots its channel held and those that were free (R136). -/
theorem State.PoolSound.putDelay {c : Channel} {e : DelayLine} (own : e.Sound)
    (room : e.held ≤ s.free + (s.chan c).delay.held) : (s.putDelay c e).PoolSound := by
  have chan : ((s.putDelay c e).chan c).delay = e := congrArg _ (s.modChan_chan_same c fun x => x.setDelay e)
  refine State.PoolSound.of_delay sound (c := c)
    (fun b h => congrArg _ (s.modChan_chan_ne (fun x => x.setDelay e) h)) ?_ ?_
  · rw [chan]; exact own
  · rw [chan]; exact Nat.sub_add_cancel room

/-- A target event takes slots from the pool, or gives them back (R136, R140). -/
theorem State.TargetTook.poolSound {c : Channel} {lag latency : Nat} (h : s.TargetTook t c lag latency) :
    t.PoolSound := by
  obtain ⟨-, other, -, shape, least, -, -, count, ring, -, -⟩ := h
  have held := congrArg DelayLine.held shape
  have actual := congrArg DelayLine.actual shape
  have requested := congrArg DelayLine.requested shape
  dsimp only at held actual requested
  have range := (sound.2 c).2.2.1
  refine State.PoolSound.of_delay sound (c := c) (fun b hb => by rw [other b hb]) ⟨?_, ring, ?_, least, ?_⟩ count
  all_goals omega

end

/-- A channel that takes a change of its own with its delay line left alone keeps the pool. -/
theorem State.Became.poolSound {s t : State} {c : Channel} {x : ChannelState} {posted : Latch → Prop}
    (h : s.Became t c x posted) (sound : s.PoolSound) (delay : x.delay = (s.chan c).delay) : t.PoolSound := by
  refine sound.aside h.free fun d => ?_
  rw [h.chan]
  split
  · rename_i own; rw [delay, own]
  · rfl

/-- One thing done in turn to those of the four channels that are picked out keeps the pool when it does so on each. -/
theorem State.PoolSound.eachPicked {f : Channel → State → State}
    (step : ∀ c (t : State), t.PoolSound → (f c t).PoolSound) (picked : Channel → Bool) {s : State}
    (sound : s.PoolSound) : (s.eachChannel fun c t => if picked c then f c t else t).PoolSound := by
  refine List.foldlRecOn (motive := State.PoolSound) _ _ sound fun t h c _ => ?_
  dsimp only
  split
  · exact step c t h
  · exact h

/-- The pool when every delay line is at its reset values (R152). -/
theorem poolSound_reset {s : State} (free : s.free = resetFree)
    (delay : ∀ c, ∃ n, (s.chan c).delay = resetDelay n) : s.PoolSound := by
  have held : ∀ c, (s.chan c).delay.held = 5 := fun c => by
    obtain ⟨n, h⟩ := delay c
    rw [h]; rfl
  refine ⟨by simp only [held, free, resetFree], fun c => ?_⟩
  obtain ⟨n, h⟩ := delay c
  rw [h]
  exact resetDelay_sound n

/-! ## Target events (R140, R141, R160, R165) -/

theorem State.setLag_self (s : State) (c : Channel) : s.setLag c (s.chan c).delay.lag = s.targetEvent c :=
  congrArg (fun t : State => t.targetEvent c) (s.setChan_self c)

/-- A booth latency stored, before the target event it makes (R165). -/
def State.storeLatency (s : State) (c : Channel) (latency : Nat) : State :=
  s.modChan c fun x => x.setCalibration { x.calibration with latency := latency }

/-- A booth latency set is a lag set to the lag that stands, on the state that has the latency (R140, R165). -/
theorem targetTook_storeLatency {s : State} (sound : s.PoolSound) (c : Channel) (latency : Nat) :
    s.TargetTook ((s.storeLatency c latency).targetEvent c) c (s.chan c).delay.lag latency := by
  have other : ∀ b, b ≠ c → (s.storeLatency c latency).chan b = s.chan b := fun b h => s.modChan_chan_ne _ h
  have own : (s.storeLatency c latency).chan c
      = (s.chan c).setCalibration { (s.chan c).calibration with latency := latency } := s.modChan_chan_same c _
  have stored : (s.storeLatency c latency).PoolSound := sound.modChan id rfl
  have took := targetTook_setLag stored c ((s.storeLatency c latency).chan c).delay.lag
  rw [State.setLag_self] at took
  generalize (s.storeLatency c latency).targetEvent c = t at took ⊢
  unfold State.TargetTook at took ⊢
  rw [own] at took
  obtain ⟨frame, others, chan, line⟩ := took
  exact ⟨frame, fun b h => (others b h).trans (other b h), chan, line⟩

theorem targetEvent_poolSound {s : State} (sound : s.PoolSound) (c : Channel) : (s.targetEvent c).PoolSound := by
  have took := targetTook_setLag sound c (s.chan c).delay.lag
  rw [State.setLag_self] at took
  exact took.poolSound sound

/-! ## Slew steps (R145 to R147) -/

/-- A slew step is one change of the delay line and the pool, which may be posted (R145, R149). -/
theorem State.slewStep_eq (s : State) (c : Channel) : s.slewStep c
    = if (s.chan c).delay.slewStep.actual = (s.chan c).delay.slewStep.target
      then (s.putDelay c (s.chan c).delay.slewStep).postAll (.channel .delaySettled c)
      else s.putDelay c (s.chan c).delay.slewStep := rfl

theorem slewStep_poolSound {s : State} (sound : s.PoolSound) {c : Channel}
    (differs : (s.chan c).delay.actual ≠ (s.chan c).delay.target) : (s.slewStep c).PoolSound := by
  obtain ⟨own, fewer⟩ := (sound.2 c).slewStep differs
  have stepped : (s.putDelay c (s.chan c).delay.slewStep).PoolSound := sound.putDelay own (by omega)
  rw [State.slewStep_eq]
  split
  · exact stepped.postAll _
  · exact stepped

theorem slew_poolSound {s : State} (sound : s.PoolSound) (c : Channel) : (s.slew c).PoolSound := by
  unfold State.slew
  dsimp only
  split
  · rename_i due
    exact slewStep_poolSound sound (DelayLine.stepDue_iff.1 due).1
  · exact sound.modChan id rfl

/-- An output frame start: the input frame written, the delay slewed, the delayed frame read (R138, R139, R145). -/
theorem delayFrame_poolSound {s : State} (sound : s.PoolSound) (c : Channel) (arrived : List InputFrame) :
    (s.delayFrame c arrived).PoolSound := by
  have written : (s.modChan c fun x => x.setDelay (x.delay.write (s.inputFrame arrived))).PoolSound :=
    sound.modChan (fun h => h.write _) rfl
  have read : ∀ {t : State}, t.PoolSound → (t.modChan c fun x => x.setDelay x.delay.read).PoolSound :=
    fun h => h.modChan id rfl
  unfold State.delayFrame
  refine read ?_
  split
  · exact written.modChan id rfl
  · exact slew_poolSound written c

end Sys2Proof.Machine
end

section
/-! PROOFS. What every step keeps of the frame slot pool and the delay lines (R136, R137, R140, R145): the cues that set
a lag, the output frame start, the resets, the requests, and the events. -/

namespace Sys2Proof.Machine

open Sys2Proof

/-! ## Cues that fire (R41) -/

section
variable {s : State} (sound : s.PoolSound)
include sound

theorem deliver_poolSound (c : Channel) (h : Handle) (k : Cue) : (s.deliver c h k).PoolSound := by
  unfold State.deliver
  split
  · exact sound.aside (by simp) (by simp)
  · exact sound.aside (by simp) (by simp)
  · split
    · exact sound
    · exact sound.aside (by simp) (by simp)
  · exact State.TargetTook.poolSound sound (targetTook_setLag sound c k.lag)

theorem fireCue_poolSound (c : Channel) (r : Result) (i : SlotIx) : (s.fireCue c r i).PoolSound := by
  unfold State.fireCue
  split
  · exact sound
  · exact deliver_poolSound (sound.retire c i _ r) c _ _

theorem fireCues_poolSound (c : Channel) (r : Result) (l : List SlotIx) :
    (l.foldl (fun u i => u.fireCue c r i) s).PoolSound :=
  List.foldlRecOn (motive := State.PoolSound) l _ sound fun _ h i _ => fireCue_poolSound h c r i

theorem dealPassed_poolSound (c : Channel) (x : Scan) (l : List SlotIx) : (s.dealPassed c x l).PoolSound := by
  unfold State.dealPassed
  split
  · exact fireCues_poolSound sound c _ l
  · exact List.foldlRecOn (motive := State.PoolSound) l _ sound fun _ h i _ => h.aside (by simp) (by simp)

theorem scanCues_poolSound (c : Channel) (r : StepReport) : (s.scanCues c r).PoolSound := by
  have late := fireCues_poolSound sound c .firedLate (s.lateCues c)
  have passed := dealPassed_poolSound late c (s.scanOf c r) (s.passedCues c (s.scanOf c r))
  have due := fireCues_poolSound passed c .fired (s.dueCues c (s.scanOf c r))
  unfold State.scanCues
  dsimp only
  exact due.aside (t := State.modScheduler _ c _) (by simp) (by simp)

theorem reportCues_poolSound (c : Channel) : (s.reportCues c).PoolSound := by
  unfold State.reportCues State.scheduleCues
  split
  · exact sound
  · split
    · exact sound
    · exact scanCues_poolSound sound c _

theorem deliverReport_poolSound (c : Channel) (order : ReportOrder) : (s.deliverReport c order).PoolSound := by
  have spans : ∀ {t : State}, t.PoolSound → (t.reportSpans c).PoolSound := fun h => h.aside (by simp) (by simp)
  cases order with
  | cuesFirst => exact spans (reportCues_poolSound sound c)
  | spansFirst => exact reportCues_poolSound (spans sound) c

theorem fireEdge_poolSound (g : GpiIx) (c : Channel) : (s.fireEdge g c).PoolSound := by
  unfold State.fireEdge
  repeat' split
  · exact sound
  · exact sound
  · exact fireCue_poolSound sound c _ _

theorem sampleGpi_poolSound (g : GpiIx) (v : Contact) (edges : List Channel) :
    (s.sampleGpi g v edges).PoolSound := by
  have sampled : (s.setGpi g ((s.gpi g).sample v)).PoolSound := sound
  have fired : ((s.setGpi g ((s.gpi g).sample v)).fireEdges g edges).PoolSound := by
    unfold State.fireEdges
    split
    · exact List.foldlRecOn (motive := State.PoolSound) _ _ sampled fun _ h c _ => fireEdge_poolSound h g c
    · exact sampled
  unfold State.sampleGpi
  dsimp only
  split
  · exact sampled
  · exact fired.aside (by simp) (by simp)

/-! ## The output frame start and the period start (R1) -/

theorem frameTask_poolSound (inputs : Bank 4 (List InputFrame)) (k : FrameTask) : (s.frameTask inputs k).PoolSound := by
  cases k with
  | delay c =>
    have delayed := delayFrame_poolSound sound c (inputs.pick c)
    exact delayed.aside (t := State.updateClock _ c) (by simp) (by simp)
  | cues c => exact reportCues_poolSound sound c
  | spans c => exact sound.aside (t := s.reportSpans c) (by simp) (by simp)

theorem periodTask_poolSound (contacts : Bank 8 Contact) (picture : Bool) (k : PeriodTask) :
    (s.periodTask contacts picture k).PoolSound := by
  cases k with
  | synchronise c h =>
    rw [State.periodTask]
    exact sound.aside (by simp) (by simp)
  | contact g edges =>
    rw [State.periodTask]
    exact sampleGpi_poolSound sound g _ edges
  | calibrate c =>
    rw [State.periodTask]
    exact sound.aside (by simp) (by simp)
  | window c =>
    rw [State.periodTask]
    exact sound.aside (by simp) (by simp)

theorem setReference_poolSound (k : Timing) : (s.setReference k).PoolSound := by
  unfold State.setReference
  split
  · exact sound
  · exact State.PoolSound.postAll (s := s.setTiming k) sound _

theorem relock_poolSound : s.relock.PoolSound := by
  unfold State.relock
  dsimp only
  split
  · exact State.PoolSound.postAll (s := s.setTiming s.timing.relockStep) sound _
  · exact sound

/-! ## A calibration run that ends (R160) -/

theorem endRunOk_poolSound (c : Channel) : (s.endRunOk c).PoolSound := by
  have measured : (s.modChan c fun x => x.setCalibration { x.calibration with
      lastMeasured := some x.calibration.largest, latency := x.calibration.largest }).PoolSound :=
    sound.modAside (by simp)
  unfold State.endRunOk
  exact (targetEvent_poolSound measured c).aside (t := State.endRun _ c .ok) (by simp) (by simp)

theorem receiveMarker_poolSound (c : Channel) (ch seq : Nat) : (s.receiveMarker c ch seq).PoolSound := by
  have measured : ∀ i, (s.modChan c fun y => y.setCalibration (y.calibration.measure i)).PoolSound :=
    fun _ => sound.modAside (by simp)
  unfold State.receiveMarker
  dsimp only
  repeat' split
  · exact sound
  · exact sound
  · exact endRunOk_poolSound (measured _) c
  · exact measured _

/-! ## The resets (R5, R152, R192, R194) -/

theorem resumeSignals_poolSound (present : Channel → Bool) : (s.resumeSignals present).PoolSound :=
  sound.eachPicked (fun _ _ h => h.aside (by simp) (by simp)) present

theorem resetOne_poolSound (c : Channel) : (s.resetOne c).PoolSound := by
  obtain ⟨held, length, -⟩ := sound.2 c
  have delay := s.resetOne_delay c
  have free := s.resetOne_free c
  obtain ⟨own, fits⟩ := DelayLine.channelReset_sound (s.chan c).calibration.latency
    (show 0 < s.free + (s.chan c).delay.held by omega) length
  rw [← delay] at own fits
  exact sound.of_delay (c := c) (fun b h => by rw [s.resetOne_chan_ne c h]) own (by omega)

end

/-- FORMAT_SET leaves every delay line and the pool at their reset values, whatever they were (R5, R152). -/
theorem setFormat_poolSound (s : State) (f : Format) : (s.setFormat f).PoolSound := by
  have formatted : (s.formatted f).PoolSound :=
    poolSound_reset rfl fun c => ⟨_, by rw [State.formatted_chan]; rfl⟩
  have posted : ((s.formatted f).postClockChanges s (s.formatted f)).PoolSound :=
    formatted.aside (State.postClockChanges_free ..) fun c => by
      rw [State.chan_of_channels (State.postClockChanges_channels ..)]
  rw [State.setFormat_eq]
  exact resumeSignals_poolSound (posted.postAll _) _

theorem resetDevice_poolSound (s : State) : s.resetDevice.PoolSound := by
  have base : s.deviceBase.PoolSound := poolSound_reset rfl fun c => ⟨25, by rw [State.deviceBase_chan]; rfl⟩
  rw [State.resetDevice_eq]
  exact resumeSignals_poolSound base _

theorem powerOnReset_poolSound (s : State) (straps : Straps) :
    ((s.powerOnBase straps).resumeSignals fun c => (s.chan c).sync.signal).PoolSound :=
  resumeSignals_poolSound (poolSound_reset rfl fun c => ⟨25, by rw [State.powerOnBase_chan]; rfl⟩) _

/-! ## CHANNEL_CONFIG (R191) -/

section
variable {s : State} (sound : s.PoolSound)
include sound

theorem convertSpans_poolSound (c : Channel) (old new : DropMode) : (s.convertSpans c old new).PoolSound := by
  have written : (s.modChan c fun x => x.setWindow
      { x.window with spans := x.window.spans.map fun y => y.convert s.format old new }).PoolSound :=
    sound.modAside (by simp)
  unfold State.convertSpans
  dsimp only
  split
  · exact written
  · exact written.aside (by rw [State.setSpanResult_free]) fun d => by rw [State.setSpanResult_chan_delay]

theorem setDropMode_poolSound (c : Channel) (mode : DropMode) : (s.setDropMode c mode).PoolSound := by
  have converted := (State.Became.convertPlan s c (s.dropMode c) mode).poolSound sound (by simp)
  unfold State.convertPlan at converted
  unfold State.setDropMode
  dsimp only
  repeat' split
  · exact sound
  · exact convertSpans_poolSound converted c _ mode
  · exact sound.modAside (by simp)

theorem configure_poolSound (c : Channel) (k : Configuration) : (s.configure c k).PoolSound := by
  have source := (State.Became.setSource s c k.source).poolSound sound (by simp)
  have mode := setDropMode_poolSound source c k.dropMode
  have policy : ∀ {t : State}, t.PoolSound → (t.setPolicy c k.policy).PoolSound := fun {t} h =>
    (State.Became.setPolicy t c k.policy).poolSound h (by simp)
  unfold State.configure
  dsimp only
  refine (policy (mode.modAside ?_)).modChan (fun line => ?_) ?_
  · simp
  · exact line.setInterval k.slewInterval
  · simp

/-! ## The requests -/

theorem suppress_poolSound (p : PortId) (mask action : Byte) : (suppress p mask action s).1.PoolSound := by
  unfold Machine.suppress
  repeat' split
  · exact sound
  · exact sound
  · exact sound
  · exact sound.eachPicked (fun _ _ h => h.aside (by simp) (by simp)) _

theorem cueHold_poolSound (p : PortId) (mask action : Byte) : (cueHold p mask action s).1.PoolSound := by
  unfold Machine.cueHold
  repeat' split
  · exact sound
  · exact sound
  · exact sound
  · exact sound.eachPicked (fun _ _ h => h.aside (by simp) (by simp)) _

theorem cueClear_poolSound (p : PortId) (ch scope : Byte) : (cueClear p ch scope s).1.PoolSound := by
  unfold Machine.cueClear
  repeat' split
  · exact sound
  · exact List.foldlRecOn (motive := State.PoolSound) _ _ sound fun _ h i _ => h.aside (by simp) (by simp)
  · exact sound

theorem lagSet_poolSound (ch lag : Byte) : (lagSet ch lag s).1.PoolSound := by
  unfold Machine.lagSet
  split
  · exact sound
  · exact State.TargetTook.poolSound sound (targetTook_setLag sound _ _)

theorem boothLatencySet_poolSound (ch latency : Byte) : (boothLatencySet ch latency s).1.PoolSound := by
  unfold Machine.boothLatencySet
  split
  · exact sound
  · exact State.TargetTook.poolSound sound (targetTook_storeLatency sound _ _)

theorem requestOwner_poolSound (p : PortId) (r : Request) : (requestOwner p r s).1.PoolSound := by
  cases r
  case lagSet ch lag => exact lagSet_poolSound sound ch lag
  case boothLatencySet ch latency => exact boothLatencySet_poolSound sound ch latency
  case suppress mask action => exact suppress_poolSound sound p mask action
  case cueHold mask action => exact cueHold_poolSound sound p mask action
  case cueClear ch scope => exact cueClear_poolSound sound p ch scope
  case channelConfig ch f =>
    simp only [requestOwner]
    obtain same | ⟨c, k, -, -, stored⟩ := channelConfig_cases ch f s
    · rwa [same]
    · rw [stored]; exact configure_poolSound sound c k
  case channelReset ch =>
    simp only [requestOwner]
    obtain same | ⟨c, reset⟩ := channelReset_cases ch s
    · rwa [same]
    · rw [reset]; exact resetOne_poolSound sound c
  case formatSet f =>
    simp only [requestOwner]
    obtain same | ⟨f', set⟩ := formatSet_cases f s
    · rwa [same]
    · rw [set]; exact setFormat_poolSound s f'
  -- The other requests change neither the pool nor a delay line.
  all_goals
    simp only [requestOwner, statusRead, attentionRead, attentionMask, syncStatsRead, cueAdd, cueModify, cueDelete,
      cueListRead, cueSkipNext, outcomeRead, windowSet, layoutSelect, presetWrite, presetRead, spanSet, spanRead,
      calibrate, clockPreset, gpiBind, tallySet, configRead, State.placeCue, State.replaceCue]
    repeat' split
    all_goals refine sound.aside (by simp) fun c => ?_
    all_goals simp [State.modChan_chan]
    all_goals split
    all_goals simp_all

end

/-! ## The events -/

theorem State.Event.poolSound {s t : State} (event : s.Event t) (sound : s.PoolSound) : t.PoolSound := by
  cases event
  case stay => exact sound
  case powerOn straps => exact powerOnReset_poolSound s straps
  case resetDevice => exact resetDevice_poolSound s
  case judge now => exact setReference_poolSound sound _
  case timeout locked => exact setReference_poolSound sound _
  case relockEnd => exact relock_poolSound sound
  case frame now inputs order =>
    have done : ((frameOrder order).foldl (State.frameTask inputs) s.relock).PoolSound :=
      List.foldlRecOn (motive := State.PoolSound) _ _ (relock_poolSound sound)
        fun _ h k _ => frameTask_poolSound h inputs k
    exact done
  case period contacts order =>
    have begun : (s.setTiming s.timing.nextPeriod).PoolSound := sound
    exact List.foldlRecOn (motive := State.PoolSound) _ _ begun fun _ h k _ => periodTask_poolSound h contacts _ k
  case applyPreset c order n pending =>
    have reported : ∀ k f, (s.reportClock c k f).PoolSound := fun k f => sound.aside (by simp) (by simp)
    exact deliverReport_poolSound (reported _ _) c order
  case slewStep c due => exact slewStep_poolSound sound (DelayLine.stepDue_iff.1 due).1
  case sampleGpi g v edges => exact sampleGpi_poolSound sound g v edges
  case receiveMarker c ch seq => exact receiveMarker_poolSound sound c ch seq
  case request p r => exact requestOwner_poolSound sound p r
  case pictureStart c now fresh =>
    have discarded : (s.modChan c fun x => x.setSync x.sync.discard).PoolSound := sound.modAside (by simp)
    refine State.PoolSound.modAside ?_ (by simp)
    split
    · exact discarded.aside (State.setLock_free ..) (State.setLock_chan_delay _ c _ _)
    · exact discarded
  case signalAbsent c =>
    have discarded : (s.modChan c fun x =>
        x.setSync { x.sync.discard with signal := false, lastStart := none }).PoolSound := sound.modAside (by simp)
    exact discarded.aside (State.setLock_free ..) (State.setLock_chan_delay _ c _ _)
  case signalDown c => exact sound.modAside (by simp)
  case advanceRamp c => exact sound.modAside (by simp)
  case advanceMove c => exact sound.modAside (by simp)
  case takePending c => exact sound.modAside (by simp)
  all_goals exact sound.aside (by simp) (by simp)

/-- Settles O54: the ports' own acts and the queue have no part in the pool, and every event keeps it. -/
theorem poolKept : Obligations.PoolKept := by
  intro s t sound h
  refine step_keeps (P := State.PoolSound) (fun _ _ keep => keep) (fun a b act keep => ?_)
    (fun _ _ event => event.poolSound) h sound
  rw [act.same]
  exact keep

end Sys2Proof.Machine
end

section
/-! PROOFS. LAG_SET and BOOTH_LATENCY_SET (R140, R141, R165), and SLEW_STEP (R145 to R147, R149). -/

namespace Sys2Proof.Machine

open Sys2Proof

/-! ## The target set (R140, R141, R165) -/

section
variable {ch : Byte} (value : Byte) (s : State) {c : Channel} (here : ch.toNat = c.val)
include here

theorem lagSet_taken :
    let u := s.setLag c (min 50 value.toNat)
    lagSet ch value s = (u, {
      code := clampedCode (decide (50 < value.toNat) || decide ((u.chan c).delay.target < (u.chan c).delay.requested))
      payload := byte1 (min 50 value.toNat) :: u.delayBytes c }) := by
  simp only [lagSet, readChannel_some here, taken_eq, DelayLine.clamped]

theorem boothLatencySet_taken :
    let u := (s.storeLatency c (min 249 value.toNat)).targetEvent c
    boothLatencySet ch value s = (u, {
      code := clampedCode (decide (249 < value.toNat) || decide ((u.chan c).delay.target < (u.chan c).delay.requested))
      payload := byte1 (min 249 value.toNat) :: u.delayBytes c }) := by
  simp only [boothLatencySet, readChannel_some here, taken_eq, DelayLine.clamped]
  rfl

end

/-- Settles O31: a channel byte above 3 is refused, and otherwise the value is stored and the target event taken. -/
theorem delayTargets : Obligations.DelayTargets := by
  intro s p tag ch value room sound
  have lag : ∀ {u : State} {completion : Completion} {payload : List Byte},
      lagSet ch value s = (u, ⟨completion, payload⟩) →
      exec (.lagSet p tag ch value) s = .next (u.replied p tag 0x30 completion payload) := fun owner =>
    exec_answered (r := .lagSet ch value) (by simp) rfl room owner
  have latency : ∀ {u : State} {completion : Completion} {payload : List Byte},
      boothLatencySet ch value s = (u, ⟨completion, payload⟩) →
      exec (.boothLatencySet p tag ch value) s = .next (u.replied p tag 0x31 completion payload) := fun owner =>
    exec_answered (r := .boothLatencySet ch value) (by simp) rfl room owner
  refine ⟨fun high => ⟨lag ?_, latency ?_⟩, fun c here => ⟨⟨_, lag (lagSet_taken value s here), ?_⟩,
    ⟨_, latency (boothLatencySet_taken value s here), ?_⟩⟩⟩
  · simp only [lagSet, readChannel_none high, refuse]
  · simp only [boothLatencySet, readChannel_none high, refuse]
  · exact targetTook_setLag sound c _
  · exact targetTook_storeLatency sound c _

/-! ## SLEW_STEP (R145 to R147, R149) -/

section
variable (s : State) (c : Channel)

theorem exec_slewStep_idle (idle : s.timing.relocking = true ∨ (s.chan c).delay.actual = (s.chan c).delay.target
    ∨ (s.chan c).delay.slewCount + 1 < (s.chan c).delay.slewInterval) : exec (.slewStep c) s = .next s := by
  refine if_neg fun ⟨ordinary, due⟩ => ?_
  obtain ⟨differs, reached⟩ := DelayLine.stepDue_iff.1 due
  obtain relock | same | short := idle
  · simp [ordinary] at relock
  · exact differs same
  · omega

theorem exec_slewStep_due (ordinary : s.timing.relocking = false) (due : (s.chan c).delay.stepDue = true) :
    exec (.slewStep c) s = .next (s.slewStep c) :=
  if_pos ⟨ordinary, due⟩

/-- Nothing but the channel's delay line, the pool and the latches takes part in a slew step. -/
theorem State.slewStep_frame :
    s.slewStep c = { s with
      channels := (s.slewStep c).channels, free := (s.slewStep c).free, ports := (s.slewStep c).ports } := by
  rw [State.slewStep_eq]
  split <;> rfl

theorem State.slewStep_chan (b : Channel) : (s.slewStep c).chan b
    = if b = c then (s.chan c).setDelay (s.chan c).delay.slewStep else s.chan b := by
  have put : (s.putDelay c (s.chan c).delay.slewStep).chan b
      = if b = c then (s.chan c).setDelay (s.chan c).delay.slewStep else s.chan b :=
    s.modChan_chan c b fun x => x.setDelay (s.chan c).delay.slewStep
  rw [State.slewStep_eq]
  split
  · rw [State.postAll_chan, put]
  · exact put

theorem State.slewStep_free : (s.slewStep c).free
    = s.free + (s.chan c).delay.held - (s.chan c).delay.slewStep.held := by
  rw [State.slewStep_eq]
  split <;> rfl

theorem State.slewStep_posted : s.Posted (s.slewStep c) fun l =>
    l = .channel .delaySettled c ∧ (s.chan c).delay.slewStep.actual = (s.chan c).delay.slewStep.target := by
  rw [State.slewStep_eq]
  exact State.Posted.after (t := s.putDelay c _) rfl (.postIf _ _)

end

/-- Settles O32: a step not due changes nothing, and one due is an increase or a decrease of the delay line. -/
theorem slewStepResult : Obligations.SlewStepResult := by
  intro s c sound
  dsimp only
  refine ⟨exec_slewStep_idle s c, fun ordinary differs reached => ?_⟩
  have line : (s.chan c).delay.Sound := sound.2 c
  have own := s.slewStep_chan c c
  have free := s.slewStep_free c
  rw [if_pos rfl] at own
  refine ⟨s.slewStep c, exec_slewStep_due s c ordinary (DelayLine.stepDue_iff.2 ⟨differs, reached⟩),
    s.slewStep_frame c, fun b other => by rw [s.slewStep_chan, if_neg other], ?_, ?_⟩
  · rw [own]; rfl
  rw [own, ChannelState.setDelay_delay]
  refine ⟨fun up => ?_, fun down => ?_, s.slewStep_posted c⟩
  · rw [DelayLine.slewStep_up up] at free ⊢
    exact ⟨rfl, free.trans (Nat.add_sub_cancel ..)⟩
  · have held : (s.chan c).delay.held = (s.chan c).delay.actual + 1 := by
      obtain ⟨held, -⟩ := line
      omega
    rw [DelayLine.slewStep_down line down] at free ⊢
    dsimp only at free ⊢
    exact ⟨rfl, by omega⟩

end Sys2Proof.Machine
end

section
/-! PROOFS. The calibration unit (Chapter 8): how a run begins, what its next period does, what a marker received does,
and how a run ends (R155 to R161, R164, R198). -/

namespace Sys2Proof.Machine

open Sys2Proof

/-! ## A calibration record replaced -/

/-- A channel with its calibration record replaced. -/
def State.putCalibration (s : State) (c : Channel) (k : Calibration) : State :=
  s.setChan c ((s.chan c).setCalibration k)

theorem State.putCalibration_chan (s : State) (c : Channel) (k : Calibration) :
    (s.putCalibration c k).chan c = (s.chan c).setCalibration k :=
  State.setChan_chan_same ..

theorem State.putCalibration_putCalibration (s : State) (c : Channel) (k l : Calibration) :
    (s.putCalibration c k).putCalibration c l = s.putCalibration c l := by
  rw [State.putCalibration, State.putCalibration_chan]
  exact s.setChan_setChan c _ _

theorem State.PoolSound.putCalibration {s : State} (sound : s.PoolSound) (c : Channel) (k : Calibration) :
    (s.putCalibration c k).PoolSound :=
  sound.modAside (f := fun x => x.setCalibration k) rfl

/-! ## The end of a run (R159, R160, R164) -/

theorem State.SameButPorts.symm {s t : State} (h : s.SameButPorts t) : t.SameButPorts s := by
  rw [State.SameButPorts, h]

theorem State.postDone_sameButPorts (s : State) (c : Channel) : s.SameButPorts (s.postDone c) := by
  have frame := (State.Turned.postDone s c).frame
  rwa [State.postDone_channels] at frame

/-- The end of a run in its two stages: the result with CALIBRATION out of the suppression set, then the posting to the
run's origin (R159, R164). -/
theorem State.endRun_took (s : State) (c : Channel) (r : RunResult) : ∃ u : State,
    (s.putCalibration c ((s.chan c).calibration.finish r)).SuppressionTook u c
        { (s.chan c).window.suppression with calibration := false }
      ∧ (s.endRun c r).SameButPorts u
      ∧ ∀ q, (u.port q).Posted ((s.endRun c r).port q)
          fun l => l = .channel .calibrationDone c ∧ (s.chan c).calibration.origin = some q := by
  have removed := suppressionTook_setMember (s.putCalibration c ((s.chan c).calibration.finish r)) c .calibration false
  have done := (State.Turned.postDone
    ((s.putCalibration c ((s.chan c).calibration.finish r)).setMember c .calibration false) c).latches
  rw [State.putCalibration_chan] at removed
  simp only [State.setMember_chan_calibration, State.putCalibration_chan] at done
  exact ⟨_, removed, (State.postDone_sameButPorts _ c).symm, done⟩

/-- A run that ends with OK sets its last measured latency, takes it as the booth latency, a target event, and then ends
as any other run does (R159, R160). -/
theorem State.endRunOk_eq (s : State) (c : Channel) :
    let k := (s.chan c).calibration
    s.endRunOk c = (((s.putCalibration c { k with lastMeasured := some k.largest }).storeLatency c
      k.largest).targetEvent c).endRun c .ok := by
  intro k
  have stored : (s.putCalibration c { k with lastMeasured := some k.largest }).storeLatency c k.largest
      = s.putCalibration c { k with lastMeasured := some k.largest, latency := k.largest } := by
    rw [State.storeLatency, State.modChan, State.putCalibration_chan]
    exact s.setChan_setChan c _ _
  rw [stored]
  rfl

theorem State.endRunOk_took {s : State} (sound : s.PoolSound) (c : Channel) :
    let k := (s.chan c).calibration
    ∃ t u : State,
      (s.putCalibration c { k with lastMeasured := some k.largest }).TargetTook t c (s.chan c).delay.lag k.largest
        ∧ (t.putCalibration c ((t.chan c).calibration.finish .ok)).SuppressionTook u c
            { (s.chan c).window.suppression with calibration := false }
        ∧ (s.endRunOk c).SameButPorts u
        ∧ ∀ q, (u.port q).Posted ((s.endRunOk c).port q)
            fun l => l = .channel .calibrationDone c ∧ k.origin = some q := by
  intro k
  have target := targetTook_storeLatency (sound.putCalibration c { k with lastMeasured := some k.largest }) c k.largest
  obtain ⟨u, removed, same, posted⟩ := (((s.putCalibration c { k with lastMeasured := some k.largest }).storeLatency c
    k.largest).targetEvent c).endRun_took c .ok
  rw [State.targetEvent_chan_window, State.storeLatency, State.modChan_chan_same, State.putCalibration_chan] at removed
  simp only [State.targetEvent_chan_calibration, State.storeLatency, State.modChan_chan_same,
    State.putCalibration_chan] at posted
  rw [State.putCalibration_chan] at target
  rw [State.endRunOk_eq]
  exact ⟨_, u, target, removed, same, posted⟩

/-! ## CALIBRATE (R155, R156) -/

section
variable {p : PortId} {ch : Byte} {s : State} {c : Channel} (here : ch.toNat = c.val)
include here

theorem calibrate_busy (running : (s.chan c).calibration.running = true) :
    calibrate p ch s = (s, refuse .busy) := by
  simp only [calibrate, readChannel_some here, if_pos running]

variable (idle : (s.chan c).calibration.running = false)
include idle

theorem calibrate_notReady (unready : 0 < s.timing.relockCount ∨ ((s.chan c).sync.lock ≠ .locked
    ∧ (s.chan c).sync.lock ≠ .holding)) : calibrate p ch s = (s, refuse .notReady) := by
  simp only [calibrate, readChannel_some here, idle, Bool.false_eq_true, if_false]
  obtain relocking | unavailable := unready
  · rw [if_pos relocking]
  · rw [if_pos ((LockState.not_available_iff _).2 unavailable), ite_self]

theorem calibrate_accepted (ready : s.timing.relockCount = 0)
    (available : (s.chan c).sync.lock = .locked ∨ (s.chan c).sync.lock = .holding) :
    calibrate p ch s = ((s.putCalibration c ((s.chan c).calibration.accept p)).setMember c .calibration true,
      { code := .ok, payload := [byte1 (((s.chan c).calibration.base + 4) % 256)] }) := by
  have open_ : (s.chan c).sync.lock.available = true := (LockState.available_iff _).2 available
  simp only [calibrate, readChannel_some here, idle, ready, open_, Bool.false_eq_true, Bool.true_eq_false, if_false,
    Nat.lt_irrefl]
  rfl

end

/-- Settles O33: the checks in their order, and the run admitted with its member put into the suppression set. -/
theorem calibrateResult : Obligations.CalibrateResult := by
  intro s p tag ch room
  have answers : ∀ {u : State} {completion : Completion} {payload : List Byte},
      calibrate p ch s = (u, ⟨completion, payload⟩) →
      exec (.calibrate p tag ch) s = .next (u.replied p tag 0x32 completion payload) := fun owner =>
    exec_answered (r := .calibrate ch) (by simp) rfl room owner
  refine ⟨fun high => answers ?_, fun c here => ⟨fun running => answers (calibrate_busy here running),
    fun idle unready => answers (calibrate_notReady here idle unready), fun idle ready available =>
      ⟨_, answers (calibrate_accepted here idle ready available), ?_⟩⟩⟩
  · simp only [calibrate, readChannel_none high, refuse]
  · have joined := suppressionTook_setMember (s.putCalibration c ((s.chan c).calibration.accept p)) c .calibration true
    rw [State.putCalibration_chan] at joined
    exact joined

/-! ## The next period of a run (R157, R161) -/

theorem Calibration.sendDue_iff (k : Calibration) : k.sendDue = true ↔ k.running = true
    ∧ ¬ k.timedOut (k.runCount + 1) = true ∧ ∃ i : MarkerIx, k.runCount + 1 = 1 + 50 * i.val := by
  simp only [Calibration.sendDue, Bool.and_eq_true, Bool.not_eq_true', Bool.not_eq_true, List.any_eq_true,
    mem_markerIndices, true_and, decide_eq_true_eq, and_assoc, eq_comm (a := k.runCount + 1)]
  rfl

theorem Calibration.timeoutDue_iff (k : Calibration) :
    k.timeoutDue = true ↔ k.running = true ∧ k.timedOut (k.runCount + 1) = true :=
  Bool.and_eq_true_iff

section
variable {s : State} {c : Channel}

theorem exec_markerSend_due (due : (s.chan c).calibration.sendDue = true) :
    exec (.markerSend c) s = .next (s.countRun c) :=
  if_pos due

theorem exec_markerSend_idle (idle : ¬ (s.chan c).calibration.sendDue = true) : exec (.markerSend c) s = .next s :=
  if_neg idle

theorem exec_calibrationTimeout_idle (idle : ¬ (s.chan c).calibration.timeoutDue = true) :
    exec (.calibrationTimeout c) s = .next s :=
  if_neg idle

theorem State.countRun_timesOut (running : (s.chan c).calibration.running = true)
    (late : (s.chan c).calibration.timedOut ((s.chan c).calibration.runCount + 1) = true) : s.countRun c
      = (s.putCalibration c { (s.chan c).calibration with
          runCount := (s.chan c).calibration.runCount + 1, inserting := none }).endRun c .timeout := by
  unfold State.countRun
  dsimp only
  rw [if_neg (by simp [running]), if_pos late]
  rfl

end

/-- Settles O34: which event is next by `Calibration.sendDue_iff` and `Calibration.timeoutDue_iff`, and what it does by
the equations of `State.countRun`. -/
theorem calibrationPeriods : Obligations.CalibrationPeriods := by
  intro s c k late
  have timedOut : k.timedOut (k.runCount + 1) = true ↔ late := k.timedOut_iff _
  rw [← timedOut]
  have sends := k.sendDue_iff
  have timesOut := k.timeoutDue_iff
  refine ⟨fun idle => ?_, fun i running inTime due => ?_, fun running inTime unsent => ?_, fun running past => ?_⟩
  · exact ⟨exec_markerSend_idle fun due => by simp [(sends.1 due).1] at idle,
      exec_calibrationTimeout_idle fun due => by simp [(timesOut.1 due).1] at idle⟩
  · refine ⟨exec_calibrationTimeout_idle fun past => inTime (timesOut.1 past).2, ?_⟩
    rw [exec_markerSend_due (sends.2 ⟨running, inTime, i, due⟩), State.countRun_raises running inTime,
      Calibration.raise_sends due]
  · refine ⟨exec_markerSend_idle fun due => ?_, exec_calibrationTimeout_idle fun past => inTime (timesOut.1 past).2⟩
    obtain ⟨-, -, i, sent⟩ := sends.1 due
    exact unsent i sent
  · refine ⟨exec_markerSend_idle fun due => (sends.1 due).2.1 past, ?_⟩
    obtain ⟨u, removed, same, posted⟩ := State.endRun_took (s.putCalibration c
      { k with runCount := k.runCount + 1, inserting := none }) c .timeout
    rw [State.putCalibration_putCalibration] at removed
    simp only [State.putCalibration_chan] at removed posted
    rw [exec_calibrationTimeout_due running past, State.countRun_timesOut running past]
    exact ⟨u, _, rfl, removed, same, posted⟩

/-! ## A marker packet (R198) -/

theorem readMarker_of_length {packet : Packet} (other : packet.words.length ≠ 6) : readMarker packet = none := by
  unfold readMarker
  split
  · rename_i six
    exact absurd (congrArg List.length six) other
  · rfl

theorem readMarker_words (a b n ch seq check : Sample) : readMarker { words := [a, b, n, ch, seq, check] }
    = if wordValue a = 0x51 ∧ wordValue b = 0x2E ∧ wordValue n = 3
        ∧ wordValue check = 255 - (wordValue ch + wordValue seq) % 256
      then some (wordValue ch, wordValue seq) else none := by
  simp only [readMarker, markerIdentified, Bool.and_eq_true, decide_eq_true_eq, and_assoc]

section
variable {s : State} {c : Channel} {packet : Packet}

theorem exec_markerReceived_none (unread : readMarker packet = none) :
    exec (.markerReceived c packet) s = .next s := by
  show execMarkerReceived c packet s = _
  rw [execMarkerReceived, unread]

theorem exec_markerReceived_some {ch seq : Nat} (read : readMarker packet = some (ch, seq)) :
    exec (.markerReceived c packet) s = .next (s.receiveMarker c ch seq) := by
  show execMarkerReceived c packet s = _
  rw [execMarkerReceived, read]

end

/-! ## The marker of a sequence (R158) -/

section
variable {k : Calibration} {seq : Nat} {i : MarkerIx}

/-- A marker of the run that has the sequence, has been sent and is not measured (R158). -/
def Calibration.Named (k : Calibration) (seq : Nat) (i : MarkerIx) : Prop :=
  seq = (k.base + i.val) % 256 ∧ (k.sends.pick i).isSome = true ∧ k.measured.pick i = none

theorem Calibration.named_iff :
    (decide (k.sequence i = seq) && k.outstanding i) = true ↔ k.Named seq i := by
  simp only [Calibration.Named, Calibration.outstanding, Bool.and_eq_true, decide_eq_true_eq,
    Option.isNone_iff_eq_none, eq_comm (a := seq)]
  rfl

theorem Calibration.matched_eq_none (none_ : ∀ i, ¬ k.Named seq i) : k.matched seq = none :=
  List.find?_eq_none.2 fun i _ => mt Calibration.named_iff.1 (none_ i)

/-- The four markers of a run have different sequences, so the one named is the one found. -/
theorem Calibration.matched_of_named (named : k.Named seq i) : k.matched seq = some i := by
  cases found : k.matched seq with
  | none => exact absurd (Calibration.named_iff.2 named) (List.find?_eq_none.1 found i (mem_markerIndices i))
  | some j =>
    obtain ⟨first, -⟩ := Calibration.named_iff.1 (List.find?_some
      (p := fun i => decide (k.sequence i = seq) && k.outstanding i) found)
    obtain ⟨second, -⟩ := named
    have lt := i.isLt
    have lt' := j.isLt
    exact congrArg some (Fin.ext (by omega))

end

/-! ## The measurement and the four values (R158, R160) -/

theorem Calibration.measure_eq {k : Calibration} {i : MarkerIx} {m : Nat} (sent : k.sends.pick i = some m) :
    k.measure i = { k with measured := k.measured.put i (some (k.runCount - m)) } := by
  rw [Calibration.measure, sent]
  rfl

theorem Calibration.allMeasured_iff (k : Calibration) :
    k.allMeasured = true ↔ ∀ j, ∃ v, k.measured.pick j = some v := by
  simp only [Calibration.allMeasured, List.all_eq_true, mem_markerIndices, true_imp_iff, Option.isSome_iff_exists]

theorem Calibration.largest_eq {k : Calibration} {n : Nat} (most : ∀ j, (k.measured.pick j).getD 0 ≤ n)
    (reached : ∃ j, (k.measured.pick j).getD 0 = n) : k.largest = n := by
  have value : k.largest = max (max (max (max 0 ((k.measured.pick 0).getD 0)) ((k.measured.pick 1).getD 0))
      ((k.measured.pick 2).getD 0)) ((k.measured.pick 3).getD 0) := rfl
  obtain ⟨h0, h1, h2, h3⟩ : _ ∧ _ ∧ _ ∧ _ := ⟨most 0, most 1, most 2, most 3⟩
  rw [value]
  obtain ⟨j, at_⟩ := reached
  match j with
  | 0 | 1 | 2 | 3 => omega

/-! ## MARKER_RECEIVED (R158 to R160) -/

section
variable {s : State} {c : Channel} {ch seq : Nat}

theorem State.receiveMarker_ignored (other : (s.chan c).calibration.running = false ∨ ch ≠ c.val
    ∨ ∀ i, ¬ (s.chan c).calibration.Named seq i) : s.receiveMarker c ch seq = s := by
  unfold State.receiveMarker
  dsimp only
  split
  · rfl
  · rename_i taken
    have none_ := (or_assoc.2 other).resolve_left taken
    rw [Calibration.matched_eq_none none_]

theorem State.receiveMarker_named {i : MarkerIx} (running : (s.chan c).calibration.running = true)
    (own : ch = c.val) (named : (s.chan c).calibration.Named seq i) :
    let t := s.putCalibration c ((s.chan c).calibration.measure i)
    s.receiveMarker c ch seq
      = if ((s.chan c).calibration.measure i).allMeasured = true then t.endRunOk c else t := by
  intro t
  have measured : (t.chan c).calibration = (s.chan c).calibration.measure i :=
    congrArg ChannelState.calibration (State.putCalibration_chan ..)
  rw [← measured, State.receiveMarker]
  dsimp only
  rw [if_neg (by simp [running, own]), Calibration.matched_of_named named]
  rfl

end

/-- Settles O35: a packet that names no marker of the run is ignored, and the marker named is measured, the fourth
ending the run by `State.endRunOk_took`. -/
theorem markerMeasured : Obligations.MarkerMeasured := by
  intro s c a b n ch seq check sound k low packet marker named
  have read : readMarker packet = if marker then some (low ch, low seq) else none := by
    rw [readMarker_words]
    rfl
  refine ⟨fun other words => exec_markerReceived_none (readMarker_of_length words), fun ignored => ?_, ?_⟩
  · by_cases isMarker : marker
    · rw [if_pos isMarker] at read
      rw [exec_markerReceived_some read, State.receiveMarker_ignored (ignored.resolve_left (not_not.2 isMarker))]
    · rw [if_neg isMarker] at read
      exact exec_markerReceived_none read
  · intro i m isMarker running own isNamed sent x
    rw [if_pos isMarker] at read
    have received := State.receiveMarker_named running own (seq := low seq) isNamed
    rw [Calibration.measure_eq sent] at received
    rw [exec_markerReceived_some read, received]
    refine ⟨fun ⟨j, unmeasured⟩ => ?_, fun largest most reached => ?_⟩
    · have short : ¬ x.allMeasured = true := fun all => by
        obtain ⟨v, value⟩ := x.allMeasured_iff.1 all j
        rw [unmeasured] at value
        cases value
      rw [if_neg short]
      rfl
    · have all : x.allMeasured = true := x.allMeasured_iff.2 fun j => (most j).imp fun _ => And.left
      have value : x.largest = largest := by
        refine Calibration.largest_eq (fun j => ?_) (reached.imp fun j measured => by rw [measured]; rfl)
        obtain ⟨v, measured, bound⟩ := most j
        rwa [measured]
      have ended := State.endRunOk_took (sound.putCalibration c x) c
      simp only [State.putCalibration_chan, State.putCalibration_putCalibration] at ended
      rw [if_pos all]
      obtain ⟨t, u, target, removed, same, posted⟩ := ended
      rw [← value]
      exact ⟨t, u, _, rfl, target, removed, same, posted⟩

end Sys2Proof.Machine
end

section
/-! PROOFS. Contact inputs: the levels that every channel takes from them, a FIRE edge taken by the channels of a mask,
and DEBOUNCED_STATE_CHANGE (R168 to R171, R45). -/

namespace Sys2Proof.Machine

open Sys2Proof

/-! ## The levels (R169, R171) -/

theorem Gpi.level_iff (x : Gpi) : x.level = true ↔ (x.debounced = .closed ↔ x.polarity = .activeClosed) := by
  unfold Gpi.level
  cases x.polarity with
  | activeClosed => simp
  | activeOpen => cases x.debounced <;> simp

theorem State.contactLevel_iff (s : State) (m : GpiMode) (c : Channel) : s.contactLevel m c = true
    ↔ ∃ g : GpiIx, (s.gpi g).mode = m ∧ (s.gpi g).mask.pick c = true
      ∧ ((s.gpi g).debounced = .closed ↔ (s.gpi g).polarity = .activeClosed) := by
  have all : ∀ g : GpiIx, g ∈ gpiIndices := by decide
  simp only [State.contactLevel, List.any_eq_true, all, true_and, Bool.and_eq_true, decide_eq_true_eq, Gpi.level_iff,
    and_assoc]

/-- The levels taken by one channel: what they change of it is posted. -/
theorem State.Became.takeContact (s : State) (c : Channel) : s.Became (s.takeContact c) c
    ((s.chan c).contacted (s.contactLevel .hold c) (s.contactLevel .suppress c))
    fun l => l = .channel .suppressionChange c
      ∧ (s.chan c).window.suppression.contact ≠ s.contactLevel .suppress c :=
  .modChan_setMember s c (fun x => x.setWindow { x.window with contactHold := s.contactLevel .hold c }) .contact _

/-- From one state to the next, the channels listed take the contact levels; the others wait as they were. -/
structure State.LevelsTook (s u : State) (l : List Channel) : Prop where
  frame : u = { s with channels := u.channels, ports := u.ports }
  waiting : ∀ c, c ∉ l → u.chan c = s.chan c
  posted : s.Posted u fun k => ∃ c ∈ l, k = .channel .suppressionChange c
    ∧ (s.chan c).window.suppression.contact ≠ s.contactLevel .suppress c

theorem State.LevelsTook.snoc {s u : State} {l : List Channel} {c : Channel} (h : s.LevelsTook u l) (fresh : c ∉ l) :
    s.LevelsTook (u.takeContact c) (l ++ [c]) := by
  have gpis : u.gpis = s.gpis := by rw [h.frame]
  have became := State.Became.takeContact u c
  have frame := became.frame
  have posted := became.latches
  rw [State.takeContact_cues] at frame
  rw [h.waiting c fresh, State.contactLevel_congr gpis] at posted
  refine ⟨?_, fun d later => ?_, (h.posted.trans posted).congr fun k => ?_⟩
  · rw [frame, h.frame]
  · simp only [List.mem_append, List.mem_singleton, not_or] at later
    rw [became.chan, if_neg later.2, h.waiting d later.1]
  · simp [or_and_right, exists_or]

theorem levelsTook_foldl (s : State) {l : List Channel} (nodup : l.Nodup) :
    s.LevelsTook (l.foldl (fun t c => t.takeContact c) s) l := by
  induction l using List.reverseRecOn with
  | nil => exact ⟨rfl, fun _ _ => rfl, (State.Posted.of_ports rfl).congr fun _ => by simp⟩
  | append_singleton l c ih =>
    obtain ⟨before, -, apart⟩ := List.nodup_append.1 nodup
    rw [List.foldl_append]
    exact (ih before).snoc fun taken => apart c taken c (by simp) rfl

/-- Every channel takes the levels (R55, R59, R62, R171). -/
theorem contactsTook_takeContacts (s : State) : s.ContactsTook s.takeContacts := by
  have took : s.LevelsTook s.takeContacts Channel.all := by
    unfold State.takeContacts State.eachChannel
    exact levelsTook_foldl s (by decide)
  have all : ∀ c : Channel, c ∈ Channel.all := by decide
  exact ⟨took.frame, s.takeContacts_chan, took.posted.congr fun l => by simp [all]⟩

/-- What the channels take are the levels of the state reached, as the contact inputs stay. -/
theorem State.takeContacts_contacted (s : State) (c : Channel) : s.takeContacts.chan c
    = (s.chan c).contacted (s.takeContacts.contactLevel .hold c) (s.takeContacts.contactLevel .suppress c) := by
  rw [s.takeContacts_chan, State.contactLevel_congr s.takeContacts_gpis, State.contactLevel_congr s.takeContacts_gpis]

theorem State.takeContacts_contactsFollow (s : State) (c : Channel) : (s.takeContacts.chan c).ContactsFollow
    (s.takeContacts.contactLevel .hold c) (s.takeContacts.contactLevel .suppress c) :=
  s.takeContacts_contacted c ▸ contacted_contactsFollow ..

/-! ## A FIRE edge taken by one channel (R45) -/

section
variable {s : State} {g : GpiIx} {c : Channel}

theorem dealCue_fired (s : State) (c : Channel) (i : SlotIx) : dealCue c s (i, .fired) = s.fireCue c .fired i :=
  if_neg Result.noConfusion

/-- An edge does nothing, or deals with one live cue of the channel's contact list. -/
theorem State.fireEdge_cases (s : State) (g : GpiIx) (c : Channel) : s.fireEdge g c = s
    ∨ ∃ i k, i ∈ (s.chan c).scheduler.contact ∧ s.cue i = some k
      ∧ s.fireEdge g c = dealCue c s (i, .fired) := by
  unfold State.fireEdge
  split
  · exact .inl rfl
  · split
    · exact .inl rfl
    · rename_i i found
      have named := List.find?_some found
      cases live : s.cue i with
      | none => simp [live] at named
      | some k => exact .inr ⟨i, k, List.mem_of_find?_eq_some found, live, (dealCue_fired s c i).symm⟩

theorem State.fireEdge_held (held : (s.chan c).scheduler.hold ≠ PortSet.empty) : s.fireEdge g c = s :=
  if_pos (by rwa [← Bool.not_eq_true, PortSet.isEmpty_iff])

theorem State.fireEdge_slot {i : SlotIx} (out : i ∉ (s.chan c).scheduler.contact) :
    (s.fireEdge g c).slot i = s.slot i := by
  obtain same | ⟨j, k, mem, live, deals⟩ := s.fireEdge_cases g c
  · rw [same]
  · rw [deals, dealCue_slot live, if_neg fun own : i = j => out (own ▸ mem)]

end

/-! ## A FIRE edge taken by one channel after another (R170) -/

/-- Between two states cues of the contact lists may have gone, and the timed lists stay. -/
structure State.Edged (s u : State) : Prop where
  fewer : s.Fewer u
  timed : ∀ d, (u.chan d).scheduler.timed = (s.chan d).scheduler.timed
  contact : ∀ d, ∀ i ∈ (u.chan d).scheduler.contact, i ∈ (s.chan d).scheduler.contact

section
variable {s u : State} {g : GpiIx} {c : Channel} {l : List Channel}

theorem State.Edged.refl (s : State) : s.Edged s := ⟨.refl s, fun _ => rfl, fun _ _ h => h⟩

theorem State.Edged.fireEdge (sound : s.CuesSound) (edged : s.Edged u) (g : GpiIx) (c : Channel) :
    s.Edged (u.fireEdge g c) := by
  obtain same | ⟨i, k, mem, live, deals⟩ := u.fireEdge_cases g c
  · rwa [same]
  · have lists := dealCue_unrecorded (c := c) live .fired
    have timed := congrArg Scheduler.timed lists
    have contact := congrArg Scheduler.contact lists
    have absent : i ∉ (u.chan c).scheduler.timed := fun h =>
      sound.timed_not_contact (edged.timed c ▸ h) (edged.contact c i mem)
    rw [← deals] at timed contact
    simp only [Scheduler.unrecorded] at timed contact
    refine ⟨edged.fewer.trans ?_, fun d => ?_, fun d j hj => ?_⟩
    · rw [deals, dealCue_fired]
      exact .fireCue u c .fired i
    · by_cases hd : d = c
      · subst hd
        rw [timed, ← edged.timed d]
        exact List.filter_eq_self.2 fun j hj => by
          simpa using fun own : j = i => absent (own ▸ hj)
      · rw [State.fireEdge_chan_ne u g c hd, edged.timed]
    · by_cases hd : d = c
      · subst hd
        rw [contact] at hj
        exact edged.contact d j (List.mem_filter.1 hj).1
      · rw [State.fireEdge_chan_ne u g c hd] at hj
        exact edged.contact d j hj

theorem State.Edged.foldl (sound : s.CuesSound) (g : GpiIx) (l : List Channel) :
    s.Edged (l.foldl (fun u c => u.fireEdge g c) s) :=
  List.foldlRecOn (motive := s.Edged) _ _ (.refl s) fun _ edged c _ => edged.fireEdge sound g c

/-- A channel that takes no edge, or is held, or has no contact cue naming the input, is left alone by the edges of
all. -/
theorem fireEdges_chan_of_idle (sound : s.CuesSound) (nodup : l.Nodup)
    (idle : c ∉ l ∨ (s.chan c).scheduler.hold ≠ PortSet.empty
      ∨ ∀ i ∈ (s.chan c).scheduler.contact, ∀ k, s.cue i = some k → k.trigger ≠ .contact g) :
    (l.foldl (fun u d => u.fireEdge g d) s).chan c = s.chan c := by
  by_cases mem : c ∈ l
  · obtain ⟨d, u, own, edged, same, result⟩ := foldl_once (f := fun u d => u.fireEdge g d) (key := id)
      (proj := fun u : State => u.chan c) (inv := s.Edged) (k := c) (fun _ d edged => edged.fireEdge sound g d)
      (fun u d _ other => u.fireEdge_chan_ne g d (Ne.symm other)) (by simpa using nodup) (by simpa using mem) (.refl s)
    obtain rfl : d = c := own
    have still : u.fireEdge g d = u := by
      obtain held | none := idle.resolve_left (not_not.2 mem)
      · exact State.fireEdge_held (by rwa [same])
      · refine State.fireEdge_none ?_
        rw [same]
        exact fun i hi k live => none i hi k (edged.fewer i k live)
    rw [result, still, same]
  · exact foldl_others (f := fun u d => u.fireEdge g d) (key := id) (proj := fun u : State => u.chan c)
      (inv := fun _ => True) (fun _ _ _ => trivial) (fun u d _ other => u.fireEdge_chan_ne g d (Ne.symm other))
      (by simpa using mem) trivial

/-- The oldest contact cue of a channel that names the input leaves its list and its slot, whatever the other channels
of the edge do. -/
theorem fireEdges_first (sound : s.CuesSound) (nodup : l.Nodup) (mem : c ∈ l) {before after : List SlotIx}
    {i : SlotIx} {k : Cue} (empty : (s.chan c).scheduler.hold = PortSet.empty)
    (list : (s.chan c).scheduler.contact = before ++ i :: after)
    (first : ∀ j ∈ before, ∀ o, s.cue j = some o → o.trigger ≠ .contact g)
    (live : s.cue i = some k) (names : k.trigger = .contact g) :
    ((l.foldl (fun u d => u.fireEdge g d) s).chan c).scheduler.contact = before ++ after
      ∧ (l.foldl (fun u d => u.fireEdge g d) s).slot i = { s.slot i with cue := none } := by
  have elsewhere : ∀ d, d ≠ c → i ∉ (s.chan d).scheduler.contact := fun d other there =>
    other ((sound.ofChannel_contact there k live).symm.trans (sound.ofChannel_contact (list ▸ by simp) k live))
  obtain ⟨d, u, own, edged, same, result⟩ := foldl_once (f := fun u d => u.fireEdge g d) (key := id)
    (proj := fun u : State => (u.chan c, u.slot i)) (inv := s.Edged) (k := c)
    (fun _ d edged => edged.fireEdge sound g d)
    (fun u d edged other => Prod.ext (u.fireEdge_chan_ne g d (Ne.symm other))
      (State.fireEdge_slot fun there => elsewhere d other (edged.contact d i there)))
    (by simpa using nodup) (by simpa using mem) (.refl s)
  obtain rfl : d = c := own
  obtain ⟨chan, slot⟩ := Prod.ext_iff.1 same
  obtain ⟨chan', slot'⟩ := Prod.ext_iff.1 result
  dsimp only at chan slot chan' slot'
  have alive : u.cue i = some k := by rw [State.cue, slot]; exact live
  have fires := State.fireEdge_first (s := u) (c := d) (g := g) (by rwa [chan]) (by rwa [chan])
    (fun j hj o ho => first j hj o (edged.fewer j o ho)) alive names
  rw [← dealCue_fired] at fires
  rw [chan', slot', fires, dealCue_slot alive, if_pos rfl, slot]
  refine ⟨?_, rfl⟩
  have contact := congrArg Scheduler.contact (dealCue_unrecorded (c := d) alive .fired)
  simp only [Scheduler.unrecorded] at contact
  obtain ⟨lists, -⟩ := s.cuesSound_iff.1 sound
  obtain ⟨-, once, -⟩ := lists d
  rw [list] at once
  obtain ⟨out, -⟩ := List.nodup_cons.1 (List.nodup_middle.1 once)
  rw [contact, chan, list, List.filter_append, List.filter_cons_of_neg (by simp), ← List.filter_append]
  exact List.filter_eq_self.2 fun j hj => by simpa using fun own : j = i => out (own ▸ hj)

end

/-! ## DEBOUNCED_STATE_CHANGE (R168 to R171) -/

section
variable {s : State} {g : GpiIx} {v : Contact} (edges : List Channel)

theorem exec_debouncedStateChange_idle (same : ((s.gpi g).sample v).debounced = (s.gpi g).debounced) :
    exec (.debouncedStateChange g v edges) s = .next s := by
  show execDebouncedStateChange g v edges s = _
  exact if_pos same

theorem State.sampleGpi_changes (change : ((s.gpi g).sample v).debounced ≠ (s.gpi g).debounced) :
    s.sampleGpi g v edges = ((s.setGpi g ((s.gpi g).sample v)).fireEdges g edges).takeContacts := if_neg change

theorem State.fireEdges_silent (silent : ¬ ((s.gpi g).mode = .fire ∧ (s.gpi g).level = true)) :
    s.fireEdges g edges = s := if_neg silent

theorem State.fireEdges_fired (fires : (s.gpi g).mode = .fire ∧ (s.gpi g).level = true) :
    s.fireEdges g edges = (maskInOrder (s.gpi g).mask edges).foldl (fun t c => t.fireEdge g c) s := if_pos fires

theorem State.Edged.fireEdges (sound : s.CuesSound) (g : GpiIx) (edges : List Channel) :
    s.Edged (s.fireEdges g edges) := by
  by_cases fires : (s.gpi g).mode = .fire ∧ (s.gpi g).level = true
  · rw [State.fireEdges_fired edges fires]
    exact .foldl sound g _
  · rw [State.fireEdges_silent edges fires]
    exact .refl s

end

/-- Settles O41: the levels by `contactsTook_takeContacts`, and the edge channel by channel, each finding its own cues
as they were. -/
theorem debouncedChange : Obligations.DebouncedChange := by
  intro s g v edges sound x stable
  refine ⟨fun keeps => exec_debouncedStateChange_idle edges (by rw [Gpi.sample_kept keeps]),
    fun differs complete => ?_⟩
  intro y fires
  have sampled : (s.gpi g).sample v = y := by rw [Gpi.sample_eq]; exact congrArg _ (if_pos complete)
  have change : ((s.gpi g).sample v).debounced ≠ (s.gpi g).debounced := sampled ▸ differs
  have gpis : (s.sampleGpi g v edges).gpis = (s.setGpi g y).gpis := by rw [State.sampleGpi_gpis, sampled]; rfl
  have gpi : ∀ k, (s.sampleGpi g v edges).gpi k = (s.setGpi g y).gpi k := fun k => by rw [State.gpi, gpis]; rfl
  have result := State.sampleGpi_changes edges change
  rw [sampled] at result
  have fires_iff : ((s.setGpi g y).gpi g).mode = .fire ∧ ((s.setGpi g y).gpi g).level = true ↔ fires := by
    rw [State.setGpi_gpi_same, Gpi.level_iff]
  have edged := State.Edged.fireEdges (s := s.setGpi g y) sound g edges
  refine ⟨s.sampleGpi g v edges, exec_debouncedStateChange_due edges change, ?_, fun k other => ?_, by simp, by simp,
    by simp, fun c => ?_, fun quiet => ?_, fun edge => ?_, fun edge c => ?_⟩
  · rw [gpi, State.setGpi_gpi_same]
  · rw [gpi, State.setGpi_gpi, if_neg other]
  · obtain ⟨member, held⟩ := ((s.setGpi g y).fireEdges g edges).takeContacts_contactsFollow c
    rw [result, State.takeContacts_chan_scheduler]
    exact ⟨held, member, edged.timed c⟩
  · rw [result, State.fireEdges_silent edges (mt fires_iff.1 quiet)]
    exact contactsTook_takeContacts _
  · rw [State.fireEdges_fired edges (fires_iff.2 edge), State.setGpi_gpi_same] at result
    exact ⟨maskInOrder x.mask edges, nodup_maskInOrder .., fun c => mem_maskInOrder, prefix_maskInOrder,
      result ▸ contactsTook_takeContacts _⟩
  · rw [State.fireEdges_fired edges (fires_iff.2 edge), State.setGpi_gpi_same] at result
    have once := nodup_maskInOrder y.mask edges
    rw [result]
    refine ⟨fun idle => ?_, fun before after i k inMask empty list first live names => ?_⟩
    · have same := fireEdges_chan_of_idle (s := s.setGpi g y) (g := g) (c := c) sound once
        (idle.imp_left fun out mem => Bool.false_ne_true (out.symm.trans (mem_maskInOrder.1 mem)))
      rw [State.takeContacts_contacted, same, State.setGpi_chan]
    · rw [State.takeContacts_chan_scheduler, State.slot_of_cues (State.takeContacts_cues _)]
      exact fireEdges_first (s := s.setGpi g y) sound once (mem_maskInOrder.2 inMask) empty list first live names

end Sys2Proof.Machine
end

section
/-! PROOFS. GPI_BIND (R172): the fields read, and the binding replaced. -/

namespace Sys2Proof.Machine

open Sys2Proof

/-! ## The fields (R172, R197) -/

theorem readGpi_none {b : Byte} (undefined : 8 ≤ b.toNat) : readGpi b = none := dif_neg (Nat.not_lt.2 undefined)

theorem readGpiMode_eq_some {b : Byte} {m : GpiMode} (h : gpiModeByte m = b) : readGpiMode b = some m := by
  subst h
  cases m <;> rfl

theorem readGpiMode_none {b : Byte} (undefined : 4 ≤ b.toNat) : readGpiMode b = none := by
  unfold readGpiMode
  split
  case h_5 => rfl
  all_goals omega

theorem readPolarity_eq_some {b : Byte} {o : Polarity} (h : polarityByte o = b) : readPolarity b = some o := by
  subst h
  cases o <;> rfl

theorem readPolarity_none {b : Byte} (undefined : 2 ≤ b.toNat) : readPolarity b = none := by
  unfold readPolarity
  split
  case h_3 => rfl
  all_goals omega

theorem readGpiMode_unbound {b : Byte} (h : readGpiMode b = some .none) : b = 0 := by
  unfold readGpiMode at h
  split at h <;> cases h
  exact BitVec.eq_of_toNat_eq ‹b.toNat = 0›

/-- The channels of a mask byte. -/
def maskBits (b : Byte) : Bank 4 Bool := #v[b.getLsbD 0, b.getLsbD 1, b.getLsbD 2, b.getLsbD 3]

theorem readMask_maskBits {b : Byte} (low : b.toNat < 16) : readMask b = some (maskBits b) := if_pos low

theorem maskEmpty_maskBits {b : Byte} (low : b.toNat < 16) : maskEmpty (maskBits b) = true ↔ b = 0 := by
  obtain ⟨m, read, -, empty⟩ := readMask_some low
  rw [readMask_maskBits low, Option.some.injEq] at read
  rwa [read]

theorem maskByte_maskBits {b : Byte} (low : b.toNat < 16) : maskByte (maskBits b) = b := by
  have all : ∀ n : Fin 16, maskByte (maskBits (BitVec.ofNat 8 n)) = BitVec.ofNat 8 n := by decide
  have this := all ⟨b.toNat, low⟩
  rwa [BitVec.ofNat_toNat, BitVec.setWidth_eq] at this

theorem byte1_of_toNat {b : Byte} {n : Nat} (h : b.toNat = n) : byte1 n = b := by
  subst h
  rw [byte1, BitVec.ofNat_toNat, BitVec.setWidth_eq]

/-! ## The binding replaced (R172) -/

theorem inactiveContact_eq (o : Polarity) : inactiveContact o = if o = .activeClosed then .opened else .closed := by
  cases o <;> rfl

theorem Gpi.bind_eq (x : Gpi) (m : GpiMode) (k : Bank 4 Bool) (o : Polarity) (d : Nat) : x.bind m k o d = {
    mode := m
    mask := if m = .none then Bank.fill 4 false else k
    polarity := o
    debounce := d
    sampled := if o = x.polarity then x.sampled else if o = .activeClosed then .opened else .closed
    stable := if o = x.polarity then x.stable else 16
    debounced := if o = x.polarity then x.debounced else if o = .activeClosed then .opened else .closed } := by
  rw [← inactiveContact_eq]
  unfold Gpi.bind
  dsimp only
  split <;> rfl

/-- The record of an input in the reply: a mask of none for an unbound input, and its level as a flag (R190). -/
theorem Gpi.bytes_bind (x : Gpi) {m : GpiMode} {mask : Byte} (low : mask.toNat < 16) (o : Polarity) (d : Nat) :
    (x.bind m (maskBits mask) o d).bytes = [gpiModeByte m, if gpiModeByte m = 0 then 0 else mask, polarityByte o,
      byte1 d, if (x.bind m (maskBits mask) o d).debounced = .closed ↔ o = .activeClosed then 1 else 0] := by
  have level := (x.bind m (maskBits mask) o d).level_iff
  have polarity : (x.bind m (maskBits mask) o d).polarity = o := by rw [Gpi.bind_eq]
  rw [polarity] at level
  have masked : maskByte (x.bind m (maskBits mask) o d).mask = if gpiModeByte m = 0 then 0 else mask := by
    rw [Gpi.bind_eq]
    cases m
    case none => rfl
    all_goals exact maskByte_maskBits low
  rw [Gpi.bytes, masked, polarity, flagByte, Gpi.bind_eq]
  rw [Gpi.bind_eq] at level
  simp only [level]

section
variable {gpi mode mask polarity debounce : Byte} (s : State)

theorem gpiBind_badParam (wrong : 8 ≤ gpi.toNat ∨ 4 ≤ mode.toNat ∨ 2 ≤ polarity.toNat ∨ 16 ≤ mask.toNat
    ∨ (mode ≠ 0 ∧ mask = 0)) : gpiBind gpi mode mask polarity debounce s = (s, refuse .badParam) := by
  rw [gpiBind]
  split
  · rename_i readG readM readP readK
    rcases wrong with high | high | high | high | ⟨bound, empty⟩
    · rw [readGpi_none high] at readG; cases readG
    · rw [readGpiMode_none high] at readM; cases readM
    · rw [readPolarity_none high] at readP; cases readP
    · rw [readMask_none high] at readK; cases readK
    · subst empty
      cases readK
      exact if_pos ⟨fun unbound => bound (readGpiMode_unbound (unbound ▸ readM)), by decide⟩
  · rfl

theorem gpiBind_taken {g : GpiIx} {m : GpiMode} {o : Polarity} (here : gpi.toNat = g.val)
    (isMode : gpiModeByte m = mode) (isPolarity : polarityByte o = polarity) (low : mask.toNat < 16)
    (masked : m ≠ .none → mask ≠ 0) :
    gpiBind gpi mode mask polarity debounce s
      = ((s.setGpi g ((s.gpi g).bind m (maskBits mask) o (min 15 debounce.toNat))).takeContacts,
        { code := clampedCode (decide (15 < debounce.toNat))
          payload := gpi :: ((s.gpi g).bind m (maskBits mask) o (min 15 debounce.toNat)).bytes }) := by
  have allowed : ¬ (m ≠ .none ∧ maskEmpty (maskBits mask) = true) := fun ⟨bound, empty⟩ =>
    masked bound ((maskEmpty_maskBits low).1 empty)
  simp only [gpiBind, readGpi_eq_some.2 here.symm, readGpiMode_eq_some isMode, readPolarity_eq_some isPolarity,
    readMask_maskBits low, if_neg allowed, byte1_of_toNat here, taken_eq]

end

/-- Settles O42: the refusals by `gpiBind_badParam`, the binding by `Gpi.bind_eq` and the levels by
`contactsTook_takeContacts`. -/
theorem gpiBindResult : Obligations.GpiBindResult := by
  intro s p tag gpi mode mask polarity debounce room supervisor
  have run : ∀ {u : State} {completion : Completion} {payload : List Byte},
      gpiBind gpi mode mask polarity debounce s = (u, ⟨completion, payload⟩) →
      exec (.gpiBind p tag gpi mode mask polarity debounce) s = .next (u.replied p tag 0x39 completion payload) :=
    fun owner => exec_replied (r := .gpiBind gpi mode mask polarity debounce) rfl rfl (by simp) room
      (fun _ => supervisor) owner
  refine ⟨fun wrong => run (gpiBind_badParam s wrong), fun g m o here isMode isPolarity low masked => ?_⟩
  intro x idle kept y
  have bound : x.bind m (maskBits mask) o (min 15 debounce.toNat) = y := Gpi.bind_eq ..
  have taken := gpiBind_taken (debounce := debounce) s here isMode isPolarity low masked
  have record := x.bytes_bind (m := m) low o (min 15 debounce.toNat)
  rw [isMode, isPolarity, bound] at record
  rw [bound, record] at taken
  exact ⟨(s.setGpi g y).takeContacts, run taken, contactsTook_takeContacts _, fun c k => State.contactLevel_iff _ k c⟩

end Sys2Proof.Machine
end

section
/-! PROOFS. The tally outputs: what a period makes of one in its three modes, TALLY_SET and FLASH_PHASE_CHANGE (R174 to
R176). -/

namespace Sys2Proof.Machine

open Sys2Proof

/-! ## A tally output set for a period (R174, R175) -/

section
variable {x : Tally} {opacity : Nat} {available : Bool}

theorem Tally.flashes_iff : x.flashes opacity available = true
    ↔ x.mode = .onAirFlash ∧ 0 < opacity ∧ available = false := by
  simp [Tally.flashes, and_assoc]

theorem Tally.phaseDue_iff : x.phaseDue = true
    ↔ x.count ≠ 0 ∧ (if x.phaseOn = true then x.onCount else x.offCount) ≤ x.count := by
  simp only [Tally.phaseDue, Bool.and_eq_true, decide_eq_true_eq]

theorem Tally.set_still (h : ¬ (x.mode = .onAirFlash ∧ 0 < opacity ∧ available = false)) : x.set opacity available
    = { x with phaseOn := true, count := 0, active := decide (x.mode ≠ .off) && decide (0 < opacity) } :=
  if_neg (mt Tally.flashes_iff.1 h)

section
variable (flashing : x.mode = .onAirFlash ∧ 0 < opacity ∧ available = false)
include flashing

theorem Tally.set_flashing : x.set opacity available = { x.advanceFlash with active := x.advanceFlash.phaseOn } :=
  if_pos (Tally.flashes_iff.2 flashing)

theorem Tally.set_begins (fresh : x.count = 0) : x.set opacity available
    = { x with phaseOn := true, count := 1, active := true } := by
  rw [Tally.set_flashing flashing, Tally.advanceFlash, if_pos fresh]

theorem Tally.set_turns (running : x.count ≠ 0)
    (due : (if x.phaseOn = true then x.onCount else x.offCount) ≤ x.count) : x.set opacity available
    = { x with phaseOn := !x.phaseOn, count := 1, active := !x.phaseOn } := by
  rw [Tally.set_flashing flashing, Tally.advanceFlash, if_neg running, if_pos (Tally.phaseDue_iff.2 ⟨running, due⟩)]

theorem Tally.set_counts (running : x.count ≠ 0)
    (short : x.count < if x.phaseOn = true then x.onCount else x.offCount) : x.set opacity available
    = { x with count := x.count + 1, active := x.phaseOn } := by
  rw [Tally.set_flashing flashing, Tally.advanceFlash, if_neg running,
    if_neg fun due => Nat.not_le.2 short (Tally.phaseDue_iff.1 due).2]

end

theorem Tally.advanceFlash_record (x : Tally) :
    x.advanceFlash = { x with phaseOn := x.advanceFlash.phaseOn, count := x.advanceFlash.count } := by
  unfold Tally.advanceFlash
  repeat' split
  all_goals rfl

/-- A period changes of an output only its flash state and its level. -/
theorem Tally.set_record (x : Tally) (opacity : Nat) (available : Bool) :
    let t := x.set opacity available
    t = { x with phaseOn := t.phaseOn, count := t.count, active := t.active } := by
  by_cases flashing : x.mode = .onAirFlash ∧ 0 < opacity ∧ available = false
  · rw [Tally.set_flashing flashing, x.advanceFlash_record]
  · rw [Tally.set_still flashing]

end

/-! ## TALLY_SET (R176) -/

theorem readTally_none {b : Byte} (undefined : 4 ≤ b.toNat) : readTally b = none := dif_neg (Nat.not_lt.2 undefined)

theorem readTally_some {b : Byte} {k : TallyIx} (here : b.toNat = k.val) : readTally b = some k :=
  readChannel_some here

theorem readTallyMode_none {b : Byte} (undefined : 3 ≤ b.toNat) : readTallyMode b = none := by
  unfold readTallyMode
  split
  case h_4 => rfl
  all_goals omega

theorem readTallyMode_some {b : Byte} {m : TallyMode} (h : tallyModeByte m = b) : readTallyMode b = some m := by
  subst h
  cases m <;> rfl

theorem State.setTally_setTally (s : State) (k : TallyIx) (x y : Tally) :
    (s.setTally k x).setTally k y = s.setTally k y := by
  have tallies : (s.tallies.put k x).put k y = s.tallies.put k y := by simp [Bank.put]
  simp only [State.setTally, tallies]

/-- An output's record replaced and set at once (R176). -/
theorem State.setTally_updateTally (s : State) (k : TallyIx) (x : Tally) : (s.setTally k x).updateTally k
    = s.setTally k (x.set (s.tallyOpacity x.channel) (s.chan x.channel).sync.lock.available) := by
  rw [State.updateTally, State.setTally_tally_same]
  exact s.setTally_setTally k x _

/-- An output's record as TALLY_SET writes it, its flash starting afresh (R176). -/
def Tally.bound (x : Tally) (c : Channel) (m : TallyMode) (onCount offCount : Nat) : Tally :=
  { x with channel := c, mode := m, onCount := onCount, offCount := offCount, phaseOn := true, count := 0 }

section
variable {tally ch mode a b : Byte} (s : State)

theorem tallySet_badParam (wrong : 4 ≤ tally.toNat ∨ 4 ≤ ch.toNat ∨ 3 ≤ mode.toNat) :
    tallySet tally ch mode a b s = (s, refuse .badParam) := by
  rw [tallySet]
  split
  · rename_i readT readC readM
    rcases wrong with high | high | high
    · rw [readTally_none high] at readT; cases readT
    · rw [readChannel_none high] at readC; cases readC
    · rw [readTallyMode_none high] at readM; cases readM
  · rfl

theorem tallySet_taken {k : TallyIx} {c : Channel} {m : TallyMode} (here : tally.toNat = k.val)
    (channel : ch.toNat = c.val) (isMode : tallyModeByte m = mode) :
    let onCount := min 250 (max 1 a.toNat)
    let offCount := min 250 (max 1 b.toNat)
    let x := ((s.tally k).bound c m onCount offCount).set (s.tallyOpacity c) (s.chan c).sync.lock.available
    tallySet tally ch mode a b s = (s.setTally k x, {
      code := clampedCode (decide (onCount ≠ a.toNat) || decide (offCount ≠ b.toNat))
      payload := [tally, ch, mode, byte1 onCount, byte1 offCount, flagByte x.active] }) := by
  intro onCount offCount x
  have update : (s.setTally k ((s.tally k).bound c m onCount offCount)).updateTally k = s.setTally k x :=
    s.setTally_updateTally k _
  have reply : byte1 k :: x.bytes = [tally, ch, mode, byte1 onCount, byte1 offCount, flagByte x.active] := by
    have record : x = { (s.tally k).bound c m onCount offCount with
        phaseOn := x.phaseOn, count := x.count, active := x.active } := Tally.set_record ..
    rw [byte1_of_toNat here, Tally.bytes, record]
    simp only [Tally.bound, channelByte, byte1_of_toNat channel, isMode]
  simp only [tallySet, readTally_some here, readChannel_some channel, readTallyMode_some isMode]
  refine Prod.ext update ?_
  change taken _ (byte1 k :: (((s.setTally k ((s.tally k).bound c m onCount offCount)).updateTally k).tally k).bytes) = _
  rw [update, State.setTally_tally_same, reply]
  rfl

theorem exec_tallySet {u : State} {p : PortId} {tag : Byte} (room : s.Room p tag)
    (supervisor : (s.port p).supervisor = true) {completion : Completion} {payload : List Byte}
    (owner : tallySet tally ch mode a b s = (u, ⟨completion, payload⟩)) :
    exec (.tallySet p tag tally ch mode a b) s = .next (u.replied p tag 0x3A completion payload) :=
  exec_replied (r := .tallySet tally ch mode a b) rfl rfl (by simp) room (fun _ => supervisor) owner

end

/-! ## FLASH_PHASE_CHANGE (R175) -/

theorem State.flashDue_iff (s : State) (k : TallyIx) : s.flashDue k = true
    ↔ ((s.tally k).mode = .onAirFlash ∧ 0 < s.tallyOpacity (s.tally k).channel
        ∧ (s.chan (s.tally k).channel).sync.lock.available = false)
      ∧ (s.tally k).count ≠ 0
      ∧ (if (s.tally k).phaseOn = true then (s.tally k).onCount else (s.tally k).offCount) ≤ (s.tally k).count := by
  rw [State.flashDue, Bool.and_eq_true, Tally.flashes_iff, Tally.phaseDue_iff]

theorem exec_flashPhaseChange_due {s : State} {k : TallyIx} (due : s.flashDue k = true) :
    exec (.flashPhaseChange k) s = .next (s.setTally k { s.tally k with
      phaseOn := !(s.tally k).phaseOn, count := 1, active := !(s.tally k).phaseOn }) := by
  obtain ⟨flashing, running, full⟩ := (s.flashDue_iff k).1 due
  show execFlashPhaseChange k s = _
  rw [execFlashPhaseChange, if_pos due, State.updateTally, Tally.set_turns flashing running full]

theorem exec_flashPhaseChange_idle {s : State} {k : TallyIx} (idle : ¬ s.flashDue k = true) :
    exec (.flashPhaseChange k) s = .next s := by
  show execFlashPhaseChange k s = _
  exact if_neg idle

/-- Settles O43: the modes by the equations of `Tally.set`, TALLY_SET by `tallySet_taken`, and the turn of the phase by
`State.flashDue_iff`. -/
theorem tallyOutputs : Obligations.TallyOutputs := by
  refine ⟨fun x opacity available => ?_, fun s p tag tally ch mode a b room supervisor => ⟨fun wrong => ?_,
    fun k c m here channel isMode => ?_⟩, fun s k => ?_⟩
  · intro t flashing
    refine ⟨x.set_record opacity available, fun off => ?_, fun on still => ?_, fun flashing => ?_,
      fun flashing fresh => ?_, fun flashing running isOn => ⟨fun due => ?_, fun short => ?_⟩,
      fun flashing running isOff => ⟨fun due => ?_, fun short => ?_⟩⟩
    · simp [t, Tally.set_still (x := x) (opacity := opacity) (available := available) (by simp [off]), off]
    · simp [t, Tally.set_still still, on]
    · simp [t, Tally.set_flashing flashing]
    · simp [t, Tally.set_begins flashing fresh]
    · simp [t, Tally.set_turns flashing running (by rwa [if_pos isOn]), isOn]
    · simp [t, Tally.set_counts flashing running (by rwa [if_pos isOn]), isOn]
    · simp [t, Tally.set_turns flashing running (by simpa [isOff] using due), isOff]
    · simp [t, Tally.set_counts flashing running (by simpa [isOff] using short), isOff]
  · exact exec_tallySet s room supervisor (tallySet_badParam s wrong)
  · exact exec_tallySet s room supervisor (tallySet_taken s here channel isMode)
  · have due := s.flashDue_iff k
    simp only [and_assoc] at due
    exact ⟨fun h => exec_flashPhaseChange_due (due.2 h), fun h => exec_flashPhaseChange_idle (mt due.1 h)⟩

end Sys2Proof.Machine
end

section
/-! PROOFS. Requests that no owner takes: a reply queue that is full, and the supervisor's requests on another port
(R183 to R185). -/

namespace Sys2Proof.Machine

open Sys2Proof

/-! ## A full reply queue (R183) -/

theorem State.not_room_iff {s : State} {p : PortId} {tag : Byte} :
    ¬ s.Room p tag ↔ tag ≠ 0xFF ∧ 4 ≤ (s.port p).queue.length := by
  rw [State.Room, not_or, Nat.not_lt]

/-- A command that has posted REPLY_OVERRUN to the port and has changed nothing else. -/
theorem overrun_of_eq_post {s : State} {p : PortId} {answered : Answered}
    (h : answered = .next (s.post p .replyOverrun)) :
    ∃ u : State, answered = .next u ∧ u = { s with ports := u.ports }
      ∧ ∀ q, (s.port q).Posted (u.port q) fun l => l = .replyOverrun ∧ q = p :=
  ⟨_, h, rfl, s.post_posted p .replyOverrun⟩

theorem State.queueReply_of_full {s : State} {p : PortId} {r : Reply} (full : ¬ s.Room p r.tag) :
    s.queueReply p r = s.post p .replyOverrun := by
  obtain ⟨answered, four⟩ := State.not_room_iff.1 full
  rw [State.queueReply, if_neg answered, if_pos four]

section
variable {s : State} {p : PortId} {tag : Byte} (full : ¬ s.Room p tag)
include full

theorem State.serve_of_full (code : Byte) (owner : State → State × Answer) :
    s.serve p tag code owner = s.post p .replyOverrun := by
  rw [State.serve, if_pos (State.not_room_iff.1 full)]

theorem State.serveSupervisor_of_full (code : Byte) (owner : State → State × Answer) :
    s.serveSupervisor p tag code owner = s.post p .replyOverrun := by
  rw [State.serveSupervisor, State.serve_of_full full, State.queueReply_of_full full, ite_self]

theorem State.serveDeviceReset_of_full : s.serveDeviceReset p tag = s.post p .replyOverrun := by
  rw [State.serveDeviceReset, State.queueReply_of_full full, if_pos (State.not_room_iff.1 full), ite_self]

/-- A request whose reply would find the queue full is not executed, whatever it is (R183, R185). -/
theorem exec_of_full (r : Request) :
    exec (requestCommand p tag r) s = .next (s.post p .replyOverrun) := by
  by_cases reset : r = .deviceReset
  · subst reset
    exact congrArg _ (State.serveDeviceReset_of_full full)
  · rw [exec_request reset, State.serveSupervisor_of_full full, State.serve_of_full full, ite_self]

end

/-! ## Requests off the supervisor's port (R184) -/

/-- DEVICE_RESET is among the requests refused off the supervisor's port. -/
theorem exec_refused_of_plain {s : State} {p : PortId} {tag : Byte} {r : Request} (room : s.Room p tag)
    (needs : supervised r = true) (plain : (s.port p).supervisor = false) :
    exec (requestCommand p tag r) s = .next (s.replied p tag (requestCode r) .notSupervisor []) := by
  by_cases reset : r = .deviceReset
  · subst reset
    have refused : s.serveDeviceReset p tag = s.replied p tag 0x3D .notSupervisor [] := by
      rw [State.serveDeviceReset, if_pos plain, State.queueReply_replied room]
      rfl
    exact congrArg _ refused
  · exact exec_notSupervisor rfl rfl reset room needs plain

/-- Settles O50: the supervisor's requests by `exec_refused_of_plain`, the full queue by `exec_of_full`. -/
theorem untakenRequests : Obligations.UntakenRequests := by
  refine ⟨fun s p tag room plain => ?_, fun s p tag r answered four => ?_⟩
  · have refused : ∀ r : Request, supervised r = true → exec (requestCommand p tag r) s
        = .next (s.replied p tag (requestCode r) .notSupervisor []) :=
      fun r needs => exec_refused_of_plain room needs plain
    exact ⟨fun ch f => refused (.channelConfig ch f) rfl, fun g m k o d => refused (.gpiBind g m k o d) rfl,
      fun t ch m a b => refused (.tallySet t ch m a b) rfl, fun f => refused (.formatSet f) rfl,
      fun ch => refused (.channelReset ch) rfl, refused .deviceReset rfl⟩
  · exact overrun_of_eq_post (exec_of_full (State.not_room_iff.2 ⟨answered, four⟩) r)

end Sys2Proof.Machine
end

section
/-! PROOFS. ATTENTION_READ and ATTENTION_MASK (R186 to R188): the latch that is first, and the mask. -/

namespace Sys2Proof.Machine

open Sys2Proof

/-! ## The first latch (R187, R188) -/

/-- The order in which ATTENTION_READ gives up latches: by priority of the condition, then by channel. -/
def Latch.Before (l k : Latch) : Prop :=
  l.bit < k.bit ∨ (l.bit = k.bit ∧ l.channelByte.toNat < k.channelByte.toNat)

theorem Latch.mem_all (l : Latch) : l ∈ Latch.all := by
  match l with
  | .replyOverrun => exact .head _
  | .referenceChange => exact .tail _ (.head _)
  | .channel k c =>
    have condition : k ∈ ChannelCondition.all := by cases k <;> decide
    have channel : c ∈ Channel.all := by revert c; decide
    exact .tail _ (.tail _ (List.mem_flatMap.2 ⟨k, condition, List.mem_map.2 ⟨c, channel, rfl⟩⟩))

theorem Latch.all_ordered : Latch.all.Pairwise Latch.Before := by
  unfold Latch.Before
  decide

/-- Of an ordered list, the element found stands before every other one sought. -/
theorem find?_before {α : Type} {before : α → α → Prop} {l : List α} {p : α → Bool} {a b : α}
    (ordered : l.Pairwise before) (found : l.find? p = some a) (mem : b ∈ l) (sought : p b = true) :
    a = b ∨ before a b := by
  obtain ⟨-, as, bs, rfl, none⟩ := List.find?_eq_some_iff_append.1 found
  have later : ∀ x ∈ bs, before a x := (List.pairwise_cons.1 (List.pairwise_append.1 ordered).2.1).1
  rcases List.mem_append.1 mem with early | rest
  · exact absurd sought (by simpa using none b early)
  · rcases List.mem_cons.1 rest with same | late
    · exact .inl same.symm
    · exact .inr (later b late)

theorem Port.firstLatch_none {x : Port} (clear : ∀ l, x.holds l = false) : x.firstLatch = none :=
  List.find?_eq_none.2 fun l _ => by simp [clear l]

/-- A latch that none held comes before is the first (R188). -/
theorem Port.firstLatch_some {x : Port} {l : Latch} (held : x.holds l = true)
    (least : ∀ k, x.holds k = true → ¬ k.Before l) : x.firstLatch = some l := by
  cases found : x.firstLatch with
  | none => exact absurd held (List.find?_eq_none.1 found l l.mem_all)
  | some k =>
    rcases find?_before Latch.all_ordered found l.mem_all held with rfl | before
    · rfl
    · exact absurd before (least k (List.find?_some found))

theorem Port.attention_iff (x : Port) : x.attention = true ↔ ∃ l, x.holds l = true := by
  simp [Port.attention, Latch.mem_all]

/-! ## ATTENTION_READ and ATTENTION_MASK (R186, R188) -/

theorem Port.latch_clear_holds (x : Port) (l k : Latch) :
    (x.latch l false).holds k = (x.holds k && decide (k ≠ l)) := by
  rw [Port.latch_holds]
  by_cases same : k = l <;> simp [same]

theorem attentionRead_none {s : State} {p : PortId} (clear : (s.port p).firstLatch = none) :
    attentionRead p s = (s, taken false [0, 0xFF, 0]) := by
  simp only [attentionRead, clear]

theorem attentionRead_some {s : State} {p : PortId} {l : Latch} (first : (s.port p).firstLatch = some l) :
    attentionRead p s = (s.setPort p ((s.port p).latch l false),
      taken false [l.byte, l.channelByte, byte1 ((s.port p).latch l false).latchCount]) := by
  simp only [attentionRead, first]

theorem attentionMask_refused {s : State} {p : PortId} {mask : Half} (high : 256 ≤ mask.toNat) :
    attentionMask p mask s = (s, refuse .badParam) :=
  if_pos high

theorem attentionMask_taken {s : State} {p : PortId} {mask : Half} (low : mask.toNat < 256) :
    attentionMask p mask s = (s.setPort p { s.port p with mask := BitVec.ofNat 8 mask.toNat },
      taken false (bytes2 mask.toNat)) :=
  if_neg (show ¬ 255 < mask.toNat by omega)

/-- Settles O49: the latch read by `Port.firstLatch_some`, its clearing by `Port.latch_clear_holds`. -/
theorem attentionRequests : Obligations.AttentionRequests := by
  intro s p tag room x channel
  have channel_eq : ∀ l, channel l = l.channelByte := by rintro (_ | _ | _) <;> rfl
  have read : ∀ ⦃u : State⦄ ⦃payload : List Byte⦄, attentionRead p s = (u, taken false payload) →
      exec (.attentionRead p tag) s = .next (u.replied p tag 0x02 .ok payload) :=
    fun _ _ owner => exec_answered (r := .attentionRead) nofun rfl room owner
  refine ⟨fun clear => ⟨read (attentionRead_none (Port.firstLatch_none clear)), ?_⟩, fun l held first => ?_,
    fun mask high => exec_answered (r := .attentionMask mask) nofun rfl room (attentionMask_refused high),
    fun mask low => ⟨_, rfl, fun l => ?_,
      exec_answered (r := .attentionMask mask) nofun rfl room (attentionMask_taken low)⟩⟩
  · simp [← Bool.not_eq_true, Port.attention_iff, clear]
  · have least : ∀ k, x.holds k = true → ¬ k.Before l := fun k has before => by
      have order := first k has
      rw [channel_eq, channel_eq] at order
      rw [Latch.Before] at before
      omega
    refine ⟨x.attention_iff.2 ⟨l, held⟩, x.latch l false, rfl, x.latch_clear_holds l, ?_⟩
    rw [channel_eq]
    exact read (attentionRead_some (Port.firstLatch_some held least))
  · simp [Port.enables]

end Sys2Proof.Machine
end

section
/-! PROOFS. Request frames as read and as sent (R196, R197, 11.3, 11.4): a code and a payload of its length spell one
request, and no other code and payload spell it. -/

namespace Sys2Proof.Machine

open Sys2Proof

/-! ## Fields read and sent again (R196) -/

/-- So many bytes of a payload from an offset on. -/
def bytesFrom (l : List Byte) : Nat → Nat → List Byte
  | _, 0 => []
  | i, n + 1 => byteAt l i :: bytesFrom l (i + 1) n

theorem bytesFrom_drop (l : List Byte) (n i : Nat) (h : n + i = l.length) : bytesFrom l i n = l.drop i := by
  induction n generalizing i with
  | zero => rw [bytesFrom, List.drop_of_length_le (by omega)]
  | succ n ih =>
    rw [bytesFrom, ih (i + 1) (by omega), List.drop_eq_getElem_cons (show i < l.length by omega), byteAt,
      List.getD_eq_getElem]

theorem bytesFrom_all (l : List Byte) : bytesFrom l 0 l.length = l :=
  bytesFrom_drop l l.length 0 rfl

section
variable (l : List Byte) (i : Nat)

theorem sentHalf_halfAt : sentHalf (halfAt l i) = bytesFrom l i 2 := sentHalf_append _ _

theorem sentLabel_labelAt : sentLabel (labelAt l i) = bytesFrom l i 4 := rfl

theorem sentHandle_handleAt : sentHandle (handleAt l i) = bytesFrom l i 2 := rfl

theorem sentConfig_configFieldsAt : sentConfig (configFieldsAt l i) = bytesFrom l i 8 := rfl

theorem sentRect_rectAt : sentRect (rectAt l i) = bytesFrom l i 8 := by
  simp only [sentRect, rectAt, sentHalf_halfAt]
  rfl

theorem sentColour_colourAt : sentColour (colourAt l i) = bytesFrom l i 6 := by
  simp only [sentColour, colourAt, sentHalf_halfAt]
  rfl

theorem sentCue_cueFieldsAt : sentCue (cueFieldsAt l i) = bytesFrom l i 12 := by
  simp only [sentCue, cueFieldsAt, sentHalf_halfAt]
  rfl

theorem sentPreset_presetFieldsAt : sentPreset (presetFieldsAt l i) = bytesFrom l i 46 := by
  simp only [sentPreset, presetFieldsAt, sentRect_rectAt, sentColour_colourAt, sentHalf_halfAt]
  rfl

end

/-! ## A request sent and read (R197, 11.3) -/

/-- The two bytes of a field sent, where they stand in the payload, are read as the field. -/
theorem requestOf_requestPayload (r : Request) : requestOf (requestCode r) (requestPayload r) = some r := by
  cases r
  case attentionMask mask => exact congrArg (fun h => some (Request.attentionMask h)) (append_sentHalf mask)
  case cueAdd f =>
    simp [requestOf, requestCode, requestPayload, sentCue, sentLabel, sentHalf, cueFieldsAt, labelAt, halfAt, byteAt]
  case cueModify h f =>
    simp [requestOf, requestCode, requestPayload, sentHandle, sentCue, sentLabel, sentHalf, handleAt, cueFieldsAt,
      labelAt, halfAt, byteAt]
  case windowSet => simp [requestOf, requestCode, requestPayload, sentHalf, halfAt, byteAt]
  case layoutSelect => simp [requestOf, requestCode, requestPayload, sentHalf, halfAt, byteAt]
  case presetWrite =>
    simp [requestOf, requestCode, requestPayload, sentPreset, sentRect, sentColour, sentHalf, presetFieldsAt, rectAt,
      colourAt, halfAt, byteAt]
  all_goals rfl

theorem requestLength_requestCode (r : Request) :
    requestLength (requestCode r) = some (requestPayload r).length := by
  cases r <;> rfl

/-! ## A payload read and sent again (R197, 11.3) -/

/-- A payload of the length of its code's row spells a request. -/
theorem requestOf_isSome {code : Byte} {n : Nat} (known : requestLength code = some n) (l : List Byte) :
    ∃ r, requestOf code l = some r := by
  cases missing : requestOf code l with
  | some r => exact ⟨r, rfl⟩
  | none =>
    unfold requestOf at missing
    split at missing
    case h_31 => simp_all [requestLength]
    all_goals cases missing

section
variable {code : Byte} {l : List Byte} {r : Request} (spelled : requestOf code l = some r)
include spelled

theorem requestCode_of_requestOf : requestCode r = code := by
  unfold requestOf at spelled
  split at spelled
  all_goals cases spelled
  all_goals exact BitVec.eq_of_toNat_eq (Eq.symm ‹_›)

/-- The fields of a row cover its payload without gaps. -/
theorem requestPayload_of_requestOf : requestPayload r = bytesFrom l 0 (requestPayload r).length := by
  unfold requestOf at spelled
  split at spelled
  all_goals cases spelled
  all_goals
    simp only [requestPayload, sentHalf_halfAt, sentLabel_labelAt, sentHandle_handleAt, sentCue_cueFieldsAt,
      sentConfig_configFieldsAt, sentPreset_presetFieldsAt]
    rfl

/-- No other code, and no other payload of its length, spells the request. -/
theorem eq_sent_of_requestOf (known : requestLength code = some l.length) :
    code = requestCode r ∧ l = requestPayload r := by
  have named := requestCode_of_requestOf spelled
  have length : (requestPayload r).length = l.length := by
    rw [← named, requestLength_requestCode, Option.some.injEq] at known
    exact known
  have sent := requestPayload_of_requestOf spelled
  rw [length, bytesFrom_all] at sent
  exact ⟨named.symm, sent.symm⟩

end

end Sys2Proof.Machine
end

section
/-! PROOFS. The control ports' lines: the receiver table, the gap, the line's break and return, and REPLY_SENT (R180 to
R183). -/

namespace Sys2Proof.Machine

open Sys2Proof

/-! ## One port's receiver replaced (R180) -/

theorem State.setReceiver_port_same (s : State) (p : PortId) (r : Receiver) :
    (s.setReceiver p r).port p = { s.port p with receiver := r } :=
  State.modPort_port_same s p _

theorem State.room_setReceiver {s : State} {p : PortId} {tag : Byte} {r : Receiver} :
    (s.setReceiver p r).Room p tag ↔ s.Room p tag := by
  simp only [State.Room, State.setReceiver_port_same]

/-- A refusal by the dispatcher itself, with room for its reply (R185, R196). -/
theorem refused_queued {t : State} {p : PortId} {tag : Byte} (room : t.Room p tag) (code : Byte)
    (completion : Completion) : t.queueReply p (replyTo code tag (refuse completion))
      = t.replied p tag code completion [] :=
  State.queueReply_replied room code (refuse completion)

/-! ## The receiver table (R180 to R182) -/

section
variable {s : State} {p : PortId} (mark : (s.port p).broken = false)

theorem exec_character_broken (space : (s.port p).broken = true) (ch : Character) :
    exec (.characterReceived p ch) s = .next s :=
  if_pos space

include mark

theorem exec_character_idle (waiting : (s.port p).receiver = .idle ∨ (s.port p).receiver = .discarding)
    (stop lead : Bool) (v : Byte) : exec (.characterReceived p ⟨stop, lead, v⟩) s = .next
      (if stop then s.setReceiver p .discarding
        else if lead then s.setReceiver p (.receiving [v]) else s) := by
  show execCharacterReceived p ⟨stop, lead, v⟩ s = _
  rw [execCharacterReceived, if_neg (by simp [mark])]
  rcases waiting with held | held
  all_goals
    rw [held]
    cases stop
    · cases lead <;> rfl
    · rfl

variable {held : List Byte} (receiving : (s.port p).receiver = .receiving held)
include receiving

theorem exec_character_abandons (stop lead : Bool) (cut : stop = true ∨ lead = true) (v : Byte) :
    exec (.characterReceived p ⟨stop, lead, v⟩) s = .next
      (s.abandon p (if stop then .discarding else .receiving [v])) := by
  show execCharacterReceived p ⟨stop, lead, v⟩ s = _
  rw [execCharacterReceived, if_neg (by simp [mark]), receiving]
  cases stop
  case true => rfl
  case false =>
    obtain rfl : lead = true := by simpa using cut
    rfl

theorem exec_character_joins (v : Byte) :
    exec (.characterReceived p ⟨false, false, v⟩) s = joinFrame p held v s := by
  show execCharacterReceived p ⟨false, false, v⟩ s = _
  rw [execCharacterReceived, if_neg (by simp [mark]), receiving]

end

/-! ## A character that joins a frame (R180, R181) -/

section
variable {held : List Byte} (s : State) (p : PortId) (v : Byte)

/-- A length character above 48 ends the frame at once. -/
theorem joinFrame_tooLong (third : held.length = 2) (long : 48 < v.toNat) : joinFrame p held v s
    = .next ((s.setReceiver p .discarding).queueReply p
      (replyTo (byteAt held 0) (byteAt held 1) (refuse .badLength))) := by
  rw [joinFrame, if_pos ⟨by simp [third], long⟩, byteAt_of_append_left (by omega), byteAt_of_append_left (by omega)]

theorem joinFrame_completes (header : 3 ≤ held.length) (counted : held.length = (byteAt held 2).toNat + 3) :
    joinFrame p held v s = completeFrame p (held ++ [v]) s := by
  have length : (held ++ [v]).length = held.length + 1 := by simp
  rw [joinFrame, if_neg (by omega), if_pos ⟨by omega, by rw [byteAt_of_append_left (by omega)]; omega⟩]

theorem joinFrame_continues (short : held.length < 2 ∨ (held.length = 2 ∧ v.toNat ≤ 48)
      ∨ (2 < held.length ∧ held.length ≠ (byteAt held 2).toNat + 3)) :
    joinFrame p held v s = .next (s.setReceiver p (.receiving (held ++ [v]))) := by
  have length : (held ++ [v]).length = held.length + 1 := by simp
  have unfinished : ¬ (4 ≤ (held ++ [v]).length
      ∧ (held ++ [v]).length = (byteAt (held ++ [v]) 2).toNat + 4) := by
    rintro ⟨four, complete⟩
    rw [byteAt_of_append_left (by omega)] at complete
    omega
  rw [joinFrame, if_neg (by omega), if_neg unfinished]

end

/-! ## The gap, and a reply sent (R180, R183) -/

theorem exec_gap_receiving {s : State} {p : PortId} {held : List Byte}
    (receiving : (s.port p).receiver = .receiving held) :
    exec (.frameGapTimeout p) s = .next (s.abandon p .discarding) := by
  show execFrameGapTimeout p s = _
  rw [execFrameGapTimeout, receiving]

theorem exec_gap_waiting {s : State} {p : PortId}
    (waiting : (s.port p).receiver = .idle ∨ (s.port p).receiver = .discarding) :
    exec (.frameGapTimeout p) s = .next s := by
  show execFrameGapTimeout p s = _
  rcases waiting with held | held <;> rw [execFrameGapTimeout, held]

theorem exec_replySent_sending {s : State} {p : PortId} {r : Reply} {rest : List Reply}
    (queue : (s.port p).queue = r :: rest) (sending : (s.port p).sending = true) :
    exec (.replySent p) s = .next (s.setPort p { s.port p with queue := rest, sending := decide (rest ≠ []) }) := by
  have more : decide (1 < (r :: rest).length) = decide (rest ≠ []) :=
    decide_eq_decide.2 (by simp [List.length_pos_iff])
  show execReplySent p s = _
  rw [execReplySent, if_pos sending, State.modPort, queue, more, List.drop_one, List.tail_cons]

/-- Settles O52: each cell by the lemma of its character and receiver state. -/
theorem receiverTable : Obligations.ReceiverTable := by
  intro s p x put got
  refine ⟨fun space stop lead v => exec_character_broken space _, fun mark v => ⟨fun waiting => ?_,
    fun held receiving => ?_⟩, fun held => exec_gap_receiving, exec_gap_waiting, rfl, rfl,
    fun r rest => exec_replySent_sending, fun idle => if_neg (Bool.eq_false_iff.1 idle)⟩
  · have cell := exec_character_idle mark waiting
    exact ⟨cell false true v, cell false false v, fun b => cell true b v⟩
  · have cut := exec_character_abandons mark receiving
    have join := exec_character_joins mark receiving v
    refine ⟨cut false true (.inr rfl) v, fun b => cut true b (.inl rfl) v,
      fun short => join.trans (joinFrame_continues s p v short),
      fun third long => ⟨fun room => ?_, fun full => ?_⟩⟩
    · exact (join.trans (joinFrame_tooLong s p v third long)).trans
        (congrArg _ (refused_queued (State.room_setReceiver.2 room) _ _))
    · refine overrun_of_eq_post ((join.trans (joinFrame_tooLong s p v third long)).trans (congrArg _ ?_))
      exact State.queueReply_of_full (mt State.room_setReceiver.1 full)

end Sys2Proof.Machine
end

section
/-! PROOFS. The dispatcher: a whole frame judged, and its checks in their order (R181, R183 to R185). -/

namespace Sys2Proof.Machine

open Sys2Proof

/-! ## A frame read (R185) -/

section
variable {t : State} {p : PortId} {code tag : Byte} {payload : List Byte}

theorem dispatch_unknown (unknown : requestLength code = none) :
    dispatch p code tag payload t = .next (t.queueReply p (unknownReply code tag)) := by
  simp only [dispatch, readFrame, unknown]

theorem dispatch_badLength {n : Nat} (known : requestLength code = some n) (other : payload.length ≠ n) :
    dispatch p code tag payload t = .next (t.queueReply p (replyTo code tag (refuse .badLength))) := by
  simp only [dispatch, readFrame, known, if_pos other]

theorem dispatch_request {r : Request} (known : requestLength code = some payload.length)
    (spelled : requestOf code payload = some r) :
    dispatch p code tag payload t = exec (requestCommand p tag r) t := by
  simp only [dispatch, readFrame, known, spelled, ne_eq, not_true, if_false, handOver_eq_exec]

end

/-! ## A frame judged (R181, R185) -/

/-- The last character of a frame has the frame judged, its payload being all between the header and it. -/
theorem exec_character_completes {s : State} {p : PortId} {held : List Byte} {v : Byte}
    (receiving : (s.port p).receiver = .receiving held) (mark : (s.port p).broken = false)
    (header : 3 ≤ held.length) (counted : held.length = (byteAt held 2).toNat + 3) :
    exec (.characterReceived p ⟨false, false, v⟩) s =
    if (held ++ [v]).sum ≠ 0 then .next ((s.setReceiver p .idle).queueReply p
      (replyTo (byteAt (held ++ [v]) 0) (byteAt (held ++ [v]) 1) (refuse .badCheck)))
    else dispatch p (byteAt (held ++ [v]) 0) (byteAt (held ++ [v]) 1) (held.drop 3) (s.setReceiver p .idle) := by
  have payload : ((held ++ [v]).drop 3).dropLast = held.drop 3 := by
    rw [List.drop_append_of_le_length header, List.dropLast_concat]
  rw [exec_character_joins mark receiving, joinFrame_completes s p v header counted, completeFrame, payload]

/-- The supervisor's requests are those of the codes 38h to 3Dh (R184, 11.3). -/
theorem supervised_eq (r : Request) :
    supervised r = decide (requestCode r ∈ ([0x38, 0x39, 0x3A, 0x3B, 0x3C, 0x3D] : List Byte)) := by
  cases r <;> rfl

/-- Settles O51: a request as sent and as read by `requestOf_requestPayload` and `eq_sent_of_requestOf`; each check by
the dispatcher's reading of the frame that `exec_character_completes` hands it, the reply refused or with no place. -/
theorem requestChecks : Obligations.RequestChecks := by
  refine ⟨fun r => ⟨requestLength_requestCode r, requestOf_requestPayload r⟩,
    fun code payload r known spelled => eq_sent_of_requestOf spelled known, ?_⟩
  intro s p held v receiving mark header counted frame code tag payload t run overrun
  have judged : run = _ := exec_character_completes receiving mark header counted
  have wrong : frame.sum ≠ 0 → run = .next (t.queueReply p (replyTo code tag (refuse .badCheck))) :=
    fun sum => judged.trans (if_pos sum)
  have right : frame.sum = 0 → run = dispatch p code tag payload t :=
    fun sum => judged.trans (if_neg (not_not.2 sum))
  have kept : t.Room p tag ↔ s.Room p tag := State.room_setReceiver
  have refused : ∀ completion, run = .next (t.queueReply p (replyTo code tag (refuse completion))) →
      s.Room p tag → run = .next (t.replied p tag code completion []) :=
    fun completion queued room => queued.trans (congrArg _ (refused_queued (kept.2 room) code completion))
  have full : ∀ r : Reply, r.tag = tag → run = .next (t.queueReply p r) → ¬ s.Room p tag → overrun := by
    rintro r same queued none
    exact overrun_of_eq_post (queued.trans (congrArg _ (State.queueReply_of_full (same ▸ mt kept.1 none))))
  refine ⟨fun sum => refused _ (wrong sum), fun sum => full _ rfl (wrong sum),
    fun sum unknown => full _ rfl ((right sum).trans (dispatch_unknown unknown)),
    fun n sum known other => full _ rfl ((right sum).trans (dispatch_badLength known other)),
    fun sum unknown room => ?_,
    fun n sum known other => refused _ ((right sum).trans (dispatch_badLength known other)), fun known => ?_⟩
  · refine ⟨_, (right sum).trans (dispatch_unknown unknown), fun discarded => if_pos discarded, fun answered => ?_⟩
    have place : ¬ 4 ≤ (t.port p).queue.length := Nat.not_le.2 ((kept.2 room).resolve_left answered)
    exact (if_neg answered).trans (if_neg place)
  · obtain ⟨r, spelled⟩ := requestOf_isSome known payload
    have named : requestCode r = code := requestCode_of_requestOf spelled
    have served : frame.sum = 0 → run = exec (requestCommand p tag r) t :=
      fun sum => (right sum).trans (dispatch_request known spelled)
    refine ⟨r, spelled, served, fun sum plain room supervisors => ?_, fun sum answered four => ?_⟩
    · obtain ⟨c, listed, same⟩ := supervisors
      have needs : supervised r = true := by rw [supervised_eq, named, same]; exact decide_eq_true listed
      rw [served sum, exec_refused_of_plain (kept.2 room) needs (by rwa [State.setReceiver_port_same]), named]
    · have none : ¬ t.Room p tag := mt kept.1 (State.not_room_iff.2 ⟨answered, four⟩)
      exact overrun_of_eq_post ((served sum).trans (exec_of_full none r))

end Sys2Proof.Machine
end

section
/-! PROOFS. The step on a queue that is not empty, and on an empty one. -/

namespace Sys2Proof.Machine

open Sys2Proof

@[simp] theorem State.setPending_setPending (s : State) (q q' : List Instr) :
    (s.setPending q).setPending q' = s.setPending q' := rfl

/-- The command at the front is run on the state that still holds the rest of the queue. -/
theorem step_of_pending_cons {s : State} {i : Instr} {rest : List Instr} (queued : s.pending = i :: rest) :
    step s = exec i (s.setPending rest) := by
  rw [step, queued]

/-- On an empty queue the block idles (notes/assumptions/1.md). -/
theorem step_of_pending_nil {s : State} (empty : s.pending = []) : step s = .next s := by
  rw [step, empty]

/-- Settles O1: `step_of_pending_cons` on the queue put in place, of which only the rest stays, and
`step_of_pending_nil` on the emptied one. -/
theorem stepTakesFrontCommand : Obligations.StepTakesFrontCommand := by
  intro s i rest
  constructor
  · have front := step_of_pending_cons (State.setPending_pending s (i :: rest))
    rwa [State.setPending_setPending] at front
  · exact step_of_pending_nil (State.setPending_pending s [])

end Sys2Proof.Machine
end
